-- ==== Sys2Proof/Word.lean ====
section
/-! DEFINITION. The word and byte types of the model (R10: registers are little-endian 32-bit words) and their plainest
arithmetic: two's complement readings, bit fields of a number, and the byte split of a word. -/

namespace Sys2Proof

/-- A 32-bit register or packet word (R10, R464). -/
abbrev Word := BitVec 32
/-- One byte. -/
abbrev Byte := BitVec 8

/-- Bits [hi:lo] of a number, as a number (R10: an inclusive bit range). -/
def bits (v hi lo : Nat) : Nat := v / 2 ^ lo % 2 ^ (hi + 1 - lo)

/-- Bit k of a number. -/
def bit (v k : Nat) : Bool := v / 2 ^ k % 2 == 1

/-- The number with its bits [hi:lo] replaced by x (taken modulo the width of the field). -/
def withBits (v hi lo x : Nat) : Nat :=
  v - bits v hi lo * 2 ^ lo + x % 2 ^ (hi + 1 - lo) * 2 ^ lo

/-- A number below 2^n read as two's complement. -/
def signed (n v : Nat) : Int := if v % 2 ^ n < 2 ^ (n - 1) then (v % 2 ^ n : Nat) else (v % 2 ^ n : Nat) - (2 ^ n : Nat)

/-- The n-bit two's complement code of an integer. -/
def unsigned (n : Nat) (x : Int) : Nat := (x % (2 ^ n : Nat)).toNat

/-- 0 or 1. -/
def b2n (b : Bool) : Nat := if b then 1 else 0

/-- A word as four bytes, least significant first (R464). -/
def wordBytes (v : Nat) : List Byte :=
  [BitVec.ofNat 8 v, BitVec.ofNat 8 (v / 2 ^ 8), BitVec.ofNat 8 (v / 2 ^ 16), BitVec.ofNat 8 (v / 2 ^ 24)]

end Sys2Proof
end

