-- ==== Sys2Proof/Config.lean ====
section
/-! DEFINITION. What one part fixes and the spec leaves open: opaque constants without a body, so that no statement can
rest on a value of them. Each is named in a log entry (notes/assumptions). -/

namespace Sys2Proof.Config

/-- Free values, one for each count of `State.fresh` (log 2). -/
opaque freeNat : Nat → Nat
/-- A free choice of rounding direction, where a rule gives a real value and no rounding (log 15). -/
opaque roundUp : Nat → Bool
/-- D_RX of R225 per (port mode, codeword position of the word), in 2^-16 ns (R227: fixed in the device; log 16). -/
opaque dRx : Nat → Nat → Int
/-- D_TX of R226 per (port mode, lane), in 2^-16 ns (R227; log 16). -/
opaque dTx : Nat → Nat → Int
/-- Fused K_TX at 25 degrees for (lane, rate code) (R263; log 16). -/
opaque kTx : Nat → Nat → BitVec 20
/-- Fused K_RX at 25 degrees for (lane, rate code) (R263; log 16). -/
opaque kRx : Nat → Nat → BitVec 20
/-- Fused temperature coefficients of a lane, as LANEn_KTC (R263, R280; log 16). -/
opaque ktc : Nat → Word
/-- The outcome of the signature and key check over an image's bytes: slot, bytes (R388, R606; log 17). -/
opaque signatureOk : Nat → List Byte → Bool
/-- Whether the header of an image is valid and its length within its slot (R606; log 17). -/
opaque headerOk : Nat → List Byte → Bool
/-- The SHA-384 digest of bytes, as a 384-bit value, most significant bit first (R390; log 17). -/
opaque sha384 : List Byte → BitVec 384
/-- The version and checksum words an image carries: major, minor, build as CF_IMG_VER or DEV_INFO W3 (R390, R491; log 17). -/
opaque imageVersion : List Byte → Word
/-- The firmware image checksum word of a main image (R491 W4; log 17). -/
opaque imageChecksum : List Byte → Word
/-- The fields of a parameter record of the Cold Frame in the order of `CfParam` (R393 gives no byte layout): none where
the record is malformed (log 17). -/
opaque paramFields : List Byte → Option (List Nat)
/-- A digest word of a shaft's configuration, as mirror records carry it (R575 gives no function; log 18). -/
opaque shaftDigest : List Nat → Word
/-- The T_CAL table of a calibrated meter: (calibration number, code) to 2^-16 ns (R347; log 19). -/
opaque tCal : Nat → Nat → Nat
/-- What an engine's own code does, which no rule gives (R443): for a count of free values, a unit, and what is asked of it; and
the conflicts of write planes at a bank (R130; log 22). -/
opaque engineCode : Nat → Nat → Nat → Nat → Nat

end Sys2Proof.Config
end

