-- ==== Sys2Proof/Syntax.lean ====
section
/-! DEFINITION. The commands: one constructor of `Instr` per row of spec/opcode_table.json, in the table's order. The table
gives no operand fields, so the operands are the model's (log 20). The first operand of every row, w, is how many ticks of
0.8 ns pass between the command before it and this one (log 3). -/

namespace Sys2Proof

/-- The register views of R504. -/
inductive View | pcie | spi | fw
  deriving DecidableEq, Repr
/-- The timing sides (R22). -/
inductive Side | a | b
  deriving DecidableEq, Repr
/-- A direction of a lane (R70). -/
inductive Dir | tx | rx
  deriving DecidableEq, Repr

/-- The origin of a command (R470). -/
inductive Origin
  | ring (k : Fin 4)
  | spi
  | inband (port : Fin 40) (mac : BitVec 48)
  | brely
  | applet (e : Fin 16)
  | firmware
  deriving DecidableEq, Repr

/-- A command packet's header fields beside OPCODE and LENGTH (R465), and its parameter words (R464). -/
structure Pkt where
  tag : BitVec 10
  fenceBefore : Bool := false
  fenceAfter : Bool := false
  chain : Bool := false
  reply : Bool := false
  part : BitVec 2 := 0
  target : BitVec 16
  cookie : Word := 0
  words : List Word := []
  deriving DecidableEq, Repr

/-- The fields of a ladder message (R59, R60); its KIND is the row. -/
structure LadderMsg where
  tag : BitVec 10
  lane : Nat
  width : Nat
  serial : BitVec 64
  rung : Nat
  rateMax : Nat
  foms : List Nat
  reason : Nat
  deriving DecidableEq, Repr

/-- A frame on the wire as a receive MAC takes it: its bytes from the destination address to the FCS, and what the stamp
unit takes from the lane (R225): the lane that carried the word, how many ticks ago tick C was, the phase from C to the
capture edge in 2^-16 ns, b in unit intervals, and the D_RX position of the word in its codeword. -/
structure RxFrame where
  bytes : List Byte
  lane : Fin 40
  ago : Nat := 0
  phi : Nat := 0
  b : Nat := 0
  pos : Nat := 0
  deriving DecidableEq, Repr

/-- Which condition of link_ok fails (R96), beside those the lane rows carry. -/
inductive LinkCause | pcs | autoneg | localFault | remoteFault
  deriving DecidableEq, Repr

/-- Symbol errors met on reading a copy: (cell of the frame, word of the cell, (position 0 to 71, error value) list) (R152). -/
structure ReadErr where
  cell : Nat
  word : Nat
  errs : List (Nat × Byte)
  deriving DecidableEq, Repr

/-- A Hamming error met in descriptor, link or free-list memory (R154). -/
inductive RamErr
  | queueSingle (out : Fin 42) (tc : Fin 8)
  | queueDouble (out : Fin 42) (tc : Fin 8)
  | bankSingle (b : Fin 16)
  | bankDouble (b : Fin 16)
  deriving DecidableEq, Repr

/-- A fine interval meter (R338). -/
inductive MeterId
  | lane (n : Fin 40)
  | clk (m : Fin 20)
  | cf (i : Fin 8)
  deriving DecidableEq, Repr

/-- What calibration measured (R345, R347): the ring periods in units of 10^-16 s, whether the code histogram and the fit
passed (every h[k] in bounds, rms residual in 10^-16 s), and the table it built, by number. -/
structure CalResult where
  pStart : Nat
  pStop : Nat
  histOk : Bool
  rms : Nat
  table : Nat
  deriving DecidableEq, Repr

/-- What a converted edge gives: the SAR code of the capacitor (R341), or the vernier count and stop-edge polarity (R343). -/
inductive Conv
  | cap (code : Nat)
  | vern (n : Nat) (rising : Bool)
  deriving DecidableEq, Repr

/-- The target of WAIT_UNTIL (R448). -/
inductive WaitTarget
  | tick (t : BitVec 40)
  | time (tb : Fin 8) (sec : BitVec 64) (ns : BitVec 32)
  deriving DecidableEq, Repr

/-- The counter PMC_READ names (R459). -/
inductive PmcCounter
  | own (k : Fin 4)
  | global (g : Fin 64)
  | engine (e : Fin 18) (k : Fin 4)
  deriving DecidableEq, Repr

/-- The fundamental resets of the PCIe endpoint (R610). -/
inductive PcieReset | perst | hot | linkDisable
  deriving DecidableEq, Repr

/-- The unit that ends its wake (R615, R617). -/
inductive WakeUnit
  | bed (b : Fin 4)
  | core
  deriving DecidableEq, Repr

/-- A mirror record (R575): TB1 to TB7 values (SEC, NS, FNS) with increments, shaft states and digests, and the mean offset
of the claim message stamps in 2^-16 ns when 1,024 messages are complete (R576). -/
structure MirrorRec where
  tbs : List (Nat × Nat × Nat × Nat)
  shafts : List (Nat × Word)
  offset : Option Int
  deriving DecidableEq, Repr

/-- What a memory access of an applet was (R447, R537). -/
inductive AccessKind | read | write | fetch
  deriving DecidableEq, Repr

/-- How a register write reaches the device (R505, R506): a whole 32-bit access, the first word of a 64-bit PCIe access or
SPI burst with the word that follows, or an access with partial byte enables (a word cut short, over SPI), or an SPI transaction with an opcode of neither kind. -/
inductive Access
  | whole (v : Word)
  | pair (v v2 : Word)
  | partialBytes (v : Word)
  | badOpcode
  deriving DecidableEq, Repr

/-- The commands, one per row of spec/opcode_table.json. -/
inductive Instr
  /-- DEV_INFO (R491). -/
  | devInfo (w : Nat) (o : Origin) (p : Pkt)
  /-- FUNCTION_RESET (R613). -/
  | functionReset (w : Nat) (o : Origin) (p : Pkt)
  /-- SET_LATENCY_TOLERANCE (R614). -/
  | setLatencyTolerance (w : Nat) (o : Origin) (p : Pkt)
  /-- ABORT (R477). -/
  | abort (w : Nat) (o : Origin) (p : Pkt)
  /-- FENCE (R475). -/
  | fence (w : Nat) (o : Origin) (p : Pkt)
  /-- PORT_CONFIG (R492). -/
  | portConfig (w : Nat) (o : Origin) (p : Pkt)
  /-- PORT_ENABLE (R105). -/
  | portEnable (w : Nat) (o : Origin) (p : Pkt)
  /-- PORT_DISABLE (R104). -/
  | portDisable (w : Nat) (o : Origin) (p : Pkt)
  /-- PORT_STATUS (R492). -/
  | portStatus (w : Nat) (o : Origin) (p : Pkt)
  /-- LANE_LADDER (R63). -/
  | laneLadder (w : Nat) (o : Origin) (p : Pkt)
  /-- PORT_REGANG (R90). -/
  | portRegang (w : Nat) (o : Origin) (p : Pkt)
  /-- FDB_WRITE (R119). -/
  | fdbWrite (w : Nat) (o : Origin) (p : Pkt)
  /-- FDB_READ (R493). -/
  | fdbRead (w : Nat) (o : Origin) (p : Pkt)
  /-- STREAM_ID_WRITE (R493). -/
  | streamIdWrite (w : Nat) (o : Origin) (p : Pkt)
  /-- MCAST_GROUP_WRITE (R493). -/
  | mcastGroupWrite (w : Nat) (o : Origin) (p : Pkt)
  /-- QUEUE_CONFIG (R192). -/
  | queueConfig (w : Nat) (o : Origin) (p : Pkt)
  /-- GATE_LIST_LOAD (R174). -/
  | gateListLoad (w : Nat) (o : Origin) (p : Pkt)
  /-- GATE_LIST_SWAP (R175). -/
  | gateListSwap (w : Nat) (o : Origin) (p : Pkt)
  /-- TIMED_LAUNCH (R177). -/
  | timedLaunch (w : Nat) (o : Origin) (p : Pkt)
  /-- TB_READ (R242). -/
  | tbRead (w : Nat) (o : Origin) (p : Pkt)
  /-- TB_SET (R213). -/
  | tbSet (w : Nat) (o : Origin) (p : Pkt)
  /-- TB_STEP (R214). -/
  | tbStep (w : Nat) (o : Origin) (p : Pkt)
  /-- TB_SET_INCR (R211). -/
  | tbSetIncr (w : Nat) (o : Origin) (p : Pkt)
  /-- PTP_PORT_CONFIG (R242). -/
  | ptpPortConfig (w : Nat) (o : Origin) (p : Pkt)
  /-- ASYM_SET (R272). -/
  | asymSet (w : Nat) (o : Origin) (p : Pkt)
  /-- TRELLIS_TABLE_LOAD (R305). -/
  | trellisTableLoad (w : Nat) (o : Origin) (p : Pkt)
  /-- TRELLIS_FORCE (R303). -/
  | trellisForce (w : Nat) (o : Origin) (p : Pkt)
  /-- TRELLIS_STATUS (R305). -/
  | trellisStatus (w : Nat) (o : Origin) (p : Pkt)
  /-- DCO_STEER (R305). -/
  | dcoSteer (w : Nat) (o : Origin) (p : Pkt)
  /-- MEAS_JOB_START (R360). -/
  | measJobStart (w : Nat) (o : Origin) (p : Pkt)
  /-- MEAS_RESULT (R361). -/
  | measResult (w : Nat) (o : Origin) (p : Pkt)
  /-- CF_IDENTITY (R404). -/
  | cfIdentity (w : Nat) (o : Origin) (p : Pkt)
  /-- CF_AUDIT_READ (R404). -/
  | cfAuditRead (w : Nat) (o : Origin) (p : Pkt)
  /-- SHAFT_CONFIG (R435). -/
  | shaftConfig (w : Nat) (o : Origin) (p : Pkt)
  /-- SHAFT_MOTION (R429). -/
  | shaftMotion (w : Nat) (o : Origin) (p : Pkt)
  /-- SYNC_PIN_CLAIM (R414). -/
  | syncPinClaim (w : Nat) (o : Origin) (p : Pkt)
  /-- SYNC_PIN_RELEASE (R414). -/
  | syncPinRelease (w : Nat) (o : Origin) (p : Pkt)
  /-- APPLET_LOAD (R452). -/
  | appletLoad (w : Nat) (o : Origin) (p : Pkt)
  /-- APPLET_START (R452). -/
  | appletStart (w : Nat) (o : Origin) (p : Pkt)
  /-- APPLET_STOP (R451). -/
  | appletStop (w : Nat) (o : Origin) (p : Pkt)
  /-- PMC_CONFIG (R458). -/
  | pmcConfig (w : Nat) (o : Origin) (p : Pkt)
  /-- FAULT_READ (R551). -/
  | faultRead (w : Nat) (o : Origin) (p : Pkt)
  /-- FAULT_ACK (R551). -/
  | faultAck (w : Nat) (o : Origin) (p : Pkt)
  /-- FAULT_INJECT_ARM (R548). -/
  | faultInjectArm (w : Nat) (o : Origin) (p : Pkt)
  /-- CLAIM_STATUS (R580). -/
  | claimStatus (w : Nat) (o : Origin) (p : Pkt)
  /-- SIDE_PREFER (R580). -/
  | sidePrefer (w : Nat) (o : Origin) (p : Pkt)
  /-- GRAFT_JOIN (R572). -/
  | graftJoin (w : Nat) (o : Origin) (p : Pkt)
  /-- GRAFT_LEAVE (R580). -/
  | graftLeave (w : Nat) (o : Origin) (p : Pkt)
  /-- BANK_RETIRE (R156). -/
  | bankRetire (w : Nat) (o : Origin) (p : Pkt)
  /-- BANK_RESTORE (R156). -/
  | bankRestore (w : Nat) (o : Origin) (p : Pkt)
  /-- IMAGE_WRITE (R500). -/
  | imageWrite (w : Nat) (o : Origin) (p : Pkt)
  /-- IMAGE_ACTIVATE (R594). -/
  | imageActivate (w : Nat) (o : Origin) (p : Pkt)
  /-- CMD_SQ_DOORBELL (R481). -/
  | cmdSqDoorbell (w : Nat) (v : View) (k : Fin 4) (x : Word)
  /-- CMD_RING_RESET (R483). -/
  | cmdRingReset (w : Nat) (v : View) (k : Fin 4) (x : Word)
  /-- CMD_CQ_HEAD_WRITE (R482). -/
  | cmdCqHeadWrite (w : Nat) (v : View) (k : Fin 4) (x : Word)
  /-- COAL_US_EXPIRY (R482). -/
  | coalUsExpiry (w : Nat) (k : Fin 4)
  /-- CMD_MBX_WDATA (R485). -/
  | cmdMbxWdata (w : Nat) (x : Word)
  /-- SUBMIT (R485). -/
  | submit (w : Nat)
  /-- DISCARD (R485). -/
  | discard (w : Nat)
  /-- CMD_MBX_RDATA (R486). -/
  | cmdMbxRdata (w : Nat)
  /-- BRELY_COMMAND (R489). -/
  | brelyCommand (w : Nat) (bytes : List Byte)
  /-- FENCE_WAIT_END (R473). -/
  | fenceWaitEnd (w : Nat) (o : Origin) (tag : BitVec 10)
  /-- TIMEOUT (R476). -/
  | timeout (w : Nat) (o : Origin) (tag : BitVec 10)
  /-- LADDER_OFFER_RX (R62). -/
  | ladderOfferRx (w : Nat) (n : Fin 40) (m : LadderMsg)
  /-- LADDER_STEP_RX (R62). -/
  | ladderStepRx (w : Nat) (n : Fin 40) (m : LadderMsg)
  /-- LADDER_STEP_ACK_RX (R62). -/
  | ladderStepAckRx (w : Nat) (n : Fin 40) (m : LadderMsg)
  /-- LADDER_REPORT_RX (R62). -/
  | ladderReportRx (w : Nat) (n : Fin 40) (m : LadderMsg)
  /-- LADDER_FINAL_RX (R62). -/
  | ladderFinalRx (w : Nat) (n : Fin 40) (m : LadderMsg)
  /-- LADDER_FINAL_ACK_RX (R62). -/
  | ladderFinalAckRx (w : Nat) (n : Fin 40) (m : LadderMsg)
  /-- LADDER_ABANDON_RX (R62). -/
  | ladderAbandonRx (w : Nat) (n : Fin 40) (m : LadderMsg)
  /-- LADDER_REPEAT (R62). -/
  | ladderRepeat (w : Nat) (n : Fin 40)
  /-- OFFER_TMO (R62). -/
  | offerTmo (w : Nat) (n : Fin 40)
  /-- ADAPT_TMO (R62). -/
  | adaptTmo (w : Nat) (n : Fin 40)
  /-- ADAPT_REPORT_TMO (R62). -/
  | adaptReportTmo (w : Nat) (n : Fin 40)
  /-- LADDER_SWITCH_DELAY (R62). -/
  | ladderSwitchDelay (w : Nat) (n : Fin 40)
  /-- LANE_WINDOW_END (R66). -/
  | laneWindowEnd (w : Nat) (n : Fin 40) (hist : List (List Nat))
  /-- CDR_LOST (R67). -/
  | cdrLost (w : Nat) (n : Fin 40)
  /-- CDR_LOCK (R73). -/
  | cdrLock (w : Nat) (n : Fin 40) (ppb : Int)
  /-- COARSE_SWEEP_DONE (R65). -/
  | coarseSweepDone (w : Nat) (n : Fin 40) (foms : List Nat)
  /-- ADAPT_RESTART (R65). -/
  | adaptRestart (w : Nat) (v : View) (n : Fin 40)
  /-- FOM_MIN_CLR (R79). -/
  | fomMinClr (w : Nat) (v : View) (n : Fin 40)
  /-- LANE_PWR_WRITE (R74). -/
  | lanePwrWrite (w : Nat) (v : View) (n : Fin 40) (x : Word)
  /-- LANE_POWER_ENTRY_DONE (R71). -/
  | lanePowerEntryDone (w : Nat) (n : Fin 40) (d : Dir)
  /-- LANE_WAKE_DONE (R70). -/
  | laneWakeDone (w : Nat) (n : Fin 40) (d : Dir)
  /-- LANE_TXEQ_WRITE (R69). -/
  | laneTxeqWrite (w : Nat) (v : View) (n : Fin 40) (k : Fin 4) (x : Word)
  /-- PRBS_CTL_WRITE (R85). -/
  | prbsCtlWrite (w : Nat) (v : View) (n : Fin 40) (x : Word)
  /-- SLIP (R254). -/
  | slip (w : Nat) (n : Fin 40) (dfs : Nat)
  /-- PHASE_ACQ_TIMER (R255). -/
  | phaseAcqTimer (w : Nat) (n : Fin 40)
  /-- PHASE_WINDOW_PUBLISH (R257). -/
  | phaseWindowPublish (w : Nat) (n : Fin 40) (unwrapped : Int) (rate : Int)
  /-- SKEW_MARKER_PERIOD (R261). -/
  | skewMarkerPeriod (w : Nat) (n : Fin 40) (diff : Int)
  /-- TX_ALIGN_ERR (R250). -/
  | txAlignErr (w : Nat) (n : Fin 40)
  /-- TX_REALIGN (R250). -/
  | txRealign (w : Nat) (n : Fin 40)
  /-- K_TEMP_UPDATE (R264). -/
  | kTempUpdate (w : Nat) (n : Fin 40) (tjMilli : Int)
  /-- PORT_ALPHA_HI_WRITE (R267). -/
  | portAlphaHiWrite (w : Nat) (v : View) (n : Fin 40) (x : Word)
  /-- RX_FRAME (R646). -/
  | rxFrame (w : Nat) (n : Fin 40) (f : RxFrame)
  /-- LINK_FAULT (R96). -/
  | linkFault (w : Nat) (n : Fin 40) (c : LinkCause)
  /-- LINK_OK_HELD (R97). -/
  | linkOkHeld (w : Nat) (n : Fin 40)
  /-- DOWN_HOLD_ELAPSED (R98). -/
  | downHoldElapsed (w : Nat) (n : Fin 40)
  /-- RECOVERY_ATTEMPT_FAIL (R102). -/
  | recoveryAttemptFail (w : Nat) (n : Fin 40)
  /-- DRAIN_QUEUES_EMPTY (R104). -/
  | drainQueuesEmpty (w : Nat) (n : Fin 40)
  /-- DRAIN_TMO (R104). -/
  | drainTmo (w : Nat) (n : Fin 40)
  /-- LINK_RESTART (R109). -/
  | linkRestart (w : Nat) (v : View) (n : Fin 40)
  /-- L1_SYNC_TLV_RX (R275). -/
  | l1SyncTlvRx (w : Nat) (n : Fin 40) (flags : BitVec 6) (optParams : Bool)
  /-- L1_SYNC_TLV_SEND (R275). -/
  | l1SyncTlvSend (w : Nat) (n : Fin 40)
  /-- L1_SYNC_RECEIPT_TMO (R275). -/
  | l1SyncReceiptTmo (w : Nat) (n : Fin 40)
  /-- L1_CFG_WRITE (R282). -/
  | l1CfgWrite (w : Nat) (v : View) (n : Fin 40) (x : Word)
  /-- HOST_FRAME_INJECT (R34). -/
  | hostFrameInject (w : Nat) (pre : List Word) (bytes : List Byte)
  /-- FRAME_LINK (R131). -/
  | frameLink (w : Nat) (pl : Fin 4) (ram : Option RamErr)
  /-- RAKE_GAP (R138). -/
  | rakeGap (w : Nat) (out : Fin 42) (src : Fin 42) (tc : Fin 8)
  /-- TENDED_RELEASE (R141). -/
  | tendedRelease (w : Nat) (out : Fin 42)
  /-- AGE_DROP (R146). -/
  | ageDrop (w : Nat) (out : Fin 42) (tc : Fin 8) (timed : Bool)
  /-- FDB_AGEING (R120). -/
  | fdbAgeing (w : Nat) (bucket : Fin 16384) (way : Fin 4)
  /-- RECOVERY_RESET_TMO (R191). -/
  | recoveryResetTmo (w : Nat) (i : Fin 4097)
  /-- TX_COMPLETE (R132). -/
  | txComplete (w : Nat) (out : Fin 42) (ram : Option RamErr)
  /-- FREE_LIST_AUDIT (R154). -/
  | freeListAudit (w : Nat) (ram : Option RamErr)
  /-- BANK_RETIRED (R155). -/
  | bankRetired (w : Nat) (b : Fin 16)
  /-- BANK_TEST_DONE (R155). -/
  | bankTestDone (w : Nat) (b : Fin 16) (pass : Bool)
  /-- BANK_RATE_WINDOW (R157). -/
  | bankRateWindow (w : Nat) (b : Fin 16)
  /-- SELECTION_POINT (R167). -/
  | selectionPoint (w : Nat) (out : Fin 42) (errs : List ReadErr) (ram : Option RamErr)
  /-- TIMED_LAUNCH_READY (R179). -/
  | timedLaunchReady (w : Nat) (n : Fin 40)
  /-- LAUNCH_TICK (R180). -/
  | launchTick (w : Nat) (n : Fin 40) (errs : List ReadErr)
  /-- LAUNCH_DROP (R180). -/
  | launchDrop (w : Nat) (n : Fin 40)
  /-- GATE_BOUNDARY (R173). -/
  | gateBoundary (w : Nat) (n : Fin 40)
  /-- GATE_SWAPPED (R175). -/
  | gateSwapped (w : Nat) (n : Fin 40)
  /-- QUEG_POOL_CFG_WRITE (R187). -/
  | quegPoolCfgWrite (w : Nat) (v : View) (x : Word)
  /-- TB_INCR_LO_WRITE (R211). -/
  | tbIncrLoWrite (w : Nat) (v : View) (n : Fin 8) (x : Word)
  /-- TB_INCR_HI_WRITE (R211). -/
  | tbIncrHiWrite (w : Nat) (v : View) (n : Fin 8) (x : Word)
  /-- TB_ENABLE_WRITE (R207). -/
  | tbEnableWrite (w : Nat) (v : View) (x : Word)
  /-- SNAP (R244). -/
  | snap (w : Nat) (v : View)
  /-- SCHEDULED_STEP (R214). -/
  | scheduledStep (w : Nat) (n : Fin 8)
  /-- SLEW_DONE (R215). -/
  | slewDone (w : Nat) (n : Fin 8)
  /-- TB_CAP_READ (R245). -/
  | tbCapRead (w : Nat) (v : View) (first : Bool)
  /-- TRELLIS_LOOP_UPDATE (R294). -/
  | trellisLoopUpdate (w : Nat) (x : Side)
  /-- QUAL_TIMER (R288). -/
  | qualTimer (w : Nat) (x : Side) (e : Fin 16)
  /-- WTR_TIMER (R288). -/
  | wtrTimer (w : Nat) (x : Side) (e : Fin 16)
  /-- DRIFT_WINDOW_END (R290). -/
  | driftWindowEnd (w : Nat) (x : Side) (e : Fin 16)
  /-- HOLDOFF_ELAPSED (R299). -/
  | holdoffElapsed (w : Nat) (x : Side)
  /-- ACQ_TMO (R299). -/
  | acqTmo (w : Nat) (x : Side)
  /-- MODEL_SAMPLE (R297). -/
  | modelSample (w : Nat) (x : Side)
  /-- HOLDOVER_DCO_WRITE (R298). -/
  | holdoverDcoWrite (w : Nat) (x : Side)
  /-- XCHK_SECOND (R287). -/
  | xchkSecond (w : Nat) (x : Side) (e : Fin 16) (spare : Int) (mean : Int)
  /-- PTP_OFFSET (R283). -/
  | ptpOffset (w : Nat) (n : Fin 40) (a b c d : Int) (chg0 : Word) (intervalTicks : Nat)
  /-- ROOT_PLL_LOCK (R312). -/
  | rootPllLock (w : Nat)
  /-- ROOT_UNLOCK (R321). -/
  | rootUnlock (w : Nat)
  /-- OSC_LOSS (R314). -/
  | oscLoss (w : Nat)
  /-- OSC_RETURN (R314). -/
  | oscReturn (w : Nat)
  /-- RESTARTED (R323). -/
  | restarted (w : Nat)
  /-- SYN_LOCK (R317). -/
  | synLock (w : Nat) (x : Side)
  /-- SYN_UNLOCK (R319). -/
  | synUnlock (w : Nat) (x : Side)
  /-- CORE_DIV_REQ (R616). -/
  | coreDivReq (w : Nat) (v : View) (x : Word)
  /-- CORE_DIV_DONE (R313). -/
  | coreDivDone (w : Nat)
  /-- SYN_SLEW_MOVE (R316). -/
  | synSlewMove (w : Nat) (x : Side)
  /-- PPS_OUT_PULSE (R331). -/
  | ppsOutPulse (w : Nat)
  /-- PPS_PULSE_END (R331). -/
  | ppsPulseEnd (w : Nat)
  /-- LOCKMON_REFRESH (R326). -/
  | lockmonRefresh (w : Nat)
  /-- METER_CAL_START (R346). -/
  | meterCalStart (w : Nat)
  /-- CAL_DONE (R347). -/
  | calDone (w : Nat) (m : MeterId) (r : CalResult)
  /-- SHADOW_BLOCK_END (R349). -/
  | shadowBlockEnd (w : Nat) (m : MeterId) (mean : Int) (rms : Nat)
  /-- RING_PERIOD_CHECK (R346). -/
  | ringPeriodCheck (w : Nat) (m : MeterId) (pStart pStop : Nat)
  /-- METER_EDGE (R354). -/
  | meterEdge (w : Nat) (m : MeterId) (rising : Bool) (c : Conv)
  /-- MEAS_GATE_CLOSE (R370). -/
  | measGateClose (w : Nat) (m : MeterId)
  /-- CLK_MTR_RD_W0 (R377). -/
  | clkMtrRdW0 (w : Nat) (v : View) (first : Bool)
  /-- CF_REQUEST (R384). -/
  | cfRequest (w : Nat)
  /-- CF_REPLY_READ (R385). -/
  | cfReplyRead (w : Nat)
  /-- TAMPER_SAMPLE (R396). -/
  | tamperSample (w : Nat) (open0 open1 : Bool)
  /-- VBAT_LOW (R397). -/
  | vbatLow (w : Nat)
  /-- CF_POWER_FAIL (R403). -/
  | cfPowerFail (w : Nat)
  /-- LOCKSTEP (R387). -/
  | lockstep (w : Nat)
  /-- CF_IMAGE_START (R389). -/
  | cfImageStart (w : Nat)
  /-- SHAFT_INJECTION (R424). -/
  | shaftInjection (w : Nat) (s : Fin 4)
  /-- SYNC_PIN_EDGE (R416). -/
  | syncPinEdge (w : Nat) (j : Fin 16)
  /-- SHEARS_ENTER (R544). -/
  | shearsEnter (w : Nat)
  /-- HALT_FRAME_DONE (R437). -/
  | haltFrameDone (w : Nat) (n : Fin 40)
  /-- TIME_READ (R448). -/
  | timeRead (w : Nat) (e : Fin 16)
  /-- WAIT_UNTIL (R448). -/
  | waitUntil (w : Nat) (e : Fin 16) (t : WaitTarget)
  /-- WAIT_UNTIL_WAKE (R448). -/
  | waitUntilWake (w : Nat) (e : Fin 16)
  /-- FRAME_SEND (R448). -/
  | frameSend (w : Nat) (e : Fin 16) (pre : List Word) (bytes : List Byte)
  /-- MSG_PUT (R448). -/
  | msgPut (w : Nat) (e : Fin 16) (ws : List Word)
  /-- MSG_GET (R448). -/
  | msgGet (w : Nat) (e : Fin 16)
  /-- COMMAND (R448). -/
  | command (w : Nat) (e : Fin 16) (opcode : BitVec 16) (p : Pkt)
  /-- PMC_READ (R459). -/
  | pmcRead (w : Nat) (e : Fin 16) (c : PmcCounter)
  /-- WDT_KICK (R448). -/
  | wdtKick (w : Nat) (e : Fin 16)
  /-- EXIT (R448). -/
  | exit (w : Nat) (e : Fin 16)
  /-- VIOLATION (R447). -/
  | violation (w : Nat) (e : Fin 16) (addr : Word) (k : AccessKind)
  /-- WDT_EXPIRED (R449). -/
  | wdtExpired (w : Nat) (e : Fin 16)
  /-- APPLET_STOPPED (R451). -/
  | appletStopped (w : Nat) (e : Fin 16)
  /-- TO_FULL (R462). -/
  | toFull (w : Nat) (v : View) (e : Fin 16)
  /-- FROM_FULL_CLEAR (R462). -/
  | fromFullClear (w : Nat) (v : View) (e : Fin 16)
  /-- GLOBAL_EN (R457). -/
  | globalEn (w : Nat) (v : View) (x : Word)
  /-- PMC_SMP_CTL_WRITE (R460). -/
  | pmcSmpCtlWrite (w : Nat) (v : View) (b : Fin 5) (x : Word)
  /-- PMC_SMP_READ (R463). -/
  | pmcSmpRead (w : Nat) (v : View) (b : Fin 5) (first : Bool)
  /-- REGISTER_WRITE (R513). -/
  | registerWrite (w : Nat) (v : View) (addr : Nat) (x : Access)
  /-- EVENT_CLEAR (R519). -/
  | eventClear (w : Nat) (v : View) (addr : Nat) (x : Word)
  /-- GLB_SRC_EN_WRITE (R519). -/
  | glbSrcEnWrite (w : Nat) (v : View) (x : Word)
  /-- GLB_LOCK (R514). -/
  | glbLock (w : Nat) (v : View) (x : Word)
  /-- PP_FAIL (R515). -/
  | ppFail (w : Nat) (v : View) (addr : Nat)
  /-- GLB_DEV_RESET (R611). -/
  | glbDevReset (w : Nat) (v : View) (x comp : Word)
  /-- GLB_DORMANT (R620). -/
  | glbDormant (w : Nat) (v : View) (x comp : Word)
  /-- FLT_SHEARS_REQ (R544). -/
  | fltShearsReq (w : Nat) (v : View) (x comp : Word)
  /-- FLT_SHEARS_REL (R546). -/
  | fltShearsRel (w : Nat) (v : View) (x comp : Word)
  /-- RED_GRAFT_FORCE (R577). -/
  | redGraftForce (w : Nat) (v : View) (x comp : Word)
  /-- FWD_SEL_WRITE (R521). -/
  | fwdSelWrite (w : Nat) (v : View) (x : Word)
  /-- FWD_SNAPSHOT_DONE (R521). -/
  | fwdSnapshotDone (w : Nat)
  /-- FWD_CLR (R521). -/
  | fwdClr (w : Nat) (v : View)
  /-- PARITY_SCAN (R516). -/
  | parityScan (w : Nat) (addr : Nat) (upset : Bool)
  /-- FLT_WRITE_REQUEST (R526). -/
  | fltWriteRequest (w : Nat)
  /-- ME1_WDT (R527). -/
  | me1Wdt (w : Nat)
  /-- SAFETY_SELFCHECK (R525). -/
  | safetySelfcheck (w : Nat)
  /-- REARM (R538). -/
  | rearm (w : Nat) (v : View)
  /-- FLT_PIN_WRITE (R542). -/
  | fltPinWrite (w : Nat) (v : View) (x : Word)
  /-- FAULT_PULSE_END (R543). -/
  | faultPulseEnd (w : Nat)
  /-- FACTORY_MODE_END (R549). -/
  | factoryModeEnd (w : Nat)
  /-- BRELY_CLAIM_SEND (R569). -/
  | brelyClaimSend (w : Nat)
  /-- BRELY_CLAIM_RX (R569). -/
  | brelyClaimRx (w : Nat) (k : Fin 2) (msg : BitVec 24)
  /-- CLAIM_PIN_SEND (R570). -/
  | claimPinSend (w : Nat)
  /-- CLAIM_PIN_RX (R570). -/
  | claimPinRx (w : Nat) (msg : BitVec 24)
  /-- BRELY_PATH_TMO (R569). -/
  | brelyPathTmo (w : Nat) (k : Fin 2)
  /-- PIN_PATH_TMO (R570). -/
  | pinPathTmo (w : Nat)
  /-- ALIGNED_TIMER (R561). -/
  | alignedTimer (w : Nat) (errFs : Int)
  /-- RESTORE_HOLD_END (R559). -/
  | restoreHoldEnd (w : Nat)
  /-- MIRROR_RECORD_SEND (R575). -/
  | mirrorRecordSend (w : Nat)
  /-- MIRROR_RECORD_RX (R575). -/
  | mirrorRecordRx (w : Nat) (r : MirrorRec)
  /-- MIRROR_DONE (R575). -/
  | mirrorDone (w : Nat)
  /-- LAST_GASP (R571). -/
  | lastGasp (w : Nat)
  /-- HANDOVER_TMO (R580). -/
  | handoverTmo (w : Nat)
  /-- PAIR_HOLD_CLR (R582). -/
  | pairHoldClr (w : Nat) (v : View)
  /-- POWER_ON_RESET_RELEASE (R608). -/
  | powerOnResetRelease (w : Nat) (straps : BitVec 6)
  /-- BROWN_OUT (R601). -/
  | brownOut (w : Nat) (rail : Fin 5) (ticks : Nat)
  /-- RESET_N (R602). -/
  | resetN (w : Nat) (ticks : Nat)
  /-- PCIE_FUNDAMENTAL_RESET (R613). -/
  | pcieFundamentalReset (w : Nat) (k : PcieReset)
  /-- SAFETY_SELFCHECK_PASS (R608). -/
  | safetySelfcheckPass (w : Nat) (pass : Bool)
  /-- MAIN_IMAGE_VERIFIED (R606). -/
  | mainImageVerified (w : Nat) (readErr0 readErr1 : Bool)
  /-- CORE_READY (R608). -/
  | coreReady (w : Nat)
  /-- WAKE_N (R622). -/
  | wakeN (w : Nat) (ticks : Nat)
  /-- WAKE_TIMER (R622). -/
  | wakeTimer (w : Nat)
  /-- DORMANT_RAILS_KEPT (R623). -/
  | dormantRailsKept (w : Nat)
  /-- PCS_ALIGNED (R96). -/
  | pcsAligned (w : Nat) (n : Fin 40)
  /-- AN_DONE (R53). -/
  | anDone (w : Nat) (n : Fin 40) (rate : Fin 4) (fec : Bool)
  /-- CHK_LOCK (R85). -/
  | chkLock (w : Nat) (n : Fin 40) (lock : Bool) (errors : Nat)
  /-- FLASH_PROGRAMMING_DONE (R476). -/
  | flashProgrammingDone (w : Nat)
  /-- LOW_POWER_WAKE_DONE (R617). -/
  | lowPowerWakeDone (w : Nat) (u : WakeUnit)
  /-- PRESENCE_LOST (R283). -/
  | presenceLost (w : Nat) (x : Side) (e : Fin 16)
  /-- ALIGN_LOST (R561). -/
  | alignLost (w : Nat) (errFs : Int)
  /-- DIVERGED (R558). -/
  | diverged (w : Nat)
  /-- BRELY_FRAME_RX (R569). -/
  | brelyFrameRx (w : Nat) (bytes : List Byte)
  /-- PCIE_LINK_UP (R323). -/
  | pcieLinkUp (w : Nat)
  /-- GROUP_LOW_WORD_READ (R511). -/
  | groupLowWordRead (w : Nat) (v : View) (addr : Nat)
  deriving DecidableEq, Repr

end Sys2Proof
end

