-- ==== Sys2Proof/Decode.lean ====
section
/-! DEFINITION. Words of the command table: no row of spec/opcode_table.json gives bits, so no word spells a command. Command
packets and frames are decoded where they arrive (Machine/Front.lean, Machine/Ingress.lean). -/

namespace Sys2Proof

/-- The command a word spells by the table's bits: none, since the table gives no row any bits. -/
def decodeTableWord (_nbits _w : Nat) : Option Instr := none

end Sys2Proof
end

