-- ==== Sys2Proof/Machine/Sparse.lean ====
section
/-! DEFINITION. A table from numbers to values in one canonical form: keys strictly rising, and no entry equal to what an
unlisted key reads as (the default d). Registers, counters, ring bytes, flash bytes and per-unit records are held so. -/

namespace Sys2Proof.Machine

/-- A sparse table. -/
abbrev Table (α : Type) := List (Nat × α)

/-- The value at a key: the entry's, or the default's where none is listed. -/
def tget {α : Type} (d : Nat → α) : Table α → Nat → α
  | [], k => d k
  | (j, v) :: t, k => if j = k then v else tget d t k

/-- The table without an entry at k. -/
def tdrop {α : Type} : Table α → Nat → Table α
  | [], _ => []
  | (j, v) :: t, k => if j = k then tdrop t k else (j, v) :: tdrop t k

/-- The table with v listed at k, keys kept rising. -/
def tput {α : Type} : Table α → Nat → α → Table α
  | [], k, v => [(k, v)]
  | (j, u) :: t, k, v =>
    if j = k then (k, v) :: t
    else if k < j then (k, v) :: (j, u) :: t
    else (j, u) :: tput t k v

/-- The table that reads v at k and as before elsewhere, in the canonical form. -/
def tset {α : Type} [DecidableEq α] (d : Nat → α) (t : Table α) (k : Nat) (v : α) : Table α :=
  if v = d k then tdrop t k else tput t k v

/-- The value at a key replaced by a function of it. -/
def tmod {α : Type} [DecidableEq α] (d : Nat → α) (t : Table α) (k : Nat) (f : α → α) : Table α :=
  tset d t k (f (tget d t k))

/-- Every listed value replaced by a function of it. -/
def tmap {α : Type} [DecidableEq α] (d : Nat → α) (f : α → α) (t : Table α) : Table α :=
  (t.map (fun e => (e.1, f e.2))).filter (fun e => decide (e.2 ≠ d e.1))

/-- Every key of the table is above b, and keys rise strictly. -/
def tsorted {α : Type} : Option Nat → Table α → Bool
  | _, [] => true
  | none, (j, _) :: t => tsorted (some j) t
  | some b, (j, _) :: t => decide (b < j) && tsorted (some j) t

/-- The canonical form: keys strictly rising, no entry equal to the default. -/
def twf {α : Type} [DecidableEq α] (d : Nat → α) (t : Table α) : Bool :=
  tsorted none t && t.all (fun e => decide (e.2 ≠ d e.1))

/-- Which keys have an entry. -/
def tkeys {α : Type} (t : Table α) : List Nat := t.map Prod.fst

end Sys2Proof.Machine
end

