-- ==== Sys2Proof/Machine/RegMap.lean ====
section
/-! DEFINITION. The register map: the BAR0 offset of every register under the manual's name (R508 and the block maps), and
for each its reset value, its writable bits by access code, and whether it carries parity (R516). -/

namespace Sys2Proof.Machine

/-- What the map says of a register, or of a row of registers at equal strides: the first offset within its block, the
stride and the count; the reset value; the bits coded RW, RWE and W1C (R11); whether a parity bit covers it (R516). -/
structure RegInfo where
  off : Nat
  stride : Nat
  count : Nat
  reset : Nat
  rw : Nat
  rwe : Nat
  w1c : Nat
  par : Bool
  deriving DecidableEq, Repr

namespace Reg

def LANE_CTL (n : Nat) : Nat := 0x100000 + 0x1000 * n + (0x000)
def LANE_CFG (n : Nat) : Nat := 0x100000 + 0x1000 * n + (0x004)
def LANE_LADDER_TMO (n : Nat) : Nat := 0x100000 + 0x1000 * n + (0x008)
def LANE_TXEQ0 (n : Nat) : Nat := 0x100000 + 0x1000 * n + (0x010)
def LANE_TXEQ1 (n : Nat) : Nat := 0x100000 + 0x1000 * n + (0x014)
def LANE_TXEQ2 (n : Nat) : Nat := 0x100000 + 0x1000 * n + (0x018)
def LANE_TXEQ3 (n : Nat) : Nat := 0x100000 + 0x1000 * n + (0x01C)
def LANE_STATUS (n : Nat) : Nat := 0x100000 + 0x1000 * n + (0x020)
def LANE_FOM (n : Nat) : Nat := 0x100000 + 0x1000 * n + (0x024)
def LANE_EYE (n : Nat) : Nat := 0x100000 + 0x1000 * n + (0x028)
def LANE_LADDER (n : Nat) : Nat := 0x100000 + 0x1000 * n + (0x02C)
def LANE_PEER_SER_LO (n : Nat) : Nat := 0x100000 + 0x1000 * n + (0x030)
def LANE_PEER_SER_HI (n : Nat) : Nat := 0x100000 + 0x1000 * n + (0x034)
def LANE_PWR (n : Nat) : Nat := 0x100000 + 0x1000 * n + (0x040)
def LANE_EVENT (n : Nat) : Nat := 0x100000 + 0x1000 * n + (0x044)
def LANE_IRQ_EN (n : Nat) : Nat := 0x100000 + 0x1000 * n + (0x048)
def LANE_PRBS_CTL (n : Nat) : Nat := 0x100000 + 0x1000 * n + (0x050)
def LANE_PRBS_ERR (n : Nat) : Nat := 0x100000 + 0x1000 * n + (0x054)
def LANE_PRBS_STAT (n : Nat) : Nat := 0x100000 + 0x1000 * n + (0x058)
def PORT_CTL (n : Nat) : Nat := 0x140000 + 0x1000 * n + (0x000)
def PORT_CFG (n : Nat) : Nat := 0x140000 + 0x1000 * n + (0x004)
def PORT_HOLD (n : Nat) : Nat := 0x140000 + 0x1000 * n + (0x008)
def PORT_MAC_LO (n : Nat) : Nat := 0x140000 + 0x1000 * n + (0x00C)
def PORT_MAC_HI (n : Nat) : Nat := 0x140000 + 0x1000 * n + (0x010)
def PORT_STATUS (n : Nat) : Nat := 0x140000 + 0x1000 * n + (0x020)
def PORT_LINK_TIME_NS (n : Nat) : Nat := 0x140000 + 0x1000 * n + (0x024)
def PORT_LINK_TIME_SEC (n : Nat) : Nat := 0x140000 + 0x1000 * n + (0x028)
def PORT_HOLD_LEFT (n : Nat) : Nat := 0x140000 + 0x1000 * n + (0x02C)
def PORT_EVENT (n : Nat) : Nat := 0x140000 + 0x1000 * n + (0x040)
def PORT_IRQ_EN (n : Nat) : Nat := 0x140000 + 0x1000 * n + (0x044)
def PORT_CNT_OVF (n : Nat) : Nat := 0x140000 + 0x1000 * n + (0x1A0)
def CORE_CFG : Nat := 0x180000 + (0x000)
def CORE_TENDED_REL : Nat := 0x180000 + (0x004)
def CORE_RAKE_GAP : Nat := 0x180000 + (0x008)
def CORE_BANK_THR : Nat := 0x180000 + (0x00C)
def CORE_FDB_AGE : Nat := 0x180000 + (0x010)
def CORE_STATUS : Nat := 0x180000 + (0x020)
def CORE_FREE_CELLS : Nat := 0x180000 + (0x024)
def CORE_FREE_DESC : Nat := 0x180000 + (0x028)
def CORE_TICKCNT_LO : Nat := 0x180000 + (0x02C)
def CORE_TICKCNT_HI : Nat := 0x180000 + (0x030)
def CORE_EVENT : Nat := 0x180000 + (0x040)
def CORE_IRQ_EN : Nat := 0x180000 + (0x044)
def CORE_RAKE_LAST : Nat := 0x180000 + (0x048)
def CORE_AGE_LIMIT (k : Nat) : Nat := 0x180000 + (0x100 + 4 * k)
def CORE_CNT_OVF : Nat := 0x180000 + (0x2A0)
def CORE_BANK_STATE (b : Nat) : Nat := 0x180000 + (0x400 + 0x10 * b)
def CORE_BANK_CORR (b : Nat) : Nat := 0x180000 + (0x404 + 0x10 * b)
def CORE_BANK_UNCORR (b : Nat) : Nat := 0x180000 + (0x408 + 0x10 * b)
def CORE_BANK_OVF : Nat := 0x180000 + (0x500)
def CORE_PMAP (n : Nat) : Nat := 0x180000 + (0x600 + 8 * n)
def CORE_PVID (n : Nat) : Nat := 0x180000 + (0x604 + 8 * n)
def QUE_SCHED (n : Nat) : Nat := 0x1A0000 + 0x800 * n + (0x000)
def QUE_TLCFG (n : Nat) : Nat := 0x1A0000 + 0x800 * n + (0x008)
def QUE_GL_STATUS (n : Nat) : Nat := 0x1A0000 + 0x800 * n + (0x040)
def QUE_GL_COUNT (n : Nat) : Nat := 0x1A0000 + 0x800 * n + (0x044)
def QUE_GL_CYCLE (n : Nat) : Nat := 0x1A0000 + 0x800 * n + (0x048)
def QUE_GL_BASE_NS (n : Nat) : Nat := 0x1A0000 + 0x800 * n + (0x4c)
def QUE_GL_BASE_SEC_LO (n : Nat) : Nat := 0x1A0000 + 0x800 * n + (0x50)
def QUE_GL_BASE_SEC_HI (n : Nat) : Nat := 0x1A0000 + 0x800 * n + (0x54)
def QUE_GL_CHG_NS (n : Nat) : Nat := 0x1A0000 + 0x800 * n + (0x58)
def QUE_GL_CHG_SEC_LO (n : Nat) : Nat := 0x1A0000 + 0x800 * n + (0x5c)
def QUE_GL_CHG_SEC_HI (n : Nat) : Nat := 0x1A0000 + 0x800 * n + (0x60)
def QUE_GL_IDX (n : Nat) : Nat := 0x1A0000 + 0x800 * n + (0x064)
def QUE_GL_DATA0 (n : Nat) : Nat := 0x1A0000 + 0x800 * n + (0x068)
def QUE_GL_DATA1 (n : Nat) : Nat := 0x1A0000 + 0x800 * n + (0x06C)
def QUE_EVENT (n : Nat) : Nat := 0x1A0000 + 0x800 * n + (0x080)
def QUE_IRQ_EN (n : Nat) : Nat := 0x1A0000 + 0x800 * n + (0x084)
def QUE_TL_STATUS (n : Nat) : Nat := 0x1A0000 + 0x800 * n + (0x090)
def QUE_TL_HEAD_NS (n : Nat) : Nat := 0x1A0000 + 0x800 * n + (0x94)
def QUE_TL_HEAD_SEC_LO (n : Nat) : Nat := 0x1A0000 + 0x800 * n + (0x98)
def QUE_TL_HEAD_SEC_HI (n : Nat) : Nat := 0x1A0000 + 0x800 * n + (0x9c)
def QUE_TL_LAST (n : Nat) : Nat := 0x1A0000 + 0x800 * n + (0x0A0)
def QUE_CLS_ADM (n : Nat) (c : Nat) : Nat := 0x1A0000 + 0x800 * n + (0x100 + 0x20 * c)
def QUE_CLS_QUANT (n : Nat) (c : Nat) : Nat := 0x1A0000 + 0x800 * n + (0x104 + 0x20 * c)
def QUE_CLS_AGE (n : Nat) (c : Nat) : Nat := 0x1A0000 + 0x800 * n + (0x108 + 0x20 * c)
def QUE_CLS_DEPTH (n : Nat) (c : Nat) : Nat := 0x1A0000 + 0x800 * n + (0x10C + 0x20 * c)
def QUE_CNT_OVF0 (n : Nat) : Nat := 0x1A0000 + 0x800 * n + (0x600)
def QUE_CNT_OVF1 (n : Nat) : Nat := 0x1A0000 + 0x800 * n + (0x604)
def QUEG_POOL_CFG : Nat := 0x1BE000 + (0x000)
def QUEG_POOL_STATUS : Nat := 0x1BE000 + (0x004)
def QUEG_SHARED_SIZE : Nat := 0x1BE000 + (0x008)
def QUEG_SHARED_USED : Nat := 0x1BE000 + (0x00C)
def QUEG_EVENT : Nat := 0x1BE000 + (0x040)
def QUEG_IRQ_EN : Nat := 0x1BE000 + (0x044)
def QUEG_LR_CTL (r : Nat) : Nat := 0x1BE000 + (0x100 + 0x10 * r)
def QUEG_LR_DELAY (r : Nat) : Nat := 0x1BE000 + (0x104 + 0x10 * r)
def QUEG_LR_CYCLE (r : Nat) : Nat := 0x1BE000 + (0x108 + 0x10 * r)
def QUEG_LR_OFFSET (r : Nat) : Nat := 0x1BE000 + (0x10C + 0x10 * r)
def TB_CTL : Nat := 0x040000 + (0x000)
def TB_STATUS : Nat := 0x040000 + (0x004)
def TB_EVENT : Nat := 0x040000 + (0x008)
def TB_IRQ_EN : Nat := 0x040000 + (0x00C)
def TB_KEEPER_LO : Nat := 0x040000 + (0x010)
def TB_KEEPER_HI : Nat := 0x040000 + (0x014)
def TB_RST_KSTOP_LO : Nat := 0x040000 + (0x020)
def TB_RST_KSTOP_HI : Nat := 0x040000 + (0x024)
def TB_RST_KSTART_LO : Nat := 0x040000 + (0x028)
def TB_RST_KSTART_HI : Nat := 0x040000 + (0x02C)
def TB_RST_INFO : Nat := 0x040000 + (0x030)
def TB_RST_TICK_LO : Nat := 0x040000 + (0x034)
def TB_RST_TICK_HI : Nat := 0x040000 + (0x038)
def TB_DMAP (n : Nat) : Nat := 0x040000 + (0x040 + 4 * n)
def TB_INCR_LO (n : Nat) : Nat := 0x040000 + (0x080 + 0x10 * n)
def TB_INCR_HI (n : Nat) : Nat := 0x040000 + (0x084 + 0x10 * n)
def TB_CHG (n : Nat) : Nat := 0x040000 + (0x088 + 0x10 * n)
def TB_SLEW_LEFT (n : Nat) : Nat := 0x040000 + (0x08C + 0x10 * n)
def TB_SNAP_TICK_LO : Nat := 0x040000 + (0x100)
def TB_SNAP_TICK_HI : Nat := 0x040000 + (0x104)
def TB_SNAP_KEEP_LO : Nat := 0x040000 + (0x108)
def TB_SNAP_KEEP_HI : Nat := 0x040000 + (0x10C)
def TB_SNAP_INFO : Nat := 0x040000 + (0x110)
def TB_SNAPV_NS (s n : Nat) : Nat := 0x040000 + (0x140 + 0x10 * (8 * s + n))
def TB_SNAPV_SEC_LO (s n : Nat) : Nat := 0x040000 + (0x144 + 0x10 * (8 * s + n))
def TB_SNAPV_SEC_HI (s n : Nat) : Nat := 0x040000 + (0x148 + 0x10 * (8 * s + n))
def TB_SNAPV_FNS (s n : Nat) : Nat := 0x040000 + (0x14C + 0x10 * (8 * s + n))
def TB_PTP (p : Nat) : Nat := 0x040000 + (0x300 + 4 * p)
def TB_LINKDLY_LO (p : Nat) : Nat := 0x040000 + (0x400 + 8 * p)
def TB_LINKDLY_HI (p : Nat) : Nat := 0x040000 + (0x404 + 8 * p)
def TB_CAP_SEL : Nat := 0x040000 + (0x600)
def TB_CAP_STATUS : Nat := 0x040000 + (0x604)
def TB_CAP_D0 : Nat := 0x040000 + (0x608)
def TB_CAP_D1 : Nat := 0x040000 + (0x60C)
def TB_CAP_D2 : Nat := 0x040000 + (0x610)
def TB_CAP_D3 : Nat := 0x040000 + (0x614)
def TB_CNT_OVF : Nat := 0x040000 + (0x740)
def LANE_PH_CFG (n : Nat) : Nat := 0x100000 + 0x1000 * n + (0x080)
def LANE_PH_STATUS (n : Nat) : Nat := 0x100000 + 0x1000 * n + (0x084)
def LANE_PH_AVG (n : Nat) : Nat := 0x100000 + 0x1000 * n + (0x088)
def LANE_PH_RATE_LO (n : Nat) : Nat := 0x100000 + 0x1000 * n + (0x08C)
def LANE_PH_RATE_HI (n : Nat) : Nat := 0x100000 + 0x1000 * n + (0x090)
def LANE_SKEW_RX (n : Nat) : Nat := 0x100000 + 0x1000 * n + (0x094)
def LANE_SKEW_TX (n : Nat) : Nat := 0x100000 + 0x1000 * n + (0x098)
def LANE_KTX (n : Nat) (k : Nat) : Nat := 0x100000 + 0x1000 * n + (0x0A0 + 4 * k)
def LANE_KRX (n : Nat) (k : Nat) : Nat := 0x100000 + 0x1000 * n + (0x0B0 + 4 * k)
def LANE_KTC (n : Nat) : Nat := 0x100000 + 0x1000 * n + (0x0C0)
def LANE_KTX_CUR (n : Nat) : Nat := 0x100000 + 0x1000 * n + (0x0C4)
def LANE_KRX_CUR (n : Nat) : Nat := 0x100000 + 0x1000 * n + (0x0C8)
def LANE_PH_EVENT (n : Nat) : Nat := 0x100000 + 0x1000 * n + (0x0D0)
def LANE_PH_IRQ_EN (n : Nat) : Nat := 0x100000 + 0x1000 * n + (0x0D4)
def PORT_EXT_TX (n : Nat) : Nat := 0x140000 + 0x1000 * n + (0x200)
def PORT_EXT_RX (n : Nat) : Nat := 0x140000 + 0x1000 * n + (0x204)
def PORT_ALPHA_LO (n : Nat) : Nat := 0x140000 + 0x1000 * n + (0x208)
def PORT_ALPHA_HI (n : Nat) : Nat := 0x140000 + 0x1000 * n + (0x20C)
def PORT_ASYM_FIX (n : Nat) : Nat := 0x140000 + 0x1000 * n + (0x210)
def PORT_DLY_CHG (n : Nat) : Nat := 0x140000 + 0x1000 * n + (0x214)
def PORT_L1_CFG (n : Nat) : Nat := 0x140000 + 0x1000 * n + (0x220)
def PORT_L1_STATUS (n : Nat) : Nat := 0x140000 + 0x1000 * n + (0x224)
def PORT_RTT_LO (n : Nat) : Nat := 0x140000 + 0x1000 * n + (0x230)
def PORT_RTT_HI (n : Nat) : Nat := 0x140000 + 0x1000 * n + (0x234)
def PORT_RTT_SEQ (n : Nat) : Nat := 0x140000 + 0x1000 * n + (0x238)
def TRL_CTL (x : Nat) : Nat := 0x050000 + 0x8000 * x + (0x000)
def TRL_LOOP (x : Nat) : Nat := 0x050000 + 0x8000 * x + (0x004)
def TRL_ACQ_BW (x : Nat) : Nat := 0x050000 + 0x8000 * x + (0x008)
def TRL_COMMIT (x : Nat) : Nat := 0x050000 + 0x8000 * x + (0x00C)
def TRL_ACQ_TMO (x : Nat) : Nat := 0x050000 + 0x8000 * x + (0x010)
def TRL_SLOPE (x : Nat) : Nat := 0x050000 + 0x8000 * x + (0x014)
def TRL_MODEL (x : Nat) : Nat := 0x050000 + 0x8000 * x + (0x018)
def TRL_MODEL_MIN (x : Nat) : Nat := 0x050000 + 0x8000 * x + (0x01C)
def TRL_STATUS (x : Nat) : Nat := 0x050000 + 0x8000 * x + (0x020)
def TRL_DCO_LO (x : Nat) : Nat := 0x050000 + 0x8000 * x + (0x024)
def TRL_DCO_HI (x : Nat) : Nat := 0x050000 + 0x8000 * x + (0x028)
def TRL_MODEL_Y_LO (x : Nat) : Nat := 0x050000 + 0x8000 * x + (0x02C)
def TRL_MODEL_Y_HI (x : Nat) : Nat := 0x050000 + 0x8000 * x + (0x030)
def TRL_MODEL_A (x : Nat) : Nat := 0x050000 + 0x8000 * x + (0x034)
def TRL_DELTA_LO (x : Nat) : Nat := 0x050000 + 0x8000 * x + (0x038)
def TRL_DELTA_HI (x : Nat) : Nat := 0x050000 + 0x8000 * x + (0x03C)
def TRL_TE_LO (x : Nat) : Nat := 0x050000 + 0x8000 * x + (0x040)
def TRL_TE_HI (x : Nat) : Nat := 0x050000 + 0x8000 * x + (0x044)
def TRL_LAST_STEP_LO (x : Nat) : Nat := 0x050000 + 0x8000 * x + (0x048)
def TRL_LAST_STEP_HI (x : Nat) : Nat := 0x050000 + 0x8000 * x + (0x04C)
def TRL_LAST_SW (x : Nat) : Nat := 0x050000 + 0x8000 * x + (0x050)
def TRL_EVENT (x : Nat) : Nat := 0x050000 + 0x8000 * x + (0x060)
def TRL_IRQ_EN (x : Nat) : Nat := 0x050000 + 0x8000 * x + (0x064)
def TRL_CAND_W (x : Nat) (e w : Nat) : Nat := 0x050000 + 0x8000 * x + (0x100 + 0x20 * e + 4 * w)
def TRL_CAND_STATUS (x : Nat) (e : Nat) : Nat := 0x050000 + 0x8000 * x + (0x400 + 0x10 * e)
def TRL_CAND_FOFF_LO (x : Nat) (e : Nat) : Nat := 0x050000 + 0x8000 * x + (0x404 + 0x10 * e)
def TRL_CAND_FOFF_HI (x : Nat) (e : Nat) : Nat := 0x050000 + 0x8000 * x + (0x408 + 0x10 * e)
def TRL_CAND_DRIFT (x : Nat) (e : Nat) : Nat := 0x050000 + 0x8000 * x + (0x40C + 0x10 * e)
def TRL_CNT_OVF (x : Nat) : Nat := 0x050000 + 0x8000 * x + (0x640)
def CLK_ROOT_CTL : Nat := 0x060000 + (0x000)
def CLK_ROOT_STATUS : Nat := 0x060000 + (0x004)
def CLK_SYNA_STATUS : Nat := 0x060000 + (0x008)
def CLK_SYNB_STATUS : Nat := 0x060000 + (0x00C)
def CLK_SYNA_APPLIED_LO : Nat := 0x060000 + (0x010)
def CLK_SYNA_APPLIED_HI : Nat := 0x060000 + (0x014)
def CLK_SYNB_APPLIED_LO : Nat := 0x060000 + (0x018)
def CLK_SYNB_APPLIED_HI : Nat := 0x060000 + (0x01C)
def CLK_FREEZE_INFO : Nat := 0x060000 + (0x020)
def CLK_EVENT : Nat := 0x060000 + (0x040)
def CLK_IRQ_EN : Nat := 0x060000 + (0x044)
def CLK_OUT_CTL (k : Nat) : Nat := 0x060000 + (0x100 + 0x10 * k)
def CLK_OUT_CFG (k : Nat) : Nat := 0x060000 + (0x104 + 0x10 * k)
def CLK_OUT_DIV (k : Nat) : Nat := 0x060000 + (0x108 + 0x10 * k)
def CLK_PPS_CFG : Nat := 0x060000 + (0x180)
def CLK_PPS_OFFSET : Nat := 0x060000 + (0x184)
def CLK_LOCKMON_CFG : Nat := 0x060000 + (0x190)
def CLK_CNT_OVF : Nat := 0x060000 + (0x220)
def CLK_MTR_COND (m : Nat) : Nat := 0x060000 + (0x4000 + 0x40 * m)
def CLK_MTR_STATUS (m : Nat) : Nat := 0x060000 + (0x4004 + 0x40 * m)
def CLK_MTR_SELFTEST (m : Nat) : Nat := 0x060000 + (0x4008 + 0x40 * m)
def CLK_MTR_EVENT (m : Nat) : Nat := 0x060000 + (0x400C + 0x40 * m)
def CLK_MTR_CNT_OVF (m : Nat) : Nat := 0x060000 + (0x4030 + 0x40 * m)
def CLK_MTR_IRQ_EN (m : Nat) : Nat := 0x060000 + (0x4034 + 0x40 * m)
def CLK_MTR_RD_SEL : Nat := 0x060000 + (0x4800)
def CLK_MTR_RD_COUNT : Nat := 0x060000 + (0x4804)
def CLK_MTR_RD_W (w : Nat) : Nat := 0x060000 + (0x4840 + 4 * w)
def SYN_STATUS : Nat := 0x070000 + (0x000)
def SYN_EVENT : Nat := 0x070000 + (0x004)
def SYN_IRQ_EN : Nat := 0x070000 + (0x008)
def SYN_PIN_CFG (j : Nat) : Nat := 0x070000 + (0x100 + 0x10 * j)
def SYN_PIN_OWNER (j : Nat) : Nat := 0x070000 + (0x104 + 0x10 * j)
def SYN_PIN_STATUS (j : Nat) : Nat := 0x070000 + (0x108 + 0x10 * j)
def SYN_MTR_OWNER (i : Nat) : Nat := 0x070000 + (0x200 + 4 * i)
def SYN_SH_STATUS (s : Nat) : Nat := 0x070000 + (0x400 + 0x40 * s)
def SYN_SH_SEQ (s : Nat) : Nat := 0x070000 + (0x404 + 0x40 * s)
def SYN_SH_POS_LO (s : Nat) : Nat := 0x070000 + (0x408 + 0x40 * s)
def SYN_SH_POS_HI (s : Nat) : Nat := 0x070000 + (0x40C + 0x40 * s)
def SYN_SH_VEL_LO (s : Nat) : Nat := 0x070000 + (0x410 + 0x40 * s)
def SYN_SH_VEL_HI (s : Nat) : Nat := 0x070000 + (0x414 + 0x40 * s)
def SYN_SH_ACC_LO (s : Nat) : Nat := 0x070000 + (0x418 + 0x40 * s)
def SYN_SH_ACC_HI (s : Nat) : Nat := 0x070000 + (0x41C + 0x40 * s)
def SYN_SH_CYCLE (s : Nat) : Nat := 0x070000 + (0x420 + 0x40 * s)
def SYN_HALT_CTL (h : Nat) : Nat := 0x070000 + (0x600 + 0x10 * h)
def SYN_HALT_PORTS_LO (h : Nat) : Nat := 0x070000 + (0x604 + 0x10 * h)
def SYN_HALT_PORTS_HI (h : Nat) : Nat := 0x070000 + (0x608 + 0x10 * h)
def SYN_CNT_OVF : Nat := 0x070000 + (0x8A0)
def ENG_FE_STATUS (e : Nat) : Nat := 0x200000 + 0x100 * e + (0x00)
def ENG_FE_EVENT (e : Nat) : Nat := 0x200000 + 0x100 * e + (0x04)
def ENG_FE_IRQ_EN (e : Nat) : Nat := 0x200000 + 0x100 * e + (0x08)
def ENG_FE_WDT (e : Nat) : Nat := 0x200000 + 0x100 * e + (0x0C)
def ENG_FE_FAULT_ADDR (e : Nat) : Nat := 0x200000 + 0x100 * e + (0x10)
def ENG_FE_IMG_CRC (e : Nat) : Nat := 0x200000 + 0x100 * e + (0x14)
def ENG_FE_MBOX_CTL (e : Nat) : Nat := 0x200000 + 0x100 * e + (0x18)
def ENG_FE_CNT_SEL (e : Nat) (k : Nat) : Nat := 0x200000 + 0x100 * e + (0x20 + 4 * k)
def ENG_FE_CNT_OVF (e : Nat) : Nat := 0x200000 + 0x100 * e + (0x30)
def ENG_FE_CNT_LO (e : Nat) (k : Nat) : Nat := 0x200000 + 0x100 * e + (0x40 + 8 * k)
def ENG_FE_CNT_HI (e : Nat) (k : Nat) : Nat := 0x200000 + 0x100 * e + (0x44 + 8 * k)
def ENG_FE_MBOX_TO (e : Nat) (w : Nat) : Nat := 0x200000 + 0x100 * e + (0x80 + 4 * w)
def ENG_FE_MBOX_FROM (e : Nat) (w : Nat) : Nat := 0x200000 + 0x100 * e + (0xC0 + 4 * w)
def PMC_CTL : Nat := 0x280000 + (0x000)
def PMC_EVENT : Nat := 0x280000 + (0x004)
def PMC_IRQ_EN : Nat := 0x280000 + (0x008)
def PMC_OVF_LO : Nat := 0x280000 + (0x010)
def PMC_OVF_HI : Nat := 0x280000 + (0x014)
def PMC_G_SEL (g : Nat) : Nat := 0x280000 + (0x100 + 4 * g)
def PMC_G_LO (g : Nat) : Nat := 0x280000 + (0x200 + 8 * g)
def PMC_G_HI (g : Nat) : Nat := 0x280000 + (0x204 + 8 * g)
def PMC_SMP_CTL (b : Nat) : Nat := 0x280000 + (0x400 + 0x20 * b)
def PMC_SMP_STATUS (b : Nat) : Nat := 0x280000 + (0x404 + 0x20 * b)
def PMC_SMP_D (b w : Nat) : Nat := 0x280000 + (0x500 + 0x40 * b + 4 * w)
def CMD_CFG : Nat := 0x010000 + (0x000)
def CMD_STATUS : Nat := 0x010000 + (0x004)
def CMD_EVENT : Nat := 0x010000 + (0x008)
def CMD_IRQ_EN : Nat := 0x010000 + (0x00C)
def CMD_INB_EN_LO : Nat := 0x010000 + (0x010)
def CMD_INB_EN_HI : Nat := 0x010000 + (0x014)
def CMD_RING_CTL (k : Nat) : Nat := 0x010000 + (0x100 + 0x20 * k)
def CMD_RING_STATUS (k : Nat) : Nat := 0x010000 + (0x104 + 0x20 * k)
def CMD_SQ_TAIL (k : Nat) : Nat := 0x010000 + (0x108 + 0x20 * k)
def CMD_SQ_HEAD (k : Nat) : Nat := 0x010000 + (0x10C + 0x20 * k)
def CMD_CQ_TAIL (k : Nat) : Nat := 0x010000 + (0x110 + 0x20 * k)
def CMD_CQ_HEAD (k : Nat) : Nat := 0x010000 + (0x114 + 0x20 * k)
def CMD_MBX_WDATA : Nat := 0x010000 + (0x200)
def CMD_MBX_CTL : Nat := 0x010000 + (0x204)
def CMD_MBX_STATUS : Nat := 0x010000 + (0x208)
def CMD_MBX_RDATA : Nat := 0x010000 + (0x20C)
def CMD_CNT_OVF : Nat := 0x010000 + (0x340)
def FWD_SEL : Nat := 0x1C0000 + (0x000)
def FWD_STATUS : Nat := 0x1C0000 + (0x004)
def FWD_CLR : Nat := 0x1C0000 + (0x008)
def FWD_D (w : Nat) : Nat := 0x1C0000 + (0x100 + 4 * w)
def GLB_ID : Nat := 0x000000 + (0x000)
def GLB_SERIAL_LO : Nat := 0x000000 + (0x004)
def GLB_SERIAL_HI : Nat := 0x000000 + (0x008)
def GLB_FW_VER : Nat := 0x000000 + (0x00C)
def GLB_FW_CHK : Nat := 0x000000 + (0x010)
def GLB_SCRATCH : Nat := 0x000000 + (0x014)
def GLB_STATUS : Nat := 0x000000 + (0x020)
def GLB_EVENT : Nat := 0x000000 + (0x024)
def GLB_IRQ_EN : Nat := 0x000000 + (0x028)
def GLB_SRC_EN : Nat := 0x000000 + (0x030)
def GLB_SRC_PEND : Nat := 0x000000 + (0x034)
def GLB_LANE_PEND_LO : Nat := 0x000000 + (0x038)
def GLB_LANE_PEND_HI : Nat := 0x000000 + (0x03C)
def GLB_PORT_PEND_LO : Nat := 0x000000 + (0x040)
def GLB_PORT_PEND_HI : Nat := 0x000000 + (0x044)
def GLB_QUE_PEND_LO : Nat := 0x000000 + (0x048)
def GLB_QUE_PEND_HI : Nat := 0x000000 + (0x04C)
def GLB_CF_EVENT : Nat := 0x000000 + (0x050)
def GLB_VEC0 : Nat := 0x000000 + (0x060)
def GLB_VEC1 : Nat := 0x000000 + (0x064)
def GLB_VEC2 : Nat := 0x000000 + (0x068)
def GLB_VEC3 : Nat := 0x000000 + (0x06C)
def GLB_LOCK : Nat := 0x000000 + (0x080)
def GLB_DEV_RESET : Nat := 0x000000 + (0x088)
def GLB_DEV_RESET_N : Nat := 0x000000 + (0x08C)
def GLB_LOCKV_ADDR : Nat := 0x000000 + (0x0A0)
def GLB_PP_ADDR : Nat := 0x000000 + (0x0A4)
def GLB_PAR_ADDR : Nat := 0x000000 + (0x0A8)
def GLB_ACC_ADDR : Nat := 0x000000 + (0x0AC)
def FLT_STATUS : Nat := 0x020000 + (0x000)
def FLT_EVENT : Nat := 0x020000 + (0x004)
def FLT_IRQ_EN : Nat := 0x020000 + (0x008)
def FLT_PIN : Nat := 0x020000 + (0x010)
def FLT_PULSE : Nat := 0x020000 + (0x014)
def FLT_SHEARS_CFG : Nat := 0x020000 + (0x020)
def FLT_SHEARS_REQ : Nat := 0x020000 + (0x028)
def FLT_SHEARS_REQ_N : Nat := 0x020000 + (0x02C)
def FLT_SHEARS_REL : Nat := 0x020000 + (0x030)
def FLT_SHEARS_REL_N : Nat := 0x020000 + (0x034)
def FLT_FEC_CTL : Nat := 0x020000 + (0x040)
def FLT_FEC_W (w : Nat) : Nat := 0x020000 + (0x060 + 4 * w)
def FLT_INJ_STATUS : Nat := 0x020000 + (0x080)
def FLT_REACT (c l : Nat) : Nat := 0x020000 + (0x100 + 0x10 * c + 4 * l)
def FLT_CNT_OVF : Nat := 0x020000 + (0x240)
def RED_SIDE_CFG : Nat := 0x080000 + (0x000)
def RED_CFG : Nat := 0x080000 + (0x004)
def RED_LIMITS : Nat := 0x080000 + (0x008)
def RED_PAIR : Nat := 0x080000 + (0x00C)
def RED_BRELY_ASYM : Nat := 0x080000 + (0x010)
def RED_STATUS : Nat := 0x080000 + (0x014)
def RED_SIDEA_HEALTH : Nat := 0x080000 + (0x020)
def RED_SIDEB_HEALTH : Nat := 0x080000 + (0x024)
def RED_PSI_LO : Nat := 0x080000 + (0x028)
def RED_PSI_HI : Nat := 0x080000 + (0x02C)
def RED_FDIFF : Nat := 0x080000 + (0x030)
def RED_GRAFT_CFG : Nat := 0x080000 + (0x040)
def RED_GRAFT_STATUS : Nat := 0x080000 + (0x044)
def RED_GRAFT_FORCE : Nat := 0x080000 + (0x048)
def RED_GRAFT_FORCE_N : Nat := 0x080000 + (0x04C)
def RED_GRAFT_CTL : Nat := 0x080000 + (0x050)
def RED_EVENT : Nat := 0x080000 + (0x060)
def RED_IRQ_EN : Nat := 0x080000 + (0x064)
def RED_BL_STATUS (k : Nat) : Nat := 0x080000 + (0x080 + 4 * k)
def RED_CNT_OVF : Nat := 0x080000 + (0x140)
def GLB_PWR_CFG : Nat := 0x000000 + (0x200)
def GLB_PWR_STATUS : Nat := 0x000000 + (0x204)
def GLB_DORMANT : Nat := 0x000000 + (0x208)
def GLB_DORMANT_N : Nat := 0x000000 + (0x20C)
def GLB_LT_DEV : Nat := 0x000000 + (0x210)
def GLB_STRAPS : Nat := 0x000000 + (0x214)
def GLB_RST_CAUSE : Nat := 0x000000 + (0x218)
def GLB_BOOT_STATUS : Nat := 0x000000 + (0x21C)
def GLB_WAKE_TIMER : Nat := 0x000000 + (0x220)
def GLB_DORMANT_SEC : Nat := 0x000000 + (0x224)
def GLB_RET (i : Nat) : Nat := 0x000000 + (0x230 + 4 * i)
def GLB_LT_PORT (n : Nat) : Nat := 0x000000 + (0x240 + 4 * n)

/-- LO word of counter k of a port (R112). -/
def PORT_CNT (n k : Nat) : Nat := 0x140000 + 0x1000 * n + 0x100 + 8 * k
/-- LO word of counter k of the CORE block (R163). -/
def CORE_CNT (k : Nat) : Nat := 0x180000 + 0x200 + 8 * k
/-- LO word of counter k of class c of an output (R197). -/
def QUE_CNT (n c k : Nat) : Nat := 0x1A0000 + 0x800 * n + 0x400 + 0x40 * c + 8 * k
/-- LO word of counter k of the TB block (R247). -/
def TB_CNT (k : Nat) : Nat := 0x040000 + 0x700 + 8 * k
/-- LO word of counter k of a Trellis (R310). -/
def TRL_CNT (x k : Nat) : Nat := 0x050000 + 0x8000 * x + 0x600 + 8 * k
/-- LO word of counter k of the CLK block (R336). -/
def CLK_CNT (k : Nat) : Nat := 0x060000 + 0x200 + 8 * k
/-- LO word of counter k of a meter of the CLK window (R381). -/
def CLK_MTR_CNT (m k : Nat) : Nat := 0x060000 + 0x4010 + 0x40 * m + 8 * k
/-- LO word of counter k of the SYN block (R442). -/
def SYN_CNT (k : Nat) : Nat := 0x070000 + 0x800 + 8 * k
/-- LO word of counter k of the CMD block (R503). -/
def CMD_CNT (k : Nat) : Nat := 0x010000 + 0x300 + 8 * k
/-- LO word of counter k of the FLT block (R556). -/
def FLT_CNT (k : Nat) : Nat := 0x020000 + 0x200 + 8 * k
/-- LO word of counter k of the RED block (R584). -/
def RED_CNT (k : Nat) : Nat := 0x080000 + 0x100 + 8 * k
/-- LO word of counter k of a management engine (R462). -/
def ENG_ME_CNT_LO (m k : Nat) : Nat := 0x201000 + 0x100 * m + 0x40 + 8 * k
/-- Selection of counter k of a management engine (R462). -/
def ENG_ME_CNT_SEL (m k : Nat) : Nat := 0x201000 + 0x100 * m + 0x20 + 4 * k
/-- Wrap bits of a management engine's counters (R462). -/
def ENG_ME_CNT_OVF (m : Nat) : Nat := 0x201000 + 0x100 * m + 0x30
/-- Status of a synthesizer: 0 A, 1 B (R333). -/
def CLK_SYN_STATUS (x : Nat) : Nat := 0x060008 + 4 * x
/-- Applied word of a synthesizer, low part (R333). -/
def CLK_SYN_APPLIED_LO (x : Nat) : Nat := 0x060010 + 8 * x
/-- Applied word of a synthesizer, high part (R333). -/
def CLK_SYN_APPLIED_HI (x : Nat) : Nat := 0x060014 + 8 * x
/-- Ceiling bits of a side: 0 A, 1 B (R581). -/
def RED_SIDE_HEALTH (x : Nat) : Nat := 0x080020 + 4 * x
/-- Transmit taps of rate code k (R78). -/
def LANE_TXEQ (n k : Nat) : Nat := 0x100010 + 0x1000 * n + 4 * k

end Reg

/-- The GLB block (R523, R624). -/
def glbRegs : List RegInfo :=
  [⟨0x0, 4, 1, 0x0, 0x0, 0x0, 0x0, false⟩,
   ⟨0x4, 4, 1, 0x0, 0x0, 0x0, 0x0, false⟩,
   ⟨0x8, 4, 1, 0x0, 0x0, 0x0, 0x0, false⟩,
   ⟨0xC, 4, 1, 0x0, 0x0, 0x0, 0x0, false⟩,
   ⟨0x10, 4, 1, 0x0, 0x0, 0x0, 0x0, false⟩,
   ⟨0x14, 4, 1, 0x0, 0xFFFFFFFF, 0x0, 0x0, true⟩,
   ⟨0x20, 4, 1, 0x1, 0x0, 0x0, 0x0, false⟩,
   ⟨0x24, 4, 1, 0x0, 0x0, 0x0, 0x3F, false⟩,
   ⟨0x28, 4, 1, 0x0, 0x3F, 0x0, 0x0, true⟩,
   ⟨0x30, 4, 1, 0x0, 0xFFFF, 0x0, 0x0, true⟩,
   ⟨0x34, 4, 1, 0x0, 0x0, 0x0, 0x0, false⟩,
   ⟨0x38, 4, 1, 0x0, 0x0, 0x0, 0x0, false⟩,
   ⟨0x3C, 4, 1, 0x0, 0x0, 0x0, 0x0, false⟩,
   ⟨0x40, 4, 1, 0x0, 0x0, 0x0, 0x0, false⟩,
   ⟨0x44, 4, 1, 0x0, 0x0, 0x0, 0x0, false⟩,
   ⟨0x48, 4, 1, 0x0, 0x0, 0x0, 0x0, false⟩,
   ⟨0x4C, 4, 1, 0x0, 0x0, 0x0, 0x0, false⟩,
   ⟨0x50, 4, 1, 0x0, 0x0, 0x0, 0x1, false⟩,
   ⟨0x60, 4, 1, 0xB0A0908, 0x3F3F3F3F, 0x0, 0x0, true⟩,
   ⟨0x64, 4, 1, 0xF0E0D0C, 0x3F3F3F3F, 0x0, 0x0, true⟩,
   ⟨0x68, 4, 1, 0x13121110, 0x3F3F3F3F, 0x0, 0x0, true⟩,
   ⟨0x6C, 4, 1, 0x17161514, 0x3F3F3F3F, 0x0, 0x0, true⟩,
   ⟨0x80, 4, 1, 0x0, 0x0, 0x0, 0x0, true⟩,
   ⟨0x88, 4, 1, 0x0, 0x0, 0x0, 0x0, true⟩,
   ⟨0x8C, 4, 1, 0xFFFFFFFF, 0x0, 0x0, 0x0, true⟩,
   ⟨0xA0, 4, 1, 0x0, 0x0, 0x0, 0x0, false⟩,
   ⟨0xA4, 4, 1, 0x0, 0x0, 0x0, 0x0, false⟩,
   ⟨0xA8, 4, 1, 0x0, 0x0, 0x0, 0x0, false⟩,
   ⟨0xAC, 4, 1, 0x0, 0x0, 0x0, 0x0, false⟩,
   ⟨0x200, 4, 1, 0x0, 0x1, 0x0, 0x0, true⟩,
   ⟨0x204, 4, 1, 0x0, 0x0, 0x0, 0x0, false⟩,
   ⟨0x208, 4, 1, 0x0, 0x0, 0x0, 0x0, true⟩,
   ⟨0x20C, 4, 1, 0xFFFFFFFF, 0x0, 0x0, 0x0, true⟩,
   ⟨0x210, 4, 1, 0x0, 0x0, 0x0, 0x0, true⟩,
   ⟨0x214, 4, 1, 0x0, 0x0, 0x0, 0x0, false⟩,
   ⟨0x218, 4, 1, 0x0, 0x0, 0x0, 0x0, false⟩,
   ⟨0x21C, 4, 1, 0x0, 0x0, 0x0, 0x0, false⟩,
   ⟨0x220, 4, 1, 0x0, 0xFFFFFFFF, 0x0, 0x0, true⟩,
   ⟨0x224, 4, 1, 0x0, 0x0, 0x0, 0x0, false⟩,
   ⟨0x230, 4, 4, 0x0, 0xFFFFFFFF, 0x0, 0x0, true⟩] ++
  [⟨0x240, 4, 40, 0xFFFFF, 0x0, 0x0, 0x0, true⟩]

/-- The CMD block (R501). -/
def cmdRegs : List RegInfo :=
  [⟨0x0, 4, 1, 0x3E80060, 0x3FFF00F1, 0x0, 0x0, true⟩,
   ⟨0x4, 4, 1, 0x0, 0x0, 0x0, 0x0, false⟩,
   ⟨0x8, 4, 1, 0x0, 0x0, 0x0, 0xFF, false⟩,
   ⟨0xC, 4, 1, 0x0, 0xFF, 0x0, 0x0, true⟩,
   ⟨0x10, 4, 1, 0x0, 0xFFFFFFFF, 0x0, 0x0, true⟩,
   ⟨0x14, 4, 1, 0x0, 0xFF, 0x0, 0x0, true⟩,
   ⟨0x100, 32, 4, 0x10000, 0xFFFF3F01, 0x0, 0x0, true⟩,
   ⟨0x104, 32, 4, 0x0, 0x0, 0x0, 0x0, false⟩,
   ⟨0x108, 32, 4, 0x0, 0xFFFF, 0x0, 0x0, true⟩,
   ⟨0x10C, 32, 4, 0x0, 0x0, 0x0, 0x0, false⟩,
   ⟨0x110, 32, 4, 0x0, 0x0, 0x0, 0x0, false⟩,
   ⟨0x114, 32, 4, 0x0, 0xFFFF, 0x0, 0x0, true⟩,
   ⟨0x200, 4, 1, 0x0, 0x0, 0x0, 0x0, false⟩,
   ⟨0x204, 4, 1, 0x0, 0x0, 0x0, 0x0, false⟩,
   ⟨0x208, 4, 1, 0x0, 0x0, 0x0, 0x0, false⟩,
   ⟨0x20C, 4, 1, 0x0, 0x0, 0x0, 0x0, false⟩,
   ⟨0x340, 4, 1, 0x0, 0x0, 0x0, 0x3F, false⟩]

/-- The FLT block (R553, R555). -/
def fltRegs : List RegInfo :=
  [⟨0x0, 4, 1, 0x2, 0x0, 0x0, 0x0, false⟩,
   ⟨0x4, 4, 1, 0x0, 0x0, 0x0, 0x1FF, false⟩,
   ⟨0x8, 4, 1, 0x0, 0x1FF, 0x0, 0x0, true⟩,
   ⟨0x10, 4, 1, 0x1, 0x1, 0x0, 0x0, true⟩,
   ⟨0x14, 4, 1, 0x14, 0x3FFF, 0x0, 0x0, true⟩,
   ⟨0x20, 4, 1, 0x0, 0x1, 0x0, 0x0, true⟩,
   ⟨0x28, 4, 1, 0x0, 0x0, 0x0, 0x0, true⟩,
   ⟨0x2C, 4, 1, 0xFFFFFFFF, 0x0, 0x0, 0x0, true⟩,
   ⟨0x30, 4, 1, 0x0, 0x0, 0x0, 0x0, true⟩,
   ⟨0x34, 4, 1, 0xFFFFFFFF, 0x0, 0x0, 0x0, true⟩,
   ⟨0x40, 4, 1, 0x1E, 0x1F, 0x0, 0x0, true⟩,
   ⟨0x60, 4, 8, 0x0, 0x0, 0x0, 0x0, false⟩,
   ⟨0x80, 4, 1, 0x0, 0x0, 0x0, 0x0, false⟩,
   ⟨0x100, 4, 1, 0x1, 0x5E, 0x0, 0x0, true⟩,
   ⟨0x104, 4, 1, 0x3, 0x5E, 0x0, 0x0, true⟩,
   ⟨0x108, 4, 1, 0x3, 0x5E, 0x0, 0x0, true⟩,
   ⟨0x110, 4, 1, 0x3, 0x5E, 0x0, 0x0, true⟩,
   ⟨0x114, 4, 1, 0x7, 0x5E, 0x0, 0x0, true⟩,
   ⟨0x118, 4, 1, 0x7, 0x5E, 0x0, 0x0, true⟩,
   ⟨0x120, 4, 1, 0x13, 0x5E, 0x0, 0x0, true⟩,
   ⟨0x124, 4, 1, 0x17, 0x5E, 0x0, 0x0, true⟩,
   ⟨0x128, 4, 1, 0x17, 0x5E, 0x0, 0x0, true⟩,
   ⟨0x130, 4, 1, 0x27, 0x5E, 0x0, 0x0, true⟩,
   ⟨0x134, 4, 1, 0x27, 0x5E, 0x0, 0x0, true⟩,
   ⟨0x138, 4, 1, 0x27, 0x5E, 0x0, 0x0, true⟩,
   ⟨0x140, 4, 1, 0x3, 0x5E, 0x0, 0x0, true⟩,
   ⟨0x144, 4, 1, 0x7, 0x5E, 0x0, 0x0, true⟩,
   ⟨0x148, 4, 1, 0x7, 0x5E, 0x0, 0x0, true⟩,
   ⟨0x240, 4, 1, 0x0, 0x0, 0x0, 0xFF, false⟩]

/-- The TB block (R243). -/
def tbRegs : List RegInfo :=
  [⟨0x0, 4, 1, 0x100, 0xFE00, 0x0, 0x0, true⟩,
   ⟨0x4, 4, 1, 0x0, 0x0, 0x0, 0x0, false⟩,
   ⟨0x8, 4, 1, 0x0, 0x0, 0x0, 0x7FF, false⟩,
   ⟨0xC, 4, 1, 0x0, 0x7FF, 0x0, 0x0, true⟩,
   ⟨0x10, 4, 1, 0x0, 0x0, 0x0, 0x0, false⟩,
   ⟨0x14, 4, 1, 0x0, 0x0, 0x0, 0x0, false⟩,
   ⟨0x20, 4, 1, 0x0, 0x0, 0x0, 0x0, false⟩,
   ⟨0x24, 4, 1, 0x0, 0x0, 0x0, 0x0, false⟩,
   ⟨0x28, 4, 1, 0x0, 0x0, 0x0, 0x0, false⟩,
   ⟨0x2C, 4, 1, 0x0, 0x0, 0x0, 0x0, false⟩,
   ⟨0x30, 4, 1, 0x0, 0x0, 0x0, 0x0, false⟩,
   ⟨0x34, 4, 1, 0x0, 0x0, 0x0, 0x0, false⟩,
   ⟨0x38, 4, 1, 0x0, 0x0, 0x0, 0x0, false⟩,
   ⟨0x40, 4, 1, 0x1, 0xFFF3, 0x0, 0x0, true⟩,
   ⟨0x44, 4, 7, 0x0, 0xFFF3, 0x0, 0x0, true⟩,
   ⟨0x80, 16, 1, 0xCCCCCCCD, 0x0, 0x0, 0x0, false⟩,
   ⟨0x90, 16, 7, 0xCCCCCCCD, 0xFFFFFFFF, 0x0, 0x0, true⟩,
   ⟨0x84, 16, 1, 0xCCCC, 0x0, 0x0, 0x0, false⟩,
   ⟨0x94, 16, 7, 0xCCCC, 0xFFFFFF, 0x0, 0x0, true⟩,
   ⟨0x88, 16, 8, 0x0, 0x0, 0x0, 0x0, false⟩,
   ⟨0x8C, 16, 8, 0x0, 0x0, 0x0, 0x0, false⟩,
   ⟨0x100, 4, 1, 0x0, 0x0, 0x0, 0x0, false⟩,
   ⟨0x104, 4, 1, 0x0, 0x0, 0x0, 0x0, false⟩,
   ⟨0x108, 4, 1, 0x0, 0x0, 0x0, 0x0, false⟩,
   ⟨0x10C, 4, 1, 0x0, 0x0, 0x0, 0x0, false⟩,
   ⟨0x110, 4, 1, 0x0, 0x0, 0x0, 0x0, false⟩,
   ⟨0x140, 16, 16, 0x0, 0x0, 0x0, 0x0, false⟩,
   ⟨0x144, 16, 16, 0x0, 0x0, 0x0, 0x0, false⟩,
   ⟨0x148, 16, 16, 0x0, 0x0, 0x0, 0x0, false⟩,
   ⟨0x14C, 16, 16, 0x0, 0x0, 0x0, 0x0, false⟩,
   ⟨0x300, 4, 40, 0x0, 0x17, 0x0, 0x0, true⟩,
   ⟨0x400, 8, 40, 0x0, 0xFFFFFFFF, 0x0, 0x0, true⟩,
   ⟨0x404, 8, 40, 0x0, 0xFFFF, 0x0, 0x0, true⟩,
   ⟨0x600, 4, 1, 0x0, 0x3F, 0x0, 0x0, true⟩,
   ⟨0x604, 4, 1, 0x0, 0x0, 0x0, 0x0, false⟩,
   ⟨0x608, 4, 1, 0x0, 0x0, 0x0, 0x0, false⟩,
   ⟨0x60C, 4, 1, 0x0, 0x0, 0x0, 0x0, false⟩,
   ⟨0x610, 4, 1, 0x0, 0x0, 0x0, 0x0, false⟩,
   ⟨0x614, 4, 1, 0x0, 0x0, 0x0, 0x0, false⟩,
   ⟨0x740, 4, 1, 0x0, 0x0, 0x0, 0xFF, false⟩]

/-- A Trellis block (R306). -/
def trlRegs : List RegInfo :=
  [⟨0x0, 4, 1, 0x0, 0x3, 0x0, 0x0, true⟩,
   ⟨0x4, 4, 1, 0x3003E8, 0x3FFFFF, 0x0, 0x0, true⟩,
   ⟨0x8, 4, 1, 0x30D40, 0xFFFFF, 0x0, 0x0, true⟩,
   ⟨0xC, 4, 1, 0x3E803E8, 0xFFFFFFFF, 0x0, 0x0, true⟩,
   ⟨0x10, 4, 1, 0x32, 0x3FF, 0x0, 0x0, true⟩,
   ⟨0x14, 4, 1, 0xC350, 0x7FFFF, 0x0, 0x0, true⟩,
   ⟨0x18, 4, 1, 0xE100E10, 0xFFFFFFFF, 0x0, 0x0, true⟩,
   ⟨0x1C, 4, 1, 0x258, 0xFFFF, 0x0, 0x0, true⟩,
   ⟨0x20, 4, 1, 0x0, 0x0, 0x0, 0x0, false⟩,
   ⟨0x24, 4, 1, 0x0, 0x0, 0x0, 0x0, false⟩,
   ⟨0x28, 4, 1, 0x0, 0x0, 0x0, 0x0, false⟩,
   ⟨0x2C, 4, 1, 0x0, 0x0, 0x0, 0x0, false⟩,
   ⟨0x30, 4, 1, 0x0, 0x0, 0x0, 0x0, false⟩,
   ⟨0x34, 4, 1, 0x0, 0x0, 0x0, 0x0, false⟩,
   ⟨0x38, 4, 1, 0x0, 0x0, 0x0, 0x0, false⟩,
   ⟨0x3C, 4, 1, 0x0, 0x0, 0x0, 0x0, false⟩,
   ⟨0x40, 4, 1, 0x0, 0x0, 0x0, 0x0, false⟩,
   ⟨0x44, 4, 1, 0x0, 0x0, 0x0, 0x0, false⟩,
   ⟨0x48, 4, 1, 0x0, 0x0, 0x0, 0x0, false⟩,
   ⟨0x4C, 4, 1, 0x0, 0x0, 0x0, 0x0, false⟩,
   ⟨0x50, 4, 1, 0x0, 0x0, 0x0, 0x0, false⟩,
   ⟨0x60, 4, 1, 0x0, 0x0, 0x0, 0x3FFF, false⟩,
   ⟨0x64, 4, 1, 0x0, 0x3FFF, 0x0, 0x0, true⟩,
   ⟨0x100, 4, 128, 0x0, 0x0, 0x0, 0x0, true⟩,
   ⟨0x400, 16, 16, 0x0, 0x0, 0x0, 0x0, false⟩,
   ⟨0x404, 16, 16, 0x0, 0x0, 0x0, 0x0, false⟩,
   ⟨0x408, 16, 16, 0x0, 0x0, 0x0, 0x0, false⟩,
   ⟨0x40C, 16, 16, 0x0, 0x0, 0x0, 0x0, false⟩,
   ⟨0x640, 4, 1, 0x0, 0x0, 0x0, 0x1F, false⟩]

/-- The CLK block with its meter window (R333, R377). -/
def clkRegs : List RegInfo :=
  [⟨0x0, 4, 1, 0x0, 0x1, 0x0, 0x0, true⟩,
   ⟨0x4, 4, 1, 0x0, 0x0, 0x0, 0x0, false⟩,
   ⟨0x8, 4, 1, 0x0, 0x0, 0x0, 0x0, false⟩,
   ⟨0xC, 4, 1, 0x0, 0x0, 0x0, 0x0, false⟩,
   ⟨0x10, 4, 1, 0x0, 0x0, 0x0, 0x0, false⟩,
   ⟨0x14, 4, 1, 0x0, 0x0, 0x0, 0x0, false⟩,
   ⟨0x18, 4, 1, 0x0, 0x0, 0x0, 0x0, false⟩,
   ⟨0x1C, 4, 1, 0x0, 0x0, 0x0, 0x0, false⟩,
   ⟨0x20, 4, 1, 0x0, 0x0, 0x0, 0x0, false⟩,
   ⟨0x40, 4, 1, 0x0, 0x0, 0x0, 0x1FFF, false⟩,
   ⟨0x44, 4, 1, 0x0, 0x1FFF, 0x0, 0x0, true⟩,
   ⟨0x100, 16, 4, 0x0, 0x1, 0x0, 0x0, true⟩,
   ⟨0x104, 16, 4, 0x0, 0x0, 0x13, 0x0, true⟩,
   ⟨0x108, 16, 4, 0x8, 0x0, 0x3FFFFFFF, 0x0, true⟩,
   ⟨0x180, 4, 1, 0x186A0, 0x37FFFF, 0x0, 0x0, true⟩,
   ⟨0x184, 4, 1, 0x0, 0xFFFFFF, 0x0, 0x0, true⟩,
   ⟨0x190, 4, 1, 0x3E800, 0xFFFF07, 0x0, 0x0, true⟩,
   ⟨0x220, 4, 1, 0x0, 0x0, 0x0, 0xF, false⟩,
   ⟨0x4000, 64, 20, 0x0, 0x0, 0x3FFF01F3, 0x0, true⟩,
   ⟨0x4004, 64, 20, 0x0, 0x0, 0x0, 0x0, false⟩,
   ⟨0x4008, 64, 20, 0x0, 0x0, 0x0, 0x0, false⟩,
   ⟨0x400C, 64, 20, 0x0, 0x0, 0x0, 0x3FF, false⟩,
   ⟨0x4030, 64, 20, 0x0, 0x0, 0x0, 0xF, false⟩,
   ⟨0x4034, 64, 20, 0x0, 0x3FF, 0x0, 0x0, true⟩,
   ⟨0x4800, 4, 1, 0x0, 0x11F, 0x0, 0x0, true⟩,
   ⟨0x4804, 4, 1, 0x0, 0x0, 0x0, 0x0, false⟩,
   ⟨0x4840, 4, 16, 0x0, 0x0, 0x0, 0x0, false⟩]

/-- The SYN block (R438). -/
def synRegs : List RegInfo :=
  [⟨0x0, 4, 1, 0x0, 0x0, 0x0, 0x0, false⟩,
   ⟨0x4, 4, 1, 0x0, 0x0, 0x0, 0x3FF, false⟩,
   ⟨0x8, 4, 1, 0x0, 0x3FF, 0x0, 0x0, true⟩,
   ⟨0x100, 16, 16, 0x0, 0x0, 0x0, 0x0, true⟩,
   ⟨0x104, 16, 16, 0x0, 0x0, 0x0, 0x0, true⟩,
   ⟨0x108, 16, 16, 0x0, 0x0, 0x0, 0x0, false⟩,
   ⟨0x200, 4, 16, 0x0, 0x0, 0x0, 0x0, true⟩,
   ⟨0x400, 64, 4, 0x0, 0x0, 0x0, 0x0, false⟩,
   ⟨0x404, 64, 4, 0x0, 0x0, 0x0, 0x0, false⟩,
   ⟨0x408, 64, 4, 0x0, 0x0, 0x0, 0x0, false⟩,
   ⟨0x40C, 64, 4, 0x0, 0x0, 0x0, 0x0, false⟩,
   ⟨0x410, 64, 4, 0x0, 0x0, 0x0, 0x0, false⟩,
   ⟨0x414, 64, 4, 0x0, 0x0, 0x0, 0x0, false⟩,
   ⟨0x418, 64, 4, 0x0, 0x0, 0x0, 0x0, false⟩,
   ⟨0x41C, 64, 4, 0x0, 0x0, 0x0, 0x0, false⟩,
   ⟨0x420, 64, 4, 0x0, 0x0, 0x0, 0x0, false⟩,
   ⟨0x600, 16, 16, 0x0, 0x0, 0x0, 0x0, true⟩,
   ⟨0x604, 16, 16, 0x0, 0x0, 0x0, 0x0, true⟩,
   ⟨0x608, 16, 16, 0x0, 0x0, 0x0, 0x0, true⟩,
   ⟨0x8A0, 4, 1, 0x0, 0x0, 0x0, 0x3FFFF, false⟩]

/-- The RED block (R581). -/
def redRegs : List RegInfo :=
  [⟨0x0, 4, 1, 0x10001, 0x0, 0x0, 0x0, true⟩,
   ⟨0x4, 4, 1, 0xA003C, 0xFF0FFF, 0x0, 0x0, true⟩,
   ⟨0x8, 4, 1, 0x3E803E8, 0xFFFFFFFF, 0x0, 0x0, true⟩,
   ⟨0xC, 4, 1, 0xF, 0x0, 0xF, 0x0, true⟩,
   ⟨0x10, 4, 1, 0x0, 0xFFFFFFFF, 0x0, 0x0, true⟩,
   ⟨0x14, 4, 1, 0x0, 0x0, 0x0, 0x0, false⟩,
   ⟨0x20, 4, 1, 0x3, 0x0, 0x0, 0x0, false⟩,
   ⟨0x24, 4, 1, 0x3, 0x0, 0x0, 0x0, false⟩,
   ⟨0x28, 4, 1, 0x0, 0x0, 0x0, 0x0, false⟩,
   ⟨0x2C, 4, 1, 0x0, 0x0, 0x0, 0x0, false⟩,
   ⟨0x30, 4, 1, 0x0, 0x0, 0x0, 0x0, false⟩,
   ⟨0x40, 4, 1, 0x0, 0x0, 0x0, 0x0, true⟩,
   ⟨0x44, 4, 1, 0x0, 0x0, 0x0, 0x0, false⟩,
   ⟨0x48, 4, 1, 0x0, 0x0, 0x0, 0x0, true⟩,
   ⟨0x4C, 4, 1, 0xFFFFFFFF, 0x0, 0x0, 0x0, true⟩,
   ⟨0x50, 4, 1, 0x0, 0x0, 0x0, 0x0, false⟩,
   ⟨0x60, 4, 1, 0x0, 0x0, 0x0, 0x3FFF, false⟩,
   ⟨0x64, 4, 1, 0x0, 0x3FFF, 0x0, 0x0, true⟩,
   ⟨0x80, 4, 2, 0x0, 0x0, 0x0, 0x0, false⟩,
   ⟨0x140, 4, 1, 0x0, 0x0, 0x0, 0x1F, false⟩]

/-- A LANEn block (R78, R279). -/
def laneRegs : List RegInfo :=
  [⟨0x0, 4, 1, 0x0, 0x2, 0x0, 0x0, true⟩,
   ⟨0x4, 4, 1, 0x280030, 0x0, 0xFF033F, 0x0, true⟩,
   ⟨0x8, 4, 1, 0x30A64, 0x0, 0xFFFFF, 0x0, true⟩,
   ⟨0x10, 4, 1, 0x3F, 0x3F3F3F3F, 0x0, 0x0, true⟩,
   ⟨0x14, 4, 1, 0x60336, 0x3F3F3F3F, 0x0, 0x0, true⟩,
   ⟨0x18, 4, 1, 0xA0530, 0x3F3F3F3F, 0x0, 0x0, true⟩,
   ⟨0x1C, 4, 1, 0x206082F, 0x3F3F3F3F, 0x0, 0x0, true⟩,
   ⟨0x20, 4, 1, 0x0, 0x0, 0x0, 0x0, false⟩,
   ⟨0x24, 4, 1, 0xFF00, 0x0, 0x0, 0x0, false⟩,
   ⟨0x28, 4, 1, 0x0, 0x0, 0x0, 0x0, false⟩,
   ⟨0x2C, 4, 1, 0x0, 0x0, 0x0, 0x0, false⟩,
   ⟨0x30, 4, 1, 0x0, 0x0, 0x0, 0x0, false⟩,
   ⟨0x34, 4, 1, 0x0, 0x0, 0x0, 0x0, false⟩,
   ⟨0x40, 4, 1, 0x1, 0xF, 0x0, 0x0, true⟩,
   ⟨0x44, 4, 1, 0x0, 0x0, 0x0, 0x7FFF, false⟩,
   ⟨0x48, 4, 1, 0x0, 0x7FFF, 0x0, 0x0, true⟩,
   ⟨0x50, 4, 1, 0x0, 0xFF, 0x0, 0x0, true⟩,
   ⟨0x54, 4, 1, 0x0, 0x7FFFFFFF, 0x0, 0x80000000, true⟩,
   ⟨0x58, 4, 1, 0x0, 0x0, 0x0, 0x0, false⟩,
   ⟨0x80, 4, 1, 0xA06, 0xFF0F, 0x0, 0x0, true⟩,
   ⟨0x84, 4, 1, 0x0, 0x0, 0x0, 0x0, false⟩,
   ⟨0x88, 4, 1, 0x0, 0x0, 0x0, 0x0, false⟩,
   ⟨0x8C, 4, 1, 0x0, 0x0, 0x0, 0x0, false⟩,
   ⟨0x90, 4, 1, 0x0, 0x0, 0x0, 0x0, false⟩,
   ⟨0x94, 4, 1, 0x0, 0x0, 0x0, 0x0, false⟩,
   ⟨0x98, 4, 1, 0x0, 0x0, 0x0, 0x0, false⟩,
   ⟨0xA0, 4, 4, 0x0, 0x0, 0x0, 0x0, false⟩,
   ⟨0xB0, 4, 4, 0x0, 0x0, 0x0, 0x0, false⟩,
   ⟨0xC0, 4, 1, 0x0, 0x0, 0x0, 0x0, false⟩,
   ⟨0xC4, 4, 1, 0x0, 0x0, 0x0, 0x0, false⟩,
   ⟨0xC8, 4, 1, 0x0, 0x0, 0x0, 0x0, false⟩,
   ⟨0xD0, 4, 1, 0x0, 0x0, 0x0, 0x3F, false⟩,
   ⟨0xD4, 4, 1, 0x0, 0x3F, 0x0, 0x0, true⟩]

/-- A PORTn block (R108, R281). -/
def portRegs : List RegInfo :=
  [⟨0x0, 4, 1, 0x0, 0x0, 0x0, 0x0, false⟩,
   ⟨0x4, 4, 1, 0x28000003, 0x0, 0x3FFF0003, 0x0, true⟩,
   ⟨0x8, 4, 1, 0x10002, 0x103FF, 0x0, 0x0, true⟩,
   ⟨0xC, 4, 1, 0x0, 0x0, 0xFFFFFFFF, 0x0, true⟩,
   ⟨0x10, 4, 1, 0x0, 0x0, 0xFFFF, 0x0, true⟩,
   ⟨0x20, 4, 1, 0x100, 0x0, 0x0, 0x0, false⟩,
   ⟨0x24, 4, 1, 0x0, 0x0, 0x0, 0x0, false⟩,
   ⟨0x28, 4, 1, 0x0, 0x0, 0x0, 0x0, false⟩,
   ⟨0x2C, 4, 1, 0x0, 0x0, 0x0, 0x0, false⟩,
   ⟨0x40, 4, 1, 0x0, 0x0, 0x0, 0x7FF, false⟩,
   ⟨0x44, 4, 1, 0x0, 0x7FF, 0x0, 0x0, true⟩,
   ⟨0x1A0, 4, 1, 0x0, 0x0, 0x0, 0xFFFFF, false⟩,
   ⟨0x200, 4, 1, 0x0, 0xFFFFFFFF, 0x0, 0x0, true⟩,
   ⟨0x204, 4, 1, 0x0, 0xFFFFFFFF, 0x0, 0x0, true⟩,
   ⟨0x208, 4, 1, 0x0, 0xFFFFFFFF, 0x0, 0x0, true⟩,
   ⟨0x20C, 4, 1, 0x0, 0xFFFFFFFF, 0x0, 0x0, true⟩,
   ⟨0x210, 4, 1, 0x0, 0xFFFFFFFF, 0x0, 0x0, true⟩,
   ⟨0x214, 4, 1, 0x0, 0x0, 0x0, 0x0, false⟩,
   ⟨0x220, 4, 1, 0x103000E, 0xFFFF0F0F, 0x0, 0x0, true⟩,
   ⟨0x224, 4, 1, 0x0, 0x0, 0x0, 0x0, false⟩,
   ⟨0x230, 4, 1, 0x0, 0x0, 0x0, 0x0, false⟩,
   ⟨0x234, 4, 1, 0x0, 0x0, 0x0, 0x0, false⟩,
   ⟨0x238, 4, 1, 0x0, 0x0, 0x0, 0x0, false⟩]

/-- The CORE block (R159). -/
def coreRegs : List RegInfo :=
  [⟨0x0, 4, 1, 0x0, 0x1, 0x0, 0x0, true⟩,
   ⟨0x4, 4, 1, 0x9C4, 0x1FFFF, 0x0, 0x0, true⟩,
   ⟨0x8, 4, 1, 0x4E2, 0x1FFFF, 0x0, 0x0, true⟩,
   ⟨0xC, 4, 1, 0x400, 0xFFFF, 0x0, 0x0, true⟩,
   ⟨0x10, 4, 1, 0x12C, 0xFFFF, 0x0, 0x0, true⟩,
   ⟨0x20, 4, 1, 0x10, 0x0, 0x0, 0x0, false⟩,
   ⟨0x24, 4, 1, 0x18000, 0x0, 0x0, 0x0, false⟩,
   ⟨0x28, 4, 1, 0x20000, 0x0, 0x0, 0x0, false⟩,
   ⟨0x2C, 4, 1, 0x0, 0x0, 0x0, 0x0, false⟩,
   ⟨0x30, 4, 1, 0x0, 0x0, 0x0, 0x0, false⟩,
   ⟨0x40, 4, 1, 0x0, 0x0, 0x0, 0x3FFF, false⟩,
   ⟨0x44, 4, 1, 0x0, 0x3FFF, 0x0, 0x0, true⟩,
   ⟨0x48, 4, 1, 0x0, 0x0, 0x0, 0x0, false⟩,
   ⟨0x104, 4, 15, 0xF4240, 0xFFFFF, 0x0, 0x0, true⟩,
   ⟨0x2A0, 4, 1, 0x0, 0x0, 0x0, 0xFFFFF, false⟩,
   ⟨0x400, 16, 16, 0x0, 0x0, 0x0, 0x0, false⟩,
   ⟨0x404, 16, 16, 0x0, 0xFFFFFFFF, 0x0, 0x0, true⟩,
   ⟨0x408, 16, 16, 0x0, 0xFFFFFFFF, 0x0, 0x0, true⟩,
   ⟨0x500, 4, 1, 0x0, 0x0, 0x0, 0xFFFFFFFF, false⟩,
   ⟨0x600, 8, 40, 0xDAC688, 0x7FFFFFF, 0x0, 0x0, true⟩,
   ⟨0x604, 8, 40, 0x1, 0xFFF, 0x0, 0x0, true⟩]

/-- A QUEn block (R193). -/
def queRegs : List RegInfo :=
  [⟨0x0, 4, 1, 0x7F, 0x7F, 0x0, 0x0, true⟩,
   ⟨0x8, 4, 1, 0x2000, 0x3FFF0000, 0x7FF7, 0x0, true⟩,
   ⟨0x40, 4, 1, 0xFF0000, 0x0, 0x0, 0x0, false⟩,
   ⟨0x44, 4, 1, 0x0, 0x0, 0x0, 0x0, false⟩,
   ⟨0x48, 4, 1, 0x0, 0x0, 0x0, 0x0, false⟩,
   ⟨0x4C, 4, 1, 0x0, 0x0, 0x0, 0x0, false⟩,
   ⟨0x50, 4, 1, 0x0, 0x0, 0x0, 0x0, false⟩,
   ⟨0x54, 4, 1, 0x0, 0x0, 0x0, 0x0, false⟩,
   ⟨0x58, 4, 1, 0x0, 0x0, 0x0, 0x0, false⟩,
   ⟨0x5C, 4, 1, 0x0, 0x0, 0x0, 0x0, false⟩,
   ⟨0x60, 4, 1, 0x0, 0x0, 0x0, 0x0, false⟩,
   ⟨0x64, 4, 1, 0x0, 0x103FF, 0x0, 0x0, true⟩,
   ⟨0x68, 4, 1, 0x0, 0x0, 0x0, 0x0, false⟩,
   ⟨0x6C, 4, 1, 0x0, 0x0, 0x0, 0x0, false⟩,
   ⟨0x80, 4, 1, 0x0, 0x0, 0x0, 0xFF, false⟩,
   ⟨0x84, 4, 1, 0x0, 0xFF, 0x0, 0x0, true⟩,
   ⟨0x90, 4, 1, 0x0, 0x0, 0x0, 0x0, false⟩,
   ⟨0x94, 4, 1, 0x0, 0x0, 0x0, 0x0, false⟩,
   ⟨0x98, 4, 1, 0x0, 0x0, 0x0, 0x0, false⟩,
   ⟨0x9C, 4, 1, 0x0, 0x0, 0x0, 0x0, false⟩,
   ⟨0xA0, 4, 1, 0x0, 0x0, 0x0, 0x0, false⟩,
   ⟨0x100, 32, 8, 0x800, 0x7FF0F, 0x0, 0x0, true⟩,
   ⟨0x104, 32, 8, 0x800, 0xFFFF, 0x0, 0x0, true⟩,
   ⟨0x108, 32, 8, 0xF4240, 0xFFFFF, 0x0, 0x0, true⟩,
   ⟨0x10C, 32, 8, 0x0, 0x0, 0x0, 0x0, false⟩,
   ⟨0x600, 4, 1, 0x0, 0x0, 0x0, 0x3F3F3F3F, false⟩,
   ⟨0x604, 4, 1, 0x0, 0x0, 0x0, 0x3F3F3F3F, false⟩]

/-- The QUEG block (R199). -/
def quegRegs : List RegInfo :=
  [⟨0x0, 4, 1, 0x1000, 0x7FFF, 0x0, 0x0, true⟩,
   ⟨0x4, 4, 1, 0x0, 0x0, 0x0, 0x0, false⟩,
   ⟨0x8, 4, 1, 0x17000, 0x0, 0x0, 0x0, false⟩,
   ⟨0xC, 4, 1, 0x0, 0x0, 0x0, 0x0, false⟩,
   ⟨0x40, 4, 1, 0x0, 0x0, 0x0, 0x3, false⟩,
   ⟨0x44, 4, 1, 0x0, 0x3, 0x0, 0x0, true⟩,
   ⟨0x110, 16, 255, 0x0, 0x0, 0x0, 0x0, true⟩,
   ⟨0x114, 16, 255, 0x0, 0x0, 0x0, 0x0, true⟩,
   ⟨0x118, 16, 255, 0x0, 0x0, 0x0, 0x0, true⟩,
   ⟨0x11C, 16, 255, 0x0, 0x0, 0x0, 0x0, true⟩]

/-- The FWD block (R521). -/
def fwdRegs : List RegInfo :=
  [⟨0x0, 4, 1, 0x0, 0x3FFFFF0F, 0x0, 0x0, true⟩,
   ⟨0x4, 4, 1, 0x0, 0x0, 0x0, 0x0, false⟩,
   ⟨0x8, 4, 1, 0x0, 0x0, 0x0, 0x0, false⟩,
   ⟨0x100, 4, 136, 0x0, 0x0, 0x0, 0x0, false⟩]

/-- A field engine block (R462). -/
def engRegs : List RegInfo :=
  [⟨0x0, 4, 1, 0x0, 0x0, 0x0, 0x0, false⟩,
   ⟨0x4, 4, 1, 0x0, 0x0, 0x0, 0x3F, false⟩,
   ⟨0x8, 4, 1, 0x0, 0x3F, 0x0, 0x0, true⟩,
   ⟨0xC, 4, 1, 0x0, 0x0, 0x0, 0x0, true⟩,
   ⟨0x10, 4, 1, 0x0, 0x0, 0x0, 0x0, false⟩,
   ⟨0x14, 4, 1, 0x0, 0x0, 0x0, 0x0, true⟩,
   ⟨0x18, 4, 1, 0x0, 0x0, 0x0, 0x2, false⟩,
   ⟨0x20, 4, 4, 0x0, 0x0, 0x0, 0x0, true⟩,
   ⟨0x30, 4, 1, 0x0, 0x0, 0x0, 0xF, false⟩,
   ⟨0x40, 8, 4, 0x0, 0x0, 0x0, 0x0, false⟩,
   ⟨0x44, 8, 4, 0x0, 0x0, 0x0, 0x0, false⟩,
   ⟨0x80, 4, 16, 0x0, 0xFFFFFFFF, 0x0, 0x0, true⟩,
   ⟨0xC0, 4, 16, 0x0, 0x0, 0x0, 0x0, false⟩]

/-- The PMC block (R463). -/
def pmcRegs : List RegInfo :=
  [⟨0x0, 4, 1, 0x0, 0x1, 0x0, 0x0, true⟩,
   ⟨0x4, 4, 1, 0x0, 0x0, 0x0, 0x7, false⟩,
   ⟨0x8, 4, 1, 0x0, 0x7, 0x0, 0x0, true⟩,
   ⟨0x10, 4, 1, 0x0, 0x0, 0x0, 0xFFFFFFFF, false⟩,
   ⟨0x14, 4, 1, 0x0, 0x0, 0x0, 0xFFFFFFFF, false⟩,
   ⟨0x100, 4, 64, 0x0, 0x0, 0x0, 0x0, true⟩,
   ⟨0x200, 8, 64, 0x0, 0x0, 0x0, 0x0, false⟩,
   ⟨0x204, 8, 64, 0x0, 0x0, 0x0, 0x0, false⟩,
   ⟨0x400, 32, 5, 0x0, 0x30F0F, 0x0, 0x0, true⟩,
   ⟨0x404, 32, 5, 0x0, 0x0, 0x0, 0x0, false⟩,
   ⟨0x500, 4, 80, 0x0, 0x0, 0x0, 0x0, false⟩]

/-- Whether a row of the map covers an offset of its block. -/
def RegInfo.covers (i : RegInfo) (r : Nat) : Bool :=
  decide (i.off ≤ r) && (r - i.off) % i.stride == 0 && decide ((r - i.off) / i.stride < i.count)

/-- The row of a block's map for an offset. -/
def findReg : List RegInfo → Nat → Option RegInfo
  | [], _ => none
  | i :: t, r => if i.covers r then some i else findReg t r

/-- Whether an engine block lists the offset: a runtime engine's applet registers read zero, a management engine has its
status and counters only (R462). -/
def engHas (e r : Nat) : Bool :=
  if e < 16 then e % 4 != 0 || r == 0 || (decide (0x20 ≤ r) && decide (r < 0x60))
  else r == 0 || (decide (0x20 ≤ r) && decide (r < 0x60))

/-- The map's row for a BAR0 offset; none where the offset is reserved (R508). Counters are not in it (see `cntInfo`). -/
def regInfo (a : Nat) : Option RegInfo :=
  if a % 4 != 0 then none
  else if a < 0x1000 then findReg glbRegs a
  else if a < 0x10000 then none
  else if a < 0x10400 then findReg cmdRegs (a - 0x10000)
  else if a < 0x20000 then none
  else if a < 0x30000 then findReg fltRegs (a - 0x20000)
  else if a < 0x40000 then none
  else if a < 0x40800 then findReg tbRegs (a - 0x40000)
  else if a < 0x50000 then none
  else if a < 0x50800 then findReg trlRegs (a - 0x50000)
  else if a < 0x58000 then none
  else if a < 0x58800 then findReg trlRegs (a - 0x58000)
  else if a < 0x60000 then none
  else if a < 0x64900 then findReg clkRegs (a - 0x60000)
  else if a < 0x70000 then none
  else if a < 0x70900 then findReg synRegs (a - 0x70000)
  else if a < 0x80000 then none
  else if a < 0x90000 then findReg redRegs (a - 0x80000)
  else if a < 0x100000 then none
  else if a < 0x128000 then findReg laneRegs ((a - 0x100000) % 0x1000)
  else if a < 0x140000 then none
  else if a < 0x168000 then findReg portRegs ((a - 0x140000) % 0x1000)
  else if a < 0x180000 then none
  else if a < 0x181000 then findReg coreRegs (a - 0x180000)
  else if a < 0x1A0000 then none
  else if a < 0x1B5000 then
    let n := (a - 0x1A0000) / 0x800
    let r := (a - 0x1A0000) % 0x800
    if n ≥ 40 && (r == 8 || (decide (0x40 ≤ r) && decide (r ≤ 0xA8) && r != 0x80 && r != 0x84)) then none else findReg queRegs r
  else if a < 0x1BE000 then none
  else if a < 0x1C0000 then findReg quegRegs (a - 0x1BE000)
  else if a < 0x1C0400 then findReg fwdRegs (a - 0x1C0000)
  else if a < 0x200000 then none
  else if a < 0x201200 then
    let e := (a - 0x200000) / 0x100
    let r := (a - 0x200000) % 0x100
    if engHas e r then findReg engRegs r else none
  else if a < 0x280000 then none
  else if a < 0x280800 then findReg pmcRegs (a - 0x280000)
  else none

/-- The reset value of a stored register word: the map's, or the fused constants of a lane (R263, R279; log 16). -/
def regReset (a : Nat) : Nat :=
  match regInfo a with
  | some i =>
    if 0x100000 ≤ a && a < 0x128000 then
      let n := (a - 0x100000) / 0x1000
      let r := (a - 0x100000) % 0x1000
      if 0xA0 ≤ r && r < 0xB0 then (Config.kTx n ((r - 0xA0) / 4)).toNat
      else if 0xB0 ≤ r && r < 0xC0 then (Config.kRx n ((r - 0xB0) / 4)).toNat
      else if r == 0xC0 then (Config.ktc n).toNat
      else i.reset
    else i.reset
  | none => 0

/-- `regReset` as a word, the default of the register table. -/
def regDflt (a : Nat) : Word := BitVec.ofNat 32 (regReset a)

/-- A counter: the offset of its LO word, its width in bits, its wrap bit, and the event bit a wrap sets. -/
structure CntInfo where
  lo : Nat
  width : Nat
  ovf : Nat
  ovfBit : Nat
  ev : Option (Nat × Nat)
  deriving DecidableEq, Repr

/-- The counter whose LO or HI word is at an offset (R112, R163, R197, R247, R310, R336, R381, R442, R455, R462, R503, R556,
R584). -/
def cntInfo (a : Nat) : Option CntInfo :=
  let a := a / 8 * 8
  if a < 0x20000 then
    let k := (a - 0x10300) / 8
    if 0x10300 ≤ a && k < 6 then some ⟨a, 64, Reg.CMD_CNT_OVF, k, some (Reg.CMD_EVENT, 7)⟩ else none
  else if a < 0x30000 then
    let k := (a - 0x20200) / 8
    if 0x20200 ≤ a && k < 8 then some ⟨a, 64, Reg.FLT_CNT_OVF, k, some (Reg.FLT_EVENT, 8)⟩ else none
  else if a < 0x50000 then
    let k := (a - 0x40700) / 8
    if 0x40700 ≤ a && k < 8 then some ⟨a, 64, Reg.TB_CNT_OVF, k, some (Reg.TB_EVENT, 9)⟩ else none
  else if a < 0x60000 then
    let x := (a - 0x50000) / 0x8000
    let r := (a - 0x50000) % 0x8000
    if 0x600 ≤ r && r < 0x628 then some ⟨a, 64, Reg.TRL_CNT_OVF x, (r - 0x600) / 8, some (Reg.TRL_EVENT x, 13)⟩ else none
  else if a < 0x70000 then
    let r := a - 0x60000
    if 0x200 ≤ r && r < 0x220 then some ⟨a, 64, Reg.CLK_CNT_OVF, (r - 0x200) / 8, some (Reg.CLK_EVENT, 12)⟩
    else if 0x4000 ≤ r && r < 0x4500 then
      let m := (r - 0x4000) / 0x40
      let q := (r - 0x4000) % 0x40
      if 0x10 ≤ q && q < 0x30 then some ⟨a, 64, Reg.CLK_MTR_CNT_OVF m, (q - 0x10) / 8, some (Reg.CLK_MTR_EVENT m, 9)⟩ else none
    else none
  else if a < 0x80000 then
    let k := (a - 0x70800) / 8
    if 0x70800 ≤ a && k < 18 then some ⟨a, 64, Reg.SYN_CNT_OVF, k, some (Reg.SYN_EVENT, 9)⟩ else none
  else if a < 0x90000 then
    let k := (a - 0x80100) / 8
    if 0x80100 ≤ a && k < 5 then some ⟨a, 64, Reg.RED_CNT_OVF, k, some (Reg.RED_EVENT, 12)⟩ else none
  else if a < 0x140000 then none
  else if a < 0x168000 then
    let n := (a - 0x140000) / 0x1000
    let r := (a - 0x140000) % 0x1000
    if 0x100 ≤ r && r < 0x1A0 then some ⟨a, 64, Reg.PORT_CNT_OVF n, (r - 0x100) / 8, some (Reg.PORT_EVENT n, 10)⟩ else none
  else if a < 0x1A0000 then
    let k := (a - 0x180200) / 8
    if 0x180200 ≤ a && k < 20 then some ⟨a, 64, Reg.CORE_CNT_OVF, k, some (Reg.CORE_EVENT, 12)⟩ else none
  else if a < 0x1B5000 then
    let n := (a - 0x1A0000) / 0x800
    let r := (a - 0x1A0000) % 0x800
    if 0x400 ≤ r && r < 0x600 then
      let c := (r - 0x400) / 0x40
      let k := (r - 0x400) % 0x40 / 8
      some ⟨a, 64, if c < 4 then Reg.QUE_CNT_OVF0 n else Reg.QUE_CNT_OVF1 n, 8 * (c % 4) + k, some (Reg.QUE_EVENT n, 7)⟩
    else none
  else if a < 0x200000 then none
  else if a < 0x201200 then
    let e := (a - 0x200000) / 0x100
    let r := (a - 0x200000) % 0x100
    if 0x40 ≤ r && r < 0x60 then
      if e < 16 then some ⟨a, 48, Reg.ENG_FE_CNT_OVF e, (r - 0x40) / 8, some (Reg.ENG_FE_EVENT e, 5)⟩
      else some ⟨a, 48, Reg.ENG_ME_CNT_OVF (e - 16), (r - 0x40) / 8, none⟩
    else none
  else if 0x280200 ≤ a && a < 0x280400 then
    let g := (a - 0x280200) / 8
    some ⟨a, 48, if g < 32 then Reg.PMC_OVF_LO else Reg.PMC_OVF_HI, g % 32, some (Reg.PMC_EVENT, 0)⟩
  else none

/-- An offset that no block's map lists (R508). The CF window, which no register holds, is not told by it. -/
def reserved (a : Nat) : Bool := (regInfo a).isNone && (cntInfo a).isNone

end Sys2Proof.Machine
end

