-- ==== Sys2Proof/Machine/Frac.lean ====
section
/-! DEFINITION. Exact fractions in lowest terms, which the kernel evaluates, for the shaft's exact rationals (R427) and the
Trellis's fits (R297). -/

namespace Sys2Proof.Machine

/-- A fraction: numerator over a positive denominator, in lowest terms where made by `frac`. -/
structure Q where
  num : Int := 0
  den : Nat := 1
  deriving DecidableEq, Repr

/-- n / d in lowest terms; 0 where d is 0. -/
def frac (n d : Int) : Q :=
  let g := Nat.gcd n.natAbs d.natAbs
  if d = 0 then {}
  else if 0 < d then ⟨n / g, d.natAbs / g⟩
  else ⟨-n / g, d.natAbs / g⟩

/-- A whole number. -/
def qOf (n : Int) : Q := ⟨n, 1⟩
def qAdd (a b : Q) : Q := frac (a.num * b.den + b.num * a.den) (a.den * b.den)
def qNeg (a : Q) : Q := ⟨-a.num, a.den⟩
def qSub (a b : Q) : Q := qAdd a (qNeg b)
def qMul (a b : Q) : Q := frac (a.num * b.num) (a.den * b.den)
def qDiv (a b : Q) : Q := frac (a.num * b.den) (a.den * b.num)
def qAbs (a : Q) : Q := ⟨a.num.natAbs, a.den⟩
def qSign (a : Q) : Int := if a.num < 0 then -1 else if a.num = 0 then 0 else 1
def qLt (a b : Q) : Bool := decide (a.num * b.den < b.num * a.den)
def qLe (a b : Q) : Bool := decide (a.num * b.den ≤ b.num * a.den)
def qMin (a b : Q) : Q := if qLe a b then a else b
/-- The greatest whole number not above. -/
def qFloor (a : Q) : Int := a.num / (a.den : Int)
/-- The nearest whole number, ties away from zero (R427). -/
def qRound (a : Q) : Int :=
  if a.num < 0 then -((2 * (-a.num) + a.den) / (2 * (a.den : Int))) else (2 * a.num + a.den) / (2 * (a.den : Int))
/-- The nearest whole number toward zero. -/
def qTrunc (a : Q) : Int := if a.num < 0 then -((-a.num) / (a.den : Int)) else a.num / (a.den : Int)

/-- The whole square root by bisection: the largest r with r·r ≤ v, sought below 2^k. -/
def isqrtFrom (v : Nat) : Nat → Nat → Nat
  | 0, r => r
  | k + 1, r => if (r + 2 ^ k) * (r + 2 ^ k) ≤ v then isqrtFrom v k (r + 2 ^ k) else isqrtFrom v k r

/-- The whole square root of a number below 2^256. -/
def isqrt (v : Nat) : Nat := isqrtFrom v 128 0

end Sys2Proof.Machine
end

