-- ==== Sys2Proof/Machine/Types.lean ====
section
/-! DEFINITION. The records that the device's state is made of, unit by unit. Registers are not here: they stand in the
register table of `Device` under their offsets. Times are counts of the model's tick of 0.8 ns (log 3). -/

namespace Sys2Proof.Machine

/-- What the device has put out, newest first in `Device.emitted` (log 4). -/
inductive Emit
  /-- A frame sent on an output: output, bytes with FCS as sent, whether it was cut (R322, R153). -/
  | frame (out : Nat) (bytes : List Byte) (cut : Bool)
  /-- A frame handed to the host rings from the CPU output, with its tag words (R32, R125). -/
  | host (tag : List Word) (bytes : List Byte)
  /-- A PTP message handed to the runtime engine of a bed, with its arrival on the domain (R231). -/
  | engine (bed : Nat) (time : Nat) (bytes : List Byte)
  /-- A transmit capture for the runtime engine of a bed: identifier, departure in 2^-16 ns (R240). -/
  | engineCapture (bed id time : Nat) (cut disabled : Bool)
  /-- A ladder message sent on a lane: KIND and fields (R59). -/
  | ladder (lane kind : Nat) (m : LadderMsg)
  /-- An L1_SYNC TLV sent on a port: flags (R273). -/
  | tlv (port : Nat) (flags : Nat) (opt : Bool)
  /-- An MSI-X message (R482, R519). -/
  | msix (vec : Nat)
  /-- A claim message on a Brely lane (R569). -/
  | claimBrely (k : Nat) (msg : Nat)
  /-- A claim message on CLAIM_OUT (R570). -/
  | claimPin (msg : Nat)
  /-- A reply returned to an applet engine's COMMAND or to firmware, as packet words (R471, R448). -/
  | reply (o : Origin) (words : List Word)
  /-- The answer of an applet service: engine, status, words (R448). -/
  | service (e status : Nat) (words : List Word)
  /-- A read of a removing register answered these words (R507). -/
  | read (words : List Word)
  /-- A mirror record sent over the Brely link (R575). -/
  | mirror (r : MirrorRec)
  /-- A committed shaft command forwarded to the partner (R575). -/
  | forward (words : List Word)
  /-- PPS_OUT moved (R331). -/
  | pps (level : Bool)
  /-- A sync pin's drive changed: none is high impedance (R416, R421). -/
  | pin (j : Nat) (level : Option Bool)
  /-- PWR_REQ moved (R620, R622). -/
  | pwrReq (level : Bool)
  deriving DecidableEq, Repr

/-- Fused identity (R8, R523). -/
structure Fuse where
  /-- true GLS-7340-MA, false GLS-7340-IA (R4). -/
  ma : Bool
  serial : Nat
  deriving DecidableEq, Repr

/-- The access machinery of the register chapter: what the views hold beside the registers. -/
structure Bus where
  /-- Shadow words, keyed by view × 2^24 + offset (R511). -/
  shadow : Table (Option Word) := []
  /-- Staged words, keyed by view × 2^24 + offset (R512). -/
  staged : Table (Option Word) := []
  /-- The pending value of each pair-protected register by offset: view, value, tick of the first write (R515). -/
  pp : Table (Option (Nat × Word × Nat)) := []
  /-- GLB_LOCK has taken its write (R514). -/
  wolLocked : Bool := false
  /-- The snapshot words of FWD_Dw (R521). -/
  fwdSnap : List Word := []
  /-- When the running snapshot of FWD began (R521). -/
  fwdBusy : Option Nat := none
  /-- Interrupt sources pending when last settled, bit s (R518). -/
  srcPend : Nat := 0
  /-- MSI-X mask and pending bits (R519). -/
  msixMask : Nat := 0
  msixPend : Nat := 0
  deriving DecidableEq, Repr

/-- A lane's state beside its registers (R65 to R75, R250 to R261). -/
structure Lane where
  usableRun : Nat := 0
  belowRun : Nat := 0
  timingRun : Nat := 0
  coarse : Bool := true
  peaking : Nat := 0
  /-- Outcome of the first complete window after a wake; armed while the wake's shortcut may act (R73). -/
  wakeArmed : Bool := false
  wakeWin : Option Bool := none
  /-- Entry sequences running: target state (R71). -/
  txEntry : Option Nat := none
  rxEntry : Option Nat := none
  /-- Wakes running: ticks they began (R70). -/
  txWake : Option Nat := none
  rxWake : Option Nat := none
  /-- A request to ON waits for a running entry (R72). -/
  txOnAfter : Bool := false
  rxOnAfter : Bool := false
  /-- Peaking stored for passed rungs (R62, R64). -/
  stored : List (Nat × Nat) := []
  /-- Phase acquisition running since (R255). -/
  acqFrom : Option Nat := none
  /-- The averaging window holds a slip (R257). -/
  winSlip : Bool := false
  /-- Unwrapped phase, 2^-16 ns (R251, R285). -/
  phi : Int := 0
  /-- Skew differences of the last marker periods, newest first (R261). -/
  skews : List Int := []
  skewBase : Option Int := none
  /-- The transmitter realigns (R250). -/
  realign : Bool := false
  deriving DecidableEq, Repr

/-- A ladder's state beside LANEn_LADDER (R60 to R64). -/
structure Ladder where
  ceiling : Nat := 3
  peer : Option LadderMsg := none
  seq : Nat := 0
  /-- Tag and kind of the message last received (R60). -/
  lastRx : Option (Nat × Nat) := none
  /-- The rung held, the rung a step goes to and the highest rung passed (R62). -/
  rung : Nat := 0
  target : Nat := 0
  passed : Nat := 0
  /-- The tick the state's time-outs count from. -/
  t0 : Nat := 0
  /-- The rate switch due after STEP_ACK (R62 row 3). -/
  switchAt : Option Nat := none
  reverted : Bool := false
  /-- The repeated message and when it was last sent. -/
  sent : Option (Nat × LadderMsg) := none
  lastSent : Nat := 0
  fails : Nat := 0
  deriving DecidableEq, Repr

/-- A port's state beside its registers (R96 to R104). -/
structure Port where
  /-- Since when link_ok holds (R97). -/
  okSince : Option Nat := none
  /-- Ends of DOWN_HOLD and of a drain (R90, R98, R104). -/
  holdEnd : Option Nat := none
  drainEnd : Option Nat := none
  /-- Device tick at which the recovery attempt of a link fault began (R102). -/
  recoverAt : Option Nat := none
  /-- Device ticks of the last L1_SYNC TLV received and sent (R275). -/
  tlvAt : Nat := 0
  tlvSent : Option Nat := none
  deriving DecidableEq, Repr

/-- The frame tag (R125), field by field. -/
structure Tag where
  src : Nat := 0
  tc : Nat := 0
  domain : Nat := 0
  ageIdx : Nat := 0
  seq : Nat := 0
  destKind : Nat := 0
  dest : Nat := 0
  cpuCopy : Bool := false
  len : Nat := 0
  arrTick : Nat := 0
  arrFine : Nat := 0
  launchNs : Nat := 0
  launchValid : Bool := false
  launchSec : Nat := 0
  stream : Nat := 0
  streamValid : Bool := false
  tsOp : Nat := 0
  ptpOff : Nat := 0
  csumKind : Nat := 0
  csumOff : Nat := 0
  capId : Nat := 0
  ecn : Bool := false
  dei : Bool := false
  late : Bool := false
  policed : Bool := false
  vid : Nat := 0
  deriving DecidableEq, Repr

/-- A frame in the buffer (R128, R131): its bytes with FCS, its cells as (bank, cell), how many linked copies have not
ended, and, until it is linked, the copies to make as (output, sequence number). -/
structure Frame where
  bytes : List Byte
  tag : Tag
  cells : List (Nat × Nat)
  copies : Nat
  dests : List (Nat × Nat)
  mcast : Bool
  /-- Recovery instance of its stream entry (R191); 0 none. -/
  recov : Nat
  /-- R-TAG offset and number, where the frame has one (R190, R191); whether the pipeline inserted it behind Parse. -/
  rtag : Option (Nat × Nat)
  gen : Bool
  /-- An applet engine's FRAME_SEND, which counts against its 16 (R448). -/
  sender : Option Nat
  /-- Port link-state filter aside, this frame is a reply or host frame of VID 0 (R126). -/
  noVlan : Bool
  deriving DecidableEq, Repr

/-- A copy: its frame, its output, its tag with its own number and marks, and its resolved launch time in ns (R178). -/
structure Copy where
  fid : Nat
  out : Nat
  tag : Tag
  launch : Nat := 0
  enter : Nat := 0
  /-- Its launch tick, once that has come (R179); marked ready. -/
  ltick : Option Nat := none
  ready : Bool := false
  deriving DecidableEq, Repr

/-- A Rake stream of an output (R135 to R140): held numbers with their copies, none for a token. -/
structure Stream where
  exp : Nat := 0
  resync : Bool := false
  held : List (Nat × Option Copy) := []
  gapAt : Nat := 0
  deriving DecidableEq, Repr

/-- A gate list (R172): base in ns, cycle in ticks, entries as (interval, gates). -/
structure GateList where
  base : Nat
  cycle : Nat
  entries : List (Nat × Nat)
  deriving DecidableEq, Repr

/-- The pending list while it is written (R174): base, cycle, count, the entries written so far by index. -/
structure PendList where
  base : Nat
  cycle : Nat
  count : Nat
  written : Table (Option (Nat × Nat))
  deriving DecidableEq, Repr

/-- A copy being sent (R132, R169): bytes as sent, the tick it started, the end of its last bit in
units of 10 ps, and whether it has been cut. -/
structure Wire where
  copy : Copy
  bytes : List Byte
  start : Nat
  endAt : Nat
  cut : Bool
  /-- The departure on the copy's time base, and whether that base was enabled (R240). -/
  depart : Nat := 0
  departEn : Bool := true
  deriving DecidableEq, Repr

/-- An output (R165 to R183). -/
structure Output where
  /-- Rake streams, keyed by source × 8 + class. -/
  rake : Table Stream := []
  /-- Streams not listed are resynchronised (R140). -/
  resyncRest : Bool := false
  /-- Held TC7 copies in key order (R142). -/
  tended : List Copy := []
  /-- Release lists, keyed by class (R165). -/
  rel : Table (List Copy) := []
  deficit : Table Nat := []
  /-- The class the weighted visit stands at, and whether it is current (R168). -/
  ring : Nat := 6
  current : Bool := false
  active : Option GateList := none
  pend : Option PendList := none
  /-- The armed change: time CT in units of 2^-48/25 ns, and whether it disables (R175). -/
  armed : Option (Nat × Bool) := none
  launch : List Copy := []
  wire : Option Wire := none
  /-- When the wire is free again, units of 10 ps (R167). -/
  wireFree : Nat := 0
  /-- The tick at which the copy that R181 has reported entered the list. -/
  delayed : Option Nat := none
  deriving DecidableEq, Repr

/-- The switch core beside its registers (R128 to R157). -/
structure SwitchCore where
  /-- Frames in the buffer or waiting for a plane, by number. -/
  frames : List (Nat × Frame) := []
  nextFrame : Nat := 0
  /-- The frame each write plane writes (R130). -/
  planes : List (Nat × Nat) := []
  /-- Frames waiting for a plane, oldest first, with their source. -/
  waiting : List Nat := []
  /-- Cells no list reaches, until the audit (R154). -/
  lost : List (Nat × Nat) := []
  descUsed : Nat := 0
  /-- Sequence counters, keyed by (source × 8 + class) × 64 + output (R124). -/
  seqs : Table Nat := []
  sharedUsed : Nat := 0
  tendedUsed : Nat := 0
  exhausted : Bool := false
  /-- Corrected words of a bank in its running window, and when the window began, in device ticks (R157). -/
  bankWin : Table Nat := []
  bankWinAt : Table Nat := []
  /-- Tended frames that were present when a determinism condition failed (R46). -/
  detFrames : List Nat := []
  /-- A tended stream exceeded its budget since the conditions last held (R189). -/
  budget : Bool := false
  deriving DecidableEq, Repr

/-- A VLAN entry (R117). -/
structure Vlan where
  valid : Bool := false
  members : Nat := 0
  untag : Nat := 0
  fid : Nat := 0
  learn : Bool := false
  flood : Nat := 0
  deriving DecidableEq, Repr

/-- An FDB entry (R117, R119). -/
structure FdbEntry where
  fid : Nat
  mac : Nat
  dest : Nat
  group : Bool
  static_ : Bool
  /-- Tick of the last refresh (R120). -/
  fresh : Nat
  deriving DecidableEq, Repr

/-- The forwarding tables (R117, R188 to R191). Rules, streams, filters, gates and meters hold their parameter words. -/
structure Fwd where
  vlan : Table Vlan := []
  /-- Bucket × 4 + way. -/
  fdb : Table (Option FdbEntry) := []
  mcast : Table Nat := []
  /-- W2 to W17 of a valid rule. -/
  rules : Table (List Word) := []
  /-- W1 to W5 of a valid stream entry. -/
  streams : Table (List Word) := []
  filters : Table (List Word) := []
  gates : Table (List Word) := []
  meters : Table (List Word) := []
  /-- Token counts of a meter in 8 × 10^-7 bit, 10^7 to a byte: (committed, excess, tick of the last update); none full. -/
  tokens : Table (Option (Nat × Nat × Nat)) := []
  /-- Twice the next number of a generation instance, plus one where it is valid (R190). -/
  gen : Table Nat := []
  /-- Words of entries written with VALID = 0, keyed by table × 2^16 + index (R521, R522). -/
  stale : Table (List Word) := []
  /-- W1 to W3 of a valid recovery instance. -/
  recov : Table (List Word) := []
  /-- Recovery state: highest number and history bits, none when taking any; tick of the last accepted (R191). -/
  recovSt : Table (Option (Nat × List Bool)) := []
  recovAt : Table Nat := []
  /-- Entry counters (R522), keyed by (table × 2^16 + index) × 8 + k. -/
  counts : Table Nat := []
  deriving DecidableEq, Repr

/-- A time base of a side (R200 to R216): its value in units of 2^-48 ns. -/
structure TimeBase where
  val : Nat := 0
  /-- Remainder in 2^-48 ns and rate in ppb (R215). -/
  slew : Option (Int × Nat) := none
  setPend : Option Nat := none
  stepPend : Int := 0
  stepDue : Nat := 0
  slewPend : Option (Int × Nat) := none
  /-- A scheduled step: AT in 2^-16 ns, offset in 2^-16 ns (R214). -/
  sched : Option (Nat × Int) := none
  /-- Ticks at which the base left its increment, with its values, newest first, for times in the last 2^17 ticks (R229). -/
  hist : List (Nat × Nat) := []
  deriving DecidableEq, Repr

/-- A capture entry (R240, R241): words D0 to D3. -/
abbrev Capture := List Word

/-- The record of the last tick before a stop (R220). -/
structure StopRec where
  kStop : Nat
  pStop : Nat
  dco : Int
  vals : List Nat
  tick : Nat
  at_ : Nat
  deriving DecidableEq, Repr

/-- Time bases and the keeper (R204, R219). -/
structure TimeBases where
  /-- Keyed by side × 8 + n. -/
  tbs : Table TimeBase := []
  keeper : Nat := 0
  /-- Position between keeper edges, in 10^-15 quarter ticks. -/
  keeperAcc : Nat := 0
  stop : Option StopRec := none
  /-- F and E − 1 (in 2^-16 ticks) of the last stop, and the F of the one before (R222). -/
  lastF : Option Nat := none
  lastE : Nat := 0
  prevF : Option Nat := none
  caps : Table (List Capture) := []
  deriving DecidableEq, Repr

/-- Clocks beside the CLK registers (R311 to R331). -/
structure Clocks where
  /-- The root outputs are gated (R312, R321). -/
  gated : Bool := true
  /-- A freeze runs: when the gate fell, whether LOCAL_OSC was lost in it, since when it is lost, how long it was lost before,
  t_r (R323, R324). -/
  freezeAt : Option Nat := none
  oscSeen : Bool := false
  lossAt : Option Nat := none
  lossLen : Nat := 0
  tr : Nat := 0
  oscLost : Bool := false
  rootLocked : Bool := false
  bandChosen : Bool := false
  /-- No tick is delivered, since a device tick: both synthesizers unlocked (R320), or none has locked since reset. -/
  tickStop : Option Nat := none
  /-- Applied words of A and B, 10^-15 (R315). -/
  applA : Int := 0
  applB : Int := 0
  /-- The next move of each synthesizer's applied word, in device ticks (R316). -/
  moveA : Option Nat := none
  moveB : Option Nat := none
  /-- The divider change in progress: when requested, target (R313). -/
  divReq : Option (Nat × Nat) := none
  /-- Per clock output: muted at present; the second of TB0 at which it realigns (R329, R330). -/
  muted : List Bool := [true, true, true, true]
  realign : List (Option Nat) := [none, none, none, none]
  /-- PPS_OUT: muted; the tick of its rise while high; the tick of its last fall; the last second dealt with (R331). -/
  ppsMuted : Bool := true
  ppsHigh : Option Nat := none
  ppsFall : Option Nat := none
  ppsSec : Option Int := none
  /-- LOCKMON density numerator over denominator; driven low (R326). -/
  lockNum : Int := 0
  lockDen : Nat := 1
  lockLow : Bool := true
  deriving DecidableEq, Repr

/-- An applet engine's state beside its registers (R446 to R452). -/
structure Applet where
  /-- The image pieces in LOCAL while loading, and the firmware's copy of the loaded image (R450). -/
  image : Table Byte := []
  length : Nat := 0
  entry : Nat := 0
  arg : Nat := 0
  /-- Engine time of the last kick, in ticks (R449). -/
  wdtAt : Nat := 0
  waiting : Option WaitTarget := none
  outstanding : Nat := 0
  /-- A stop is due: reason, and whether FREE was set (R451). -/
  stopDue : Option (Nat × Bool) := none
  /-- The engine cycle in which the stop fell due. -/
  stopAt : Nat := 0
  deriving DecidableEq, Repr

/-- Engines and counters (R443 to R463). -/
structure Engines where
  applets : Table Applet := []
  freePages : Nat := 96
  /-- Sampling buffers by bed: records of eight words, oldest first (R460). -/
  samples : Table (List (List Word)) := []
  /-- Instructions since an engine's last sample, by bed × 4 + engine; next record number of a bed; beds whose sampling stopped
  at a full buffer (R460, R461). -/
  smpRun : Table Nat := []
  smpSeq : Table Nat := []
  smpStop : List Nat := []
  deriving DecidableEq, Repr

/-- The step of R472 a command in flight stands at; held waits for a condition of R617 before it commits. -/
inductive Stage | wait | work | done
  deriving DecidableEq, Repr

/-- A command in flight (R470 to R472). -/
structure InFlight where
  origin : Origin
  opcode : Nat
  pkt : Pkt
  vlans : List Word := []
  stage : Stage
  /-- Acceptance number (R472). -/
  seq : Nat
  /-- Tick of the commit (R476). -/
  at_ : Nat := 0
  status : Nat := 0
  reply : List Word := []
  /-- What the work still needs, by command: see the command's rule. -/
  aux : List Int := []
  /-- Completion number, which orders the replies of an origin (R482, R486). -/
  done_ : Nat := 0
  /-- Its reply is discarded: its applet has stopped, or its ring is reset (R451, R483). -/
  quiet : Bool := false
  deriving DecidableEq, Repr

/-- The command front end beside the CMD registers (R470 to R489). -/
structure Trobuic where
  inflight : List InFlight := []
  nextSeq : Nat := 0
  nextDone : Nat := 0
  /-- Per origin: acceptance numbers and statuses of completed commands since the last fence (R474). -/
  chain : List (Origin × Nat × Nat × Bool) := []
  bar2 : Table Byte := []
  /-- Replies since the last signal and the tick of the first unsignalled, per ring (R482). -/
  unsig : Table (Nat × Nat) := []
  mbxIn : List Word := []
  /-- Words of the oldest mailbox reply already read (R486). -/
  mbxRead : Nat := 0
  deriving DecidableEq, Repr

/-- A fault record (R537). ACTIVE and PRESENT follow from the conditions present. -/
structure FaultRec where
  unit : Nat
  cls : Nat
  level : Nat
  cause : Nat
  acked : Bool := false
  seq : Nat := 0
  /-- TB0 at the first occurrence, in ns. -/
  time : Nat := 0
  timeValid : Bool := false
  count : Nat := 1
  addr : Nat := 0
  master : Nat := 0
  access : Nat := 0
  injected : Bool := false
  escalated : Bool := false
  react : Nat := 0
  lastTick : Nat := 0
  deriving DecidableEq, Repr

/-- The safety partition beside the FLT registers (R525 to R550). -/
structure Safety where
  /-- The record store, SEQ ascending. -/
  records : List FaultRec := []
  nextSeq : Nat := 0
  fecArmed : Bool := true
  /-- Unstored occurrences that count as active (R536). -/
  unstored : List FaultRec := []
  /-- Condition causes present: unit, cause, register offset for CFG_PARITY (R532). -/
  present : List (Nat × Nat × Nat) := []
  /-- Write requests waiting for ME1, in order of arrival: view, offset, value, device tick of the arrival (R526). -/
  requests : List (Nat × Nat × Word × Nat) := []
  /-- End of the running pulse, and a write of FLT_PIN that waits for it (R542, R543). -/
  pulseEnd : Option Nat := none
  pinWait : Option Nat := none
  /-- Shears is due: a class-S occurrence while it was not in force, and the device tick of it (R544, R545). -/
  shearsDue : Option Nat := none
  factoryEnd : Option Nat := none
  /-- The safety partition's own check has passed (R541, R608). -/
  checkPassed : Bool := false
  deriving DecidableEq, Repr

/-- A side's alignment state (R559 to R565). -/
structure SideState where
  /-- ALIGNED of the side, and the device tick it was set at (R561). -/
  aligned : Bool := false
  alignAt : Nat := 0
  /-- RESTORE_HOLD: running, and until which device tick, none without limit (R559). -/
  hold : Bool := false
  holdEnd : Option Nat := none
  /-- A loss of lock has not been made good under R565. -/
  resync : Bool := false
  /-- The lowest ceiling without RESTORE_HOLD, as last computed. -/
  raw : Nat := 3
  deriving DecidableEq, Repr

/-- Redundancy beside the RED registers (R557 to R577). -/
structure Red where
  activeB : Bool := false
  sideA : SideState := {}
  sideB : SideState := {}
  /-- ψ in units of 10^-15 ticks (R562). -/
  psi : Int := 0
  /-- The latest valid message of either path, and whether it is since the last evaluation (R573). -/
  partnerMsg : Option Nat := none
  /-- When each Brely lane and the pin path last delivered a valid message, in device ticks, and whether they are good. -/
  brelyAt : List (Option Nat) := [none, none]
  brelyGood : List Bool := [false, false]
  pinAt : Option Nat := none
  pinGood : Bool := false
  /-- Consecutive messages that met both members driving (R566). -/
  conflict : Nat := 0
  /-- A handover runs until a device tick, with HEALTH 0 advertised (R580). -/
  handover : Option Nat := none
  /-- A takeover waits for the partner's OUT_EN to fall (R573). -/
  takeOut : Bool := false
  /-- A forced takeover stands until a message comes after it (R577; log 48). -/
  forced : Bool := false
  /-- TB0 at the last takeover, in ns: injection starts with the first cycle 10 us later (R574). -/
  takenNs : Option Nat := none
  /-- Mirror records: the last that came, and since when the mirror conditions hold (R575). -/
  mirrorRec : Option MirrorRec := none
  mirrorFrom : Option Nat := none
  /-- When firmware last sent a mirror record (R575). -/
  mirrorSent : Option Nat := none
  lastGasp : Bool := false
  /-- RESTORE_HOLD of the member (R567). -/
  memberHold : Bool := false
  memberHoldEnd : Option Nat := none
  memberRaw : Nat := 3
  /-- HEALTH of the member as last computed. -/
  memberHealth : Nat := 3
  deriving DecidableEq, Repr

/-- Power, reset and boot beside the GLB registers (R599 to R623). -/
structure Power where
  resetHeld : Bool := true
  /-- t0 of the timeline (R608). -/
  t0 : Nat := 0
  imageDone : Bool := false
  dormant : Option Nat := none
  railsKept : Bool := false
  /-- Cause and source the next release records (R612). -/
  cause : Nat := 1
  wakeSrc : Nat := 0
  /-- Boot flash, byte addressed (R604). -/
  flash : Table Byte := []
  /-- Slots marked invalid (R404, R478, R500). -/
  slotBad : List Nat := []
  /-- Low-power states of R615: beds idle, core reduced by choice; wakes in progress with their start. -/
  bedWake : List (Option Nat) := [none, none, none, none]
  coreWake : Option Nat := none
  /-- Frames that wait for the core to wake: 40 from the host, 41 from the Brely link, 42 + e from applet e, with the words
  before the frame (R617). -/
  held : List (Nat × List Word × List Byte) := []
  vbatOk : Bool := true
  /-- VDD33 is present, and since when it is not (R396, R397). -/
  vdd33 : Bool := false
  vddAt : Nat := 0
  pcieUp : Bool := false
  deriving DecidableEq, Repr

end Sys2Proof.Machine
end

