-- ==== Sys2Proof/Machine/Types2.lean ====
section
/-! DEFINITION. The records of the Trellis, the meters, the Cold Frame and the line shaft. Time errors and changes of time
bases are held in 2^-48 ns; times on a time base in schedules are held in 2^-16 ns. -/

namespace Sys2Proof.Machine

/-- A candidate of a side, beside TRLx_CANDe (R283 to R290). -/
structure Cand where
  present : Bool := false
  /-- The entry named a port when it was absorbed: ABSENT until the entry is loaded away (R586). -/
  barred : Bool := false
  /-- Since when |f| ≤ SOFT, or |f| > HARD, has held; none while broken (R288). -/
  softAt : Option Nat := none
  hardAt : Option Nat := none
  wtrAt : Nat := 0
  /-- ABSENT or DISQUALIFIED since last QUALIFIED (R288 row 2). -/
  lapsed : Bool := true
  /-- Frequency offset f, 10^-15 (R284). -/
  f : Int := 0
  /-- Time error (R285), and the tick of its measurement. -/
  te : Option Int := none
  teAt : Nat := 0
  /-- A measurement has arrived since the last loop update (R294). -/
  fresh : Bool := false
  /-- The offset term of a lane's TE and Φ_j (R285): the last PTP offset for TIME = 1; Φ_j in 2^-16 ns. -/
  base : Int := 0
  phi0 : Int := 0
  /-- Tick of the last PTP offset, edge or mirror record (R283). -/
  seenAt : Option Nat := none
  /-- The last 16 offsets or the stamps of the last second, newest first: (tick, value). -/
  offs : List (Nat × Int) := []
  /-- T_m in ticks for PTP (R283). -/
  interval : Nat := 0
  /-- REFIN: first stamp and number of stamps since (R285). -/
  stamp0 : Option Int := none
  k : Nat := 0
  /-- Drift samples y of the running window, newest first; when it began; the previous window exceeded (R290). -/
  ys : List Int := []
  winAt : Nat := 0
  isOver : Bool := false
  /-- A drift window has passed since DISQUALIFIED (R288 row 5). -/
  winPassed : Bool := false
  /-- The previous second's cross-check differed (R287). -/
  xbad : Bool := false
  deriving DecidableEq, Repr

/-- A side's Trellis, beside its TRLx registers (R291 to R303). -/
structure Trellis where
  cands : Table Cand := []
  /-- Tick of entry into the state, of the first ACQUIRE of the switch, of the loss that began HOLDOFF. -/
  enteredAt : Nat := 0
  acqAt : Option Nat := none
  /-- CAUSE of the switch in progress (R308). -/
  cause : Nat := 5
  /-- Number of the last loop update since tick 0 (R294). -/
  loopIdx : Nat := 0
  /-- Integrator I in 10^-24 (R294). -/
  integ : Int := 0
  /-- Δ (R300). -/
  delta : Int := 0
  /-- Good target measurements in a row and the tick from which all were good (R299 row 4 (b)). -/
  good : Nat := 0
  goodFrom : Nat := 0
  /-- B after a FAST commit, in 0.1 mHz × 2^-16, and the tick from which it holds (R295). -/
  bw : Option (Nat × Nat) := none
  /-- Model samples, newest first: (tick, mean of the DCO word) (R297). -/
  samples : List (Nat × Int) := []
  /-- ȳ, t̄ and A of the line, 10^-15, ticks and 10^-15 per day (R297). -/
  lineY : Q := {}
  lineT : Q := {}
  lineA : Q := {}
  /-- Sum of the DCO word over ticks since the second began; since when the present word holds; when the second began. -/
  dcoSum : Int := 0
  dcoAt : Nat := 0
  secAt : Nat := 0
  /-- Last holdover write (R298). -/
  wroteAt : Nat := 0
  deriving DecidableEq, Repr

/-- An INTERVAL gate that has closed while its last start still waits for a stop (R373; log 30): its open, number and flags, and
the sums; MISSED. -/
structure Carry where
  openAt : Nat
  k : Nat
  flags : Nat
  start : Nat
  cnt : Nat
  sum : Int
  sumSq : Nat
  least : Int
  most : Int
  unpaired : Nat
  missed : Nat
  deriving DecidableEq, Repr

/-- A measurement job (R356) and its accumulators. Times on DOMAIN are in ns for opens and 2^-16 ns for stamps. -/
structure Job where
  mode : Nat
  partner : Option Nat := none
  domain : Nat := 0
  gate : Nat := 0
  gates : Nat := 0
  decim : Nat := 1
  fnom : Nat := 0
  qsep : Nat := 0
  swap : Bool := false
  edge : Nat := 0
  cls : Nat := 6
  id : Nat := 0
  /-- The command that waits for the end of a CAL job, by acceptance number (R360). -/
  cmd : Option Nat := none
  /-- Open of the present or next gate, in ns; gate number; whether the domain is enabled for gates. -/
  openAt : Nat := 0
  k : Nat := 0
  first : Nat := 0
  /-- Gates wait for the domain to be enabled, or for the restart after a freeze (R366). -/
  stopped : Bool := false
  flags : Nat := 0
  /-- Edge index within the gate (R365). -/
  idx : Nat := 0
  n : Nat := 0
  sx : Nat := 0
  sy : Nat := 0
  sxy : Nat := 0
  sxx : Nat := 0
  sdd : Nat := 0
  m : Nat := 0
  /-- The last two slots (x1, y1) and (x2, y2) (R369). -/
  last1 : Option (Nat × Nat) := none
  last2 : Option (Nat × Nat) := none
  /-- INTERVAL: the start that waits for a stop, and the sums (R373). -/
  start : Option Nat := none
  carry : Option Carry := none
  cnt : Nat := 0
  sum : Int := 0
  sumSq : Nat := 0
  least : Int := 0
  most : Int := 0
  unpaired : Nat := 0
  /-- LENGTH: count, state (A, B), last direction, edge times of A and B, errors and reversals of the gate (R374, R375). -/
  pos : Int := 0
  pos0 : Int := 0
  qst : Option (Bool × Bool) := none
  dir : Option Bool := none
  /-- What the last counted step added, and whether it counted a reversal, for R375. -/
  lastStep : Int := 0
  lastRev : Bool := false
  lastA : Option Nat := none
  lastB : Option Nat := none
  lastCount : Nat := 0
  qerrs : Nat := 0
  revs : Nat := 0
  missed : Nat := 0
  deriving DecidableEq, Repr

/-- Calibration of a meter (R347): table number, ring periods in 10^-16 s, OFFS in 2^-16 ns. -/
structure Calib where
  table : Nat := 0
  pStart : Nat := 4000000
  pStop : Nat := 3984375
  offs : Int := 0
  deriving DecidableEq, Repr

/-- A fine interval meter (R338 to R376). Event times are in fifths of 2^-16 ns on the tick count, 262,144 to a tick. -/
structure Meter where
  method : Nat := 0
  cal : Calib := {}
  /-- The state and calibration before a CAL job (R346 row 1 (d)). -/
  before : Option (Nat × Calib) := none
  /-- Last accepted edge (R353) and the end of the dead time (R340). -/
  lastAt : Option Nat := none
  deadTo : Nat := 0
  shadowAt : Option Nat := none
  pairs : Nat := 0
  /-- Level of the input after its last edge; low until an edge comes (log 30). -/
  level : Bool := false
  /-- Consecutive conversions of code 0 or of code 1,023 (R350). -/
  extreme : Nat := 0
  /-- Stamps in the FIFO and the tick of its last service (R363). -/
  fifo : Nat := 0
  fifoAt : Nat := 0
  /-- Last ring period check in STANDIN (R346 row 3). -/
  ringAt : Nat := 0
  job : Option Job := none
  /-- Waiting records (R364, R368), oldest first. -/
  results : List (List Word) := []
  stamps : List (List Word) := []
  deriving DecidableEq, Repr

/-- The active parameter record of the Cold Frame (R393), channel by channel. -/
structure CfChan where
  en : Bool := false
  cntPer : Nat := 1
  umPer : Nat := 1
  swap : Bool := false
  qsep : Nat := 0
  hyst : Nat := 0
  holdoff : Nat := 0
  totPeriod : Nat := 10
  deriving DecidableEq, Repr

/-- A parameter record (R393): its fields, its digest (R390), and the event counter at activation. -/
structure CfParam where
  instr : Nat
  chans : List CfChan
  totClear : Nat
  check : Nat
  eventCnt : Nat
  deriving DecidableEq, Repr

/-- A Cold Frame channel's totaliser (R401): the ring's committed records by slot as (TOTAL, RSEQ), and what the last one was. -/
structure CfTotal where
  ring : Table (Option (Int × Nat)) := []
  total : Int := 0
  rseq : Nat := 0
  /-- Tick of the last record, whether the first result carries UNCOMMITTED (R403). -/
  at_ : Nat := 0
  uncommitted : Bool := false
  qerrs : Nat := 0
  deriving DecidableEq, Repr

/-- A request in the Cold Frame's FIFO: the command in flight that it belongs to and its transport's SOURCE code (R398). -/
structure CfReq where
  seq : Nat
  opcode : Nat
  target : Nat
  words : List Word
  source : Nat
  deriving DecidableEq, Repr

/-- The Cold Frame (R382 to R406). -/
structure ColdFrame where
  /-- Kept in MRAM: partition state, HALT_REASON, the state before HALTED. -/
  st : Nat := 0
  haltReason : Nat := 0
  stBefore : Nat := 0
  /-- The two parameter banks and the bank-select word (R400). -/
  bank0 : Option CfParam := none
  bank1 : Option CfParam := none
  bankSel : Bool := false
  /-- Digest and version of the activated image; digests bound into the seal (R390, R395). -/
  imgDigest : Nat := 0
  imgVer : Nat := 0
  sealImg : Option Nat := none
  sealParam : Option Nat := none
  eventCnt : Nat := 0
  /-- AUDIT_FULL (R399). -/
  auditFull : Bool := false
  /-- Entries by SEQ (R398). -/
  legal : Table (List Word) := []
  legalN : Nat := 0
  general : Table (List Word) := []
  generalN : Nat := 0
  totals : Table CfTotal := []
  /-- Recorded time of the power loss (R403). -/
  failAt : Option Nat := none
  /-- The VBAT domain: consecutive open samples of each input up to 2, tamper latch by kind (SOURCE codes 1 to 3, plus 16 where main power was absent), seconds of dormancy (R396, R397). -/
  run0 : Nat := 0
  run1 : Nat := 0
  latch : List Nat := []
  dormSec : Nat := 0
  vbatOk : Bool := true
  /-- The engines run, the image or in HALTED the boot ROM. -/
  up : Bool := false
  /-- The next start is the first after a power-on reset; an IMAGE_REJECT entry is still to be written (R391, R392). -/
  coldStart : Bool := true
  rejectDue : Bool := false
  /-- The image activation whose reply waits for the restart (R404). -/
  actReply : Option Nat := none
  /-- Ticks of the mismatches within the last 3,600 s (R387). -/
  mism : List Nat := []
  mismCount : Nat := 0
  lockv : Nat := 0
  note : Nat := 0
  reqs : List CfReq := []
  /-- Replies: command in flight, status, parameters (R385). -/
  replies : List (Nat × Nat × List Word) := []
  /-- Per meter: result ring by slot, WIDX, and ME0's read cursor (R406). -/
  rings : Table (List Word) := []
  widx : Table Nat := []
  cursor : Table Nat := []
  /-- Conditioning of the eight meters. -/
  cond : Table Nat := []
  deriving DecidableEq, Repr

/-- A sync pin (R415 to R422), beside SYN_PINj. -/
structure Pin where
  /-- Driven level; none high impedance. -/
  drive : Option Bool := none
  /-- When the level last changed, in fifths of 2^-16 ns of the tick count (R416). -/
  moved : Option Nat := none
  /-- PULSE edges and POSITION pulses in 2^-16 ns: (time, level), in order, passed ones kept for backward changes (R417 to R420). -/
  queue : List (Nat × Bool) := []
  /-- The level before the first edge: low for a pulse train; free for PULSE (log 29). -/
  base : Bool := false
  /-- PERIODIC (R418), in 2^-16 ns. -/
  start : Nat := 0
  period : Nat := 0
  width : Nat := 0
  count : Nat := 0
  /-- Number of the next schedule edge; of a pulse train 2k rising, 2k + 1 falling. -/
  next : Nat := 0
  /-- PPS: offset in fifths of 2^-16 ns, GATE. -/
  offset : Int := 0
  gated : Bool := false
  /-- POSITION (R419). -/
  pos : Nat := 0
  per : Nat := 1
  both : Bool := false
  deriving DecidableEq, Repr

/-- A setpoint frame's configuration (section 1 of SHAFT_CONFIG). -/
structure SFrame where
  offset : Nat := 0
  group : Nat := 0
  vid : Nat := 0
  pcp : Nat := 0
  da : Nat := 0
  first : Nat := 0
  entries : Nat := 1
  len : Nat := 64
  deriving DecidableEq, Repr

/-- An axis (R430, R431). Positions are in revolutions. -/
structure Axis where
  mode : Nat := 0
  cam : Nat := 0
  num : Int := 0
  den : Nat := 1
  phase : Q := {}
  off : Q := {}
  held : Q := {}
  engaged : Bool := false
  b : Q := {}
  me : Q := {}
  /-- Target of OFF and rate of a running trim. -/
  trim : Option (Q × Q) := none
  deriving DecidableEq, Repr

/-- A cam table (R430). -/
structure Cam where
  n : Nat := 16
  per : Q := ⟨1, 1⟩
  lift : Q := {}
  /-- Y and DY by point. -/
  pts : Table (Q × Q) := []
  deriving DecidableEq, Repr

/-- The master's state at an apply instant (R427). -/
structure Master where
  m : Q := {}
  v : Q := {}
  a : Q := {}
  /-- The velocity that the profile ends at. -/
  vt : Q := {}
  /-- The rest of the profile: (duration in s, jerk). -/
  segs : List (Q × Q) := []
  deriving DecidableEq, Repr

/-- A motion command that waits for its first cycle: that cycle, OP and parameter words (R428). -/
structure Motion where
  k : Nat
  op : Nat
  words : List Word
  deriving DecidableEq, Repr

/-- A line shaft (R423 to R435), beside SYN_SHs. Times are in ns of TB0. -/
structure Shaft where
  base : Nat := 0
  cycle : Nat := 0
  delay : Nat := 0
  lead : Nat := 0
  vMax : Int := 0
  aMax : Int := 0
  jMax : Int := 0
  aQs : Int := 0
  jQs : Int := 0
  axisCount : Nat := 0
  sa : Nat := 0
  frames : List SFrame := []
  axes : Table Axis := []
  cams : Table Cam := []
  /-- Cycle k and frame f to inject next; while f > 0, the cycle to go on with; the first cycle not yet under computation. -/
  k : Nat := 0
  f : Nat := 0
  nextK : Nat := 0
  low : Nat := 0
  /-- The cycle kc whose apply instant `now_` describes, and the motions that wait, in order of their cycles. -/
  kc : Nat := 0
  now_ : Master := {}
  motions : List Motion := []
  /-- FLAGS of the cycle under injection; the next frame sent carries SKIPPED (R426). -/
  flags : Nat := 0
  skipped : Bool := false
  /-- (A_k in ns, M, v and a as published), newest first; the register block shows the latest that TB0 has reached. -/
  pubs : List (Nat × Nat × Nat × Nat) := []
  /-- Apply instants at which a profile ends and MOTION_DONE is still to be set, in ns. -/
  doneAt : List Nat := []
  /-- Frames of the buffer that carry setpoints (R437). -/
  sent : List Nat := []
  deriving DecidableEq, Repr

/-- A halt slot (R436). -/
structure HaltSlot where
  bytes : List Byte := []
  ports : Nat := 0
  deriving DecidableEq, Repr

/-- Pins, shafts and the halt store (R408 to R437). -/
structure Syn where
  pins : Table Pin := []
  shafts : Table Shaft := []
  halts : Table HaltSlot := []
  /-- Halt slots each port still has to send, and the end of the one on the wire in 10 ps (R437). -/
  haltDue : Table (List Nat) := []
  haltEnd : Table Nat := []
  deriving DecidableEq, Repr

/-- A change of a time base other than its increment: base, whether it is a set, step or restore (else the progress of a
slew), the amount in 2^-48 ns, and the value after it. -/
structure Moved where
  n : Nat
  step : Bool
  by_ : Int
  val : Nat
  deriving DecidableEq, Repr

/-- An occurrence to be handled by the reaction logic (R532): cause, unit, ADDR, MASTER, ACCESS, and whether injected. -/
structure Occ where
  cause : Nat
  unit : Nat
  addr : Nat := 0
  master : Nat := 0
  access : Nat := 0
  injected : Bool := false
  cls : Nat := 0
  deriving DecidableEq, Repr

end Sys2Proof.Machine
end

