-- ==== Sys2Proof/Machine/State.lean ====
section
/-! DEFINITION. The state of the machine: the queue of waiting commands and the device, as plain data; the ways a step can
stop; and the state after reset. -/

namespace Sys2Proof.Machine

/-- Why a step could fault. No command of this device faults: a wrong request completes with a status, a wrong access raises
an event, and both are next states. -/
inductive Fault
  /-- Raised by nothing: kept so that the type is inhabited (safe). -/
  | none
  deriving DecidableEq, Repr

/-- Why a step could be refused. -/
inductive Refusal
  /-- Raised by the arm of a row that has no meaning yet, by its mnemonic (safe). -/
  | notModelled (mnemonic : String)
  deriving DecidableEq, Repr

/-- The device: everything but the queue of commands. -/
structure Device where
  /-- Wall ticks of 0.8 ns since the first power-on (log 3). -/
  now : Nat := 0
  /-- Ticks that the root outputs were not gated (log 3). -/
  dev : Nat := 0
  /-- Ticks delivered by the tick clock; CORE_TICKCNT is this modulo 2^40 (R127). -/
  tick : Nat := 0
  /-- How many free values have been taken (log 2). -/
  fresh : Nat := 0
  emitted : List Emit := []
  fuse : Fuse := ⟨true, 1⟩
  /-- The 32-bit registers by BAR0 offset (R508). -/
  regs : Table Word := []
  /-- The 64-bit and 48-bit counters by the offset of their LO word. -/
  cnts : Table Nat := []
  /-- Configuration words whose parity mismatches (R516). -/
  parityBad : List Nat := []
  bus : Bus := {}
  lanes : Table Lane := []
  ladders : Table Ladder := []
  ports : Table Port := []
  core : SwitchCore := {}
  fwd : Fwd := {}
  outs : Table Output := []
  tb : TimeBases := {}
  clk : Clocks := {}
  trl : Table Trellis := []
  meters : Table Meter := []
  cf : ColdFrame := {}
  syn : Syn := {}
  eng : Engines := {}
  cmd : Trobuic := {}
  flt : Safety := {}
  red : Red := {}
  pwr : Power := {}
  /-- Occurrences and changes of time bases raised within the step; empty between steps. -/
  occs : List Occ := []
  moves : List Moved := []
  deriving DecidableEq, Repr

/-- The state: the waiting commands, first in first out, and the device. -/
structure State where
  pending : List Instr
  dev : Device
  deriving DecidableEq, Repr

/-- The machine right after reset is asserted: held in power-on reset, before step 1 of R608, every register at its reset
value, no command waiting. -/
def State.reset : State := { pending := [], dev := {} }

end Sys2Proof.Machine
end

