-- ==== Sys2Proof/Machine/Ops.lean ====
section
/-! DEFINITION. The operations everything else is made of: reading and writing registers and their fields, events and
counters, what goes out, unit references, and the time values. -/

namespace Sys2Proof.Machine

/-! ### Registers -/

/-- The stored word at an offset, as a number (R510). -/
def rd (d : Device) (a : Nat) : Nat := (tget regDflt d.regs a).toNat

/-- Store a word (modulo 2^32) at an offset; its parity is computed anew (R516). -/
def wr (d : Device) (a v : Nat) : Device :=
  { d with regs := tset regDflt d.regs a (BitVec.ofNat 32 v), parityBad := d.parityBad.filter (fun x => x != a) }

/-- Bits [hi:lo] of a register. -/
def fld (d : Device) (a hi lo : Nat) : Nat := bits (rd d a) hi lo

/-- Bit k of a register. -/
def flag (d : Device) (a k : Nat) : Bool := bit (rd d a) k

/-- Write bits [hi:lo] of a register, the others unchanged. -/
def setFld (d : Device) (a hi lo v : Nat) : Device := wr d a (withBits (rd d a) hi lo v)

/-- Write bit k of a register. -/
def setFlag (d : Device) (a k : Nat) (b : Bool) : Device := setFld d a k k (b2n b)

/-- Set an event bit (R517). -/
def event (d : Device) (a k : Nat) : Device := setFlag d a k true

/-- Set an event bit where a condition holds. -/
def eventIf (c : Bool) (d : Device) (a k : Nat) : Device := if c then event d a k else d

/-- A register put back to its reset value. -/
def rstReg (d : Device) (a : Nat) : Device := wr d a (regReset a)

/-! ### Counters -/

/-- The value of the counter whose LO word is at an offset. -/
def cnt (d : Device) (a : Nat) : Nat := tget (fun _ => 0) d.cnts a

/-- Set a counter. -/
def setCnt (d : Device) (a v : Nat) : Device := { d with cnts := tset (fun _ => 0) d.cnts a v }

/-- Add k to a counter: it wraps to zero past its width and sets its sticky bit and the block's CNT_OVF event (R112, R163,
R197, R247, R310, R336, R381, R442, R455, R503, R556, R584). -/
def count (d : Device) (a k : Nat) : Device :=
  match cntInfo a with
  | none => d
  | some i =>
    let v := cnt d a + k
    let d := setCnt d a (v % 2 ^ i.width)
    if v < 2 ^ i.width then d
    else
      let d := event d i.ovf i.ovfBit
      match i.ev with
      | some (r, b) => event d r b
      | none => d

/-- Add one to a counter. -/
def bump (d : Device) (a : Nat) : Device := count d a 1

/-! ### What goes out, and free values -/

/-- Put something out (log 4). -/
def emit (d : Device) (e : Emit) : Device := { d with emitted := e :: d.emitted }

/-- A value that the spec leaves open (log 2). -/
def freeVal (d : Device) : Nat := Config.freeNat d.fresh

/-- The next free value will be another (log 2). -/
def nextFree (d : Device) : Device := { d with fresh := d.fresh + 1 }

/-! ### Folding an update over a list -/

/-- Apply an update for each element in order. -/
def each {α : Type} (l : List α) (d : Device) (f : Device → α → Device) : Device := l.foldl f d

/-- The numbers 0 to n − 1. -/
def upTo (n : Nat) : List Nat := List.range n

/-- The first element of a list that satisfies a test. -/
def firstOf {α : Type} (p : α → Bool) : List α → Option α
  | [] => none
  | x :: t => if p x then some x else firstOf p t

/-! ### Units (R21 to R24) -/

def uDevice : Nat := 0xE000
def uBed (b : Nat) : Nat := 0x2000 * b
def uLane (n : Nat) : Nat := 0x2000 * (n / 10) + 0x200 + n % 10
def uPort (n : Nat) : Nat := 0x2000 * (n / 10) + 0x400 + n % 10
def uPipe (b : Nat) : Nat := 0x2000 * b + 0x600
def uFE (e : Nat) : Nat := 0x2000 * (e / 4) + 0x800 + e % 4
def uME (m : Nat) : Nat := 0x8A00 + m
def uCE (m : Nat) : Nat := 0x8C00 + m
def uLaneMeter (n : Nat) : Nat := 0x2000 * (n / 10) + 0xE00 + n % 10
def uSpare (i : Nat) : Nat := 0x2000 * (i / 4) + 0xE0A + i % 4
def uRefin (m : Nat) : Nat := 0x8E00 + m
def uCfMeter (i : Nat) : Nat := 0x8E08 + i
def uPin (j : Nat) : Nat := 0x2000 * (j / 4) + 0x1000 + j % 4
def uBank (b : Nat) : Nat := 0x9200 + b
def uQueue (q : Nat) : Nat := 0x9400 + q
def uTb (x n : Nat) : Nat := 0x9600 + 8 * x + n
def uSide (x : Nat) : Nat := 0x9800 + x
def uRoot : Nat := 0x9A00
def uEgress (p : Nat) : Nat := 0x9C00 + p
def uService (k : Nat) : Nat := 0x9E00 + k

def unitBed (u : Nat) : Nat := bits u 15 13
def unitType (u : Nat) : Nat := bits u 12 9
def unitIdx (u : Nat) : Nat := bits u 8 0

/-- Whether a unit reference is valid on a GLS-7340-MA (R22). -/
def unitValid (u : Nat) : Bool :=
  let b := unitBed u
  let t := unitType u
  let i := unitIdx u
  if b == 7 then u == 0xE000
  else if b ≥ 5 then false
  else if b == 4 then
    match t with
    | 0x0 => i == 0
    | 0x1 => decide (i ≤ 1)
    | 0x5 => decide (i ≤ 1)
    | 0x6 => decide (i ≤ 1)
    | 0x7 => decide (i ≤ 3) || (decide (8 ≤ i) && decide (i ≤ 15))
    | 0x9 => decide (i ≤ 15)
    | 0xA => decide (i ≤ 335)
    | 0xB => decide (i ≤ 15)
    | 0xC => decide (i ≤ 1)
    | 0xD => i == 0
    | 0xE => decide (i ≤ 39)
    | 0xF => decide (i ≤ 7)
    | _ => false
  else
    match t with
    | 0x0 => i == 0
    | 0x1 => decide (i ≤ 9)
    | 0x2 => decide (i ≤ 9)
    | 0x3 => i == 0
    | 0x4 => decide (i ≤ 3)
    | 0x7 => decide (i ≤ 13)
    | 0x8 => decide (i ≤ 3)
    | _ => false

/-- Whether a reference lies in the Cold Frame (R24): TYPE 0x6, or a meter of B4 with index 8 to 15. -/
def unitInCf (u : Nat) : Bool :=
  unitBed u == 4 && (unitType u == 6 || (unitType u == 7 && decide (8 ≤ unitIdx u)))

/-- The port of a port reference (TYPE 0x2). -/
def portOfUnit (u : Nat) : Nat := 10 * unitBed u + unitIdx u

/-! ### The units' records -/

def lane (d : Device) (n : Nat) : Lane := tget (fun _ => {}) d.lanes n
def modLane (d : Device) (n : Nat) (f : Lane → Lane) : Device := { d with lanes := tmod (fun _ => {}) d.lanes n f }
def ladderOf (d : Device) (n : Nat) : Ladder := tget (fun _ => {}) d.ladders n
def modLadder (d : Device) (n : Nat) (f : Ladder → Ladder) : Device := { d with ladders := tmod (fun _ => {}) d.ladders n f }
def portOf (d : Device) (n : Nat) : Port := tget (fun _ => {}) d.ports n
def modPort (d : Device) (n : Nat) (f : Port → Port) : Device := { d with ports := tmod (fun _ => {}) d.ports n f }
def outOf (d : Device) (o : Nat) : Output := tget (fun _ => {}) d.outs o
def modOut (d : Device) (o : Nat) (f : Output → Output) : Device := { d with outs := tmod (fun _ => {}) d.outs o f }
def modCore (d : Device) (f : SwitchCore → SwitchCore) : Device := { d with core := f d.core }
def modFwd (d : Device) (f : Fwd → Fwd) : Device := { d with fwd := f d.fwd }
def modClk (d : Device) (f : Clocks → Clocks) : Device := { d with clk := f d.clk }
def modCmd (d : Device) (f : Trobuic → Trobuic) : Device := { d with cmd := f d.cmd }
def modFlt (d : Device) (f : Safety → Safety) : Device := { d with flt := f d.flt }
def modRed (d : Device) (f : Red → Red) : Device := { d with red := f d.red }
def modPwr (d : Device) (f : Power → Power) : Device := { d with pwr := f d.pwr }
def modBus (d : Device) (f : Bus → Bus) : Device := { d with bus := f d.bus }
def applet (d : Device) (e : Nat) : Applet := tget (fun _ => {}) d.eng.applets e
def modApplet (d : Device) (e : Nat) (f : Applet → Applet) : Device :=
  { d with eng := { d.eng with applets := tmod (fun _ => {}) d.eng.applets e f } }

/-! ### Time values (R200 to R204, R229) -/

/-- One nanosecond in the unit of a time base, 2^-48 ns. -/
def nsUnit : Nat := 2 ^ 48
/-- One second in 2^-48 ns. -/
def secUnit : Nat := 1000000000 * 2 ^ 48
/-- 0.8 ns ticks in a millisecond (log 3). -/
def msTicks : Nat := 1250000
/-- Ticks in a microsecond (log 3). -/
def usTicks : Nat := 1250
/-- Ticks in a second (log 3). -/
def secTicks : Nat := 1250000000

/-- The active side, as 0 or 1 (R557). -/
def activeSide (d : Device) : Nat := b2n d.red.activeB

/-- Side as a number. -/
def sideNum : Side → Nat
  | .a => 0
  | .b => 1

/-- View as the manual codes it (R524). -/
def viewNum : View → Nat
  | .pcie => 0
  | .spi => 1
  | .fw => 2

/-- A side's copy of a time base. -/
def tbOf (d : Device) (x n : Nat) : TimeBase := tget (fun _ => {}) d.tb.tbs (8 * x + n)
def modTb (d : Device) (x n : Nat) (f : TimeBase → TimeBase) : Device :=
  { d with tb := { d.tb with tbs := tmod (fun _ => {}) d.tb.tbs (8 * x + n) f } }

/-- The value of TBn its consumers read, in 2^-48 ns (R204). -/
def tbVal (d : Device) (n : Nat) : Nat := (tbOf d (activeSide d) n).val

/-- TBn_INCR (R209). -/
def tbIncr (d : Device) (n : Nat) : Nat := rd d (Reg.TB_INCR_LO n) + 2 ^ 32 * fld d (Reg.TB_INCR_HI n) 23 0

/-- TBn is enabled: TB0 always (R205, R207). -/
def tbEn (d : Device) (n : Nat) : Bool := n == 0 || flag d Reg.TB_CTL (8 + n)

/-- CORE_TICKCNT (R127). -/
def tickcnt (d : Device) : Nat := d.tick % 2 ^ 40

/-- SEC, NS and FNS of a value in 2^-48 ns. -/
def tvSec (v : Nat) : Nat := v / secUnit
def tvNs (v : Nat) : Nat := v / nsUnit % 1000000000
def tvFns (v : Nat) : Nat := v / 2 ^ 32 % 2 ^ 16

/-- A time value as the four words of a packet: NS, SEC low, SEC high, FNS (chapter 14, "Opcodes and parameters"). -/
def timeWords (v : Nat) : List Word :=
  [BitVec.ofNat 32 (tvNs v), BitVec.ofNat 32 (tvSec v), BitVec.ofNat 32 (tvSec v / 2 ^ 32), BitVec.ofNat 32 (tvFns v)]

/-- The value in 2^-48 ns of SEC, NS and FNS. -/
def timeVal (sec ns fns : Nat) : Nat := sec * secUnit + ns * nsUnit + fns * 2 ^ 32

/-- A number as a 32-bit word. -/
def w32 (v : Nat) : Word := BitVec.ofNat 32 v

/-- Two words, low first, of a number. -/
def words2 (v : Nat) : List Word := [w32 v, w32 (v / 2 ^ 32)]

/-! ### Conditions of the whole device -/

/-- Clocks run: neither held in reset nor gated (R312, R321). -/
def running (d : Device) : Bool := !d.pwr.resetHeld && !d.clk.gated

/-- The tick domain runs (R320). -/
def ticking (d : Device) : Bool := running d && d.clk.tickStop.isNone

/-- The core is ready (R608 step 8). -/
def coreReady (d : Device) : Bool := flag d Reg.GLB_PWR_STATUS 0

/-- An update made only where a condition holds; else the device is left as it stands (R12, R13). -/
def onlyIf (c : Bool) (d : Device) (f : Device → Device) : Device := if c then f d else d

/-- Shears is in force (R544). -/
def shears (d : Device) : Bool := flag d Reg.FLT_STATUS 0

/-! ### Paired outputs (R572, R574) -/

/-- Paired outputs of a kind are off: 0 clocks, 1 PPS_OUT, 2 sync pins, 3 shafts (R572, R574). -/
def pairedOff (d : Device) (k : Nat) : Bool := flag d Reg.RED_PAIR k && !flag d Reg.RED_GRAFT_STATUS 3

/-! ### Occurrences of fault causes (R530, R532): noted here, handled by the reaction logic at the end of the step -/

/-- An event cause occurs. -/
def occur (d : Device) (o : Occ) : Device := { d with occs := d.occs ++ [o] }

/-- A condition cause begins: it is present, and it occurs. -/
def condBegins (d : Device) (o : Occ) : Device :=
  occur (modFlt d (fun s =>
    if s.present.contains (o.unit, o.cause, o.addr) then s
    else { s with present := (o.unit, o.cause, o.addr) :: s.present })) o

/-- A condition cause is no longer present. -/
def condEnds (d : Device) (cause unit addr : Nat) : Device :=
  modFlt d (fun s => { s with present := s.present.filter (fun p => p != (unit, cause, addr)) })

/-! ### Fault injection (R547 to R549) -/

/-- The MODE that acts at a check of a checker: that of an armed injection, or the worst outcome in factory mode; 0 none. -/
def injMode (d : Device) (u k worst : Nat) : Nat :=
  let v := rd d Reg.FLT_INJ_STATUS
  if bits v 15 0 = u ∧ bits v 23 16 = k then
    if flag d Reg.FLT_STATUS 6 then worst else if bit v 28 then bits v 27 24 else 0
  else 0

/-- An armed injection fires (R548); factory mode goes on. -/
def injFire (d : Device) : Device :=
  if flag d Reg.FLT_INJ_STATUS 28 then
    event (setFlag (setFlag (setFlag d Reg.FLT_INJ_STATUS 28 false) Reg.FLT_INJ_STATUS 29 true) Reg.FLT_STATUS 5 false)
      Reg.FLT_EVENT 6
  else d

/-! ### Meters and pins -/

/-- Table key of a meter: lanes 0 to 39, CLK meters from 40, Cold Frame meters from 60. -/
def meterKey : MeterId → Nat
  | .lane n => n
  | .clk m => 40 + m
  | .cf i => 60 + i

def meterOf (d : Device) (k : Nat) : Meter := tget (fun _ => {}) d.meters k
def modMeter (d : Device) (k : Nat) (f : Meter → Meter) : Device := { d with meters := tmod (fun _ => {}) d.meters k f }

/-- Unit reference of a meter by key (R22). -/
def uMeter (k : Nat) : Nat :=
  if k < 40 then uLaneMeter k
  else if k < 44 then uRefin (k - 40)
  else if k < 60 then uSpare (k - 44)
  else uCfMeter (k - 60)

/-- Key of the meter a reference names (R22, R338). -/
def keyOfMeter (u : Nat) : Option Nat :=
  if unitValid u && unitType u == 7 then
    if unitBed u == 4 then
      if unitIdx u < 4 then some (40 + unitIdx u) else if unitIdx u ≥ 8 then some (52 + unitIdx u) else none
    else if unitIdx u < 10 then some (10 * unitBed u + unitIdx u) else some (44 + 4 * unitBed u + (unitIdx u - 10))
  else none

def trlOf (d : Device) (x : Nat) : Trellis := tget (fun _ => {}) d.trl x
def modTrl (d : Device) (x : Nat) (f : Trellis → Trellis) : Device := { d with trl := tmod (fun _ => {}) d.trl x f }
def modSyn (d : Device) (f : Syn → Syn) : Device := { d with syn := f d.syn }
def pinOf (d : Device) (j : Nat) : Pin := tget (fun _ => {}) d.syn.pins j
def modPin (d : Device) (j : Nat) (f : Pin → Pin) : Device :=
  modSyn d (fun s => { s with pins := tmod (fun _ => {}) s.pins j f })
def shaftOf (d : Device) (s : Nat) : Shaft := tget (fun _ => {}) d.syn.shafts s
def modShaft (d : Device) (s : Nat) (f : Shaft → Shaft) : Device :=
  modSyn d (fun y => { y with shafts := tmod (fun _ => {}) y.shafts s f })
def modCf (d : Device) (f : ColdFrame → ColdFrame) : Device := { d with cf := f d.cf }

/-- A whole number in [31:0] and [63:32] of two registers. -/
def wr64 (d : Device) (lo hi : Nat) (v : Nat) : Device := wr (wr d lo v) hi (v / 2 ^ 32)
/-- A whole number in [31:0] and [47:32] of two registers. -/
def wr48 (d : Device) (lo hi : Nat) (v : Nat) : Device := wr (wr d lo v) hi (v / 2 ^ 32 % 2 ^ 16)
/-- A 64-bit value read from two registers. -/
def rd64 (d : Device) (lo hi : Nat) : Nat := rd d lo + 2 ^ 32 * rd d hi

/-- A quotient rounded down, or up where the spec gives no rounding and the free choice says so (log 15). -/
def rdiv (d : Device) (n : Int) (m : Nat) : Int :=
  n / (m : Int) + (if n % (m : Int) = 0 then 0 else if Config.roundUp d.fresh then 1 else 0)

/-- A fraction rounded so. -/
def rq (d : Device) (q : Q) : Int := rdiv d q.num q.den

end Sys2Proof.Machine
end

