-- ==== Sys2Proof/Machine/FltOps.lean ====
section
/-! DEFINITION. Fault records that are active, and what they mean to ports and to claims (R21 to R25, R528 to R531, R536,
R539). -/

namespace Sys2Proof.Machine

/-! ### Configuration registers and their units (R516) -/

/-- Unit charged and class of a configuration register; the table gives none for SYN_IRQ_EN and SYN_MTRi_OWNER (log 38). -/
def parityUnit (a : Nat) : Nat × Nat :=
  if a < 0x20000 then (uService 0, 1)
  else if a < 0x30000 then (uService 6, 3)
  else if a < 0x50000 then (uRoot, 2)
  else if a < 0x60000 then (uSide ((a - 0x50000) / 0x8000), 2)
  else if a < 0x64000 then (uRoot, 2)
  else if a < 0x64500 then
    let m := (a - 0x64000) / 0x40
    (uMeter (40 + m), if m < 4 then 2 else 1)
  else if a < 0x70000 then (uRoot, 2)
  else if a < 0x80000 then
    let r := a - 0x70000
    if 0x100 ≤ r && r < 0x200 then (uPin ((r - 0x100) / 0x10), 1)
    else if 0x400 ≤ r && r < 0x500 then (uFE (4 * ((r - 0x400) / 0x40)), 1)
    else if 0x600 ≤ r && r < 0x700 then (uService 6, 3)
    else (uService 6, 1)
  else if 0x80000 ≤ a && a < 0x90000 then (uService 7, 2)
  else if 0x100000 ≤ a && a < 0x128000 then (uLane ((a - 0x100000) / 0x1000), 1)
  else if 0x140000 ≤ a && a < 0x168000 then (uPort ((a - 0x140000) / 0x1000), 1)
  else if 0x180000 ≤ a && a < 0x1A0000 then
    let r := a - 0x180000
    if 0x400 ≤ r && r < 0x500 then (uBank ((r - 0x400) / 0x10), 1)
    else if 0x600 ≤ r && r < 0x740 then (uPipe ((r - 0x600) / 8 / 10), 1)
    else (uService 0, 1)
  else if 0x1A0000 ≤ a && a < 0x1BE000 then
    let n := (a - 0x1A0000) / 0x800
    (if n < 40 then uEgress n else if n = 40 then uService 0 else uService 7, 1)
  else if 0x1C0000 ≤ a && a < 0x200000 then (uService 0, 1)
  else if 0x200000 ≤ a && a < 0x280000 then
    let e := (a - 0x200000) / 0x100
    (if e < 16 then uFE e else uME (e - 16), 1)
  else (uService 0, 1)

/-! ### Classes and levels (R528 to R530, R566) -/

/-- Class of a cause against a unit; that of CFG_PARITY follows the register. -/
def causeClass (o : Occ) : Nat :=
  match o.cause with
  | 0x08 => (parityUnit o.addr).2
  | 0x03 => 1
  | 0x04 => 1
  | 0x06 => 1
  | 0x07 => 1
  | 0x0C => 1
  | 0x0D => 2
  | 0x0E => 2
  | 0x0F => 2
  | 0x10 => 2
  | 0x11 => if unitType o.unit = 7 && unitBed o.unit != 4 && decide (unitIdx o.unit < 10) then 2 else 4
  | 0x12 => if unitType o.unit = 7 && unitBed o.unit != 4 && decide (unitIdx o.unit < 10) then 2 else 4
  | 0x13 => 4
  | 0x14 => 4
  | 0x20 => 3
  | 0x21 => 3
  | 0x22 => 3
  | 0x40 => 2
  | 0x41 => 2
  | 0x45 => 2
  | _ => 0

/-- Level of a unit reference (R25, R529). -/
def unitLevel (u : Nat) : Nat := if u = uDevice then 2 else if unitType u = 0 then 1 else 0

/-- The bed as a whole. -/
def bedOf (u : Nat) : Nat := uBed (unitBed u)

/-! ### Active records (R531, R536) -/

/-- PRESENT of a record. -/
def recPresent (d : Device) (r : FaultRec) : Bool :=
  r.level == 0 && d.flt.present.any (fun p =>
    p.1 == r.unit && p.2.1 == r.cause && (r.cause != 0x08 || (parityUnit p.2.2).2 == r.cls))

/-- ACTIVE of a record. -/
def recActive (d : Device) (r : FaultRec) : Bool := !r.acked || recPresent d r

/-- Every active record, stored or counted as one. -/
def activeRecs (d : Device) : List FaultRec := (d.flt.records ++ d.flt.unstored).filter (recActive d)

/-- A class is active: a stored record of it is (R531). -/
def classActive (d : Device) (c : Nat) : Bool := d.flt.records.any (fun r => r.cls == c && recActive d r)

/-- Records that are acknowledged and not active leave the store (R535). -/
def fltPrune (d : Device) : Device :=
  if d.flt.records.all (recActive d) && d.flt.unstored.all (recActive d) then d
  else modFlt d (fun s => { s with records := s.records.filter (recActive d), unstored := s.unstored.filter (recActive d) })

/-! ### Ports and claims (R539) -/

/-- A record concerns a port: that of the lane, port or egress unit; those of the bed; all of them for B4 and the device. A lane
is taken as its port's where lane and port have one number, or where the port's gang holds it. -/
def concernsPort (r : FaultRec) (p width : Nat) : Bool :=
  match r.level with
  | 0 =>
    let n := 10 * unitBed r.unit + unitIdx r.unit
    (unitType r.unit == 1 && unitBed r.unit != 4 && decide (p ≤ n) && decide (n < p + max width 1))
      || (unitType r.unit == 2 && n == p) || (unitType r.unit == 0xE && unitIdx r.unit == p)
  | 1 => unitBed r.unit == 4 || unitBed r.unit == p / 10
  | _ => true

/-- An active record holds the port down. -/
def portDown (d : Device) (p : Nat) : Bool :=
  (activeRecs d).any (fun r => bit r.react 3 && concernsPort r p (fld d (Reg.PORT_STATUS p) 10 8))

/-- The ceiling that active records with CLAIM_DROP give: 0 for class S, 1 for U, T or M; 3 for none. The units are those that
p picks. -/
def claimDrop (d : Device) (p : Nat → Bool) (c : Nat → Bool) : Bool :=
  (activeRecs d).any (fun r => bit r.react 4 && p r.unit && c r.cls)

/-- A unit is side x or one of its time bases. -/
def ofSide (x u : Nat) : Bool := u == uSide x || (unitType u == 0xB && unitBed u == 4 && unitIdx u / 8 == x)

/-- A unit whose records enter the member claim (R539, R567). -/
def ofMember (u : Nat) : Bool := u == uRoot || u == uService 7 || u == uBed 4 || u == uDevice

/-- Classes above C but for S. -/
def classUTM (c : Nat) : Bool := c == 1 || c == 2 || c == 4

end Sys2Proof.Machine
end

