-- ==== Sys2Proof/Machine/Time.lean ====
section
/-! DEFINITION. The passing of time: performance counters, the keeper counter, the time bases and ψ over w ticks (log 3). -/

namespace Sys2Proof.Machine

/-! ### Performance counters (R453 to R457) -/

/-- A counter's selection word decoded: LO word of the counter, unit, event, LEVEL mode, EN; none where the offset holds no
selection (R462, R463). -/
def pmcSel (a v : Nat) : Option (Nat × Nat × Nat × Bool × Bool) :=
  if 0x280100 ≤ a && a < 0x280200 then
    some (Reg.PMC_G_LO ((a - 0x280100) / 4), bits v 15 0, bits v 23 16, bit v 24, bit v 25)
  else if 0x200000 ≤ a && a < 0x201200 then
    let e := (a - 0x200000) / 0x100
    let r := (a - 0x200000) % 0x100
    if 0x20 ≤ r && r < 0x30 then
      let k := (r - 0x20) / 4
      if e < 16 then some (Reg.ENG_FE_CNT_LO e k, uFE e, bits v 7 0, bit v 8, bit v 9)
      else some (Reg.ENG_ME_CNT_LO (e - 16) k, uME (e - 16), bits v 7 0, bit v 8, bit v 9)
    else none
  else none

/-- Count for each enabled counter what f gives for its unit, event and mode; nothing while GLOBAL_EN is clear (R453). -/
def pmcEach (d : Device) (f : Nat → Nat → Bool → Nat) : Device :=
  if flag d Reg.PMC_CTL 0 then
    each d.regs d (fun d e =>
      match pmcSel e.1 e.2.toNat with
      | some (lo, u, ev, level, true) => if f u ev level = 0 then d else count d lo (f u ev level)
      | _ => d)
  else d

/-- k pulses of an event of a unit: LEVEL counts each, EDGE a run of pulses made in one step as one (R454; log 21). -/
def pulse (d : Device) (u ev k : Nat) : Device :=
  pmcEach d (fun u' ev' level => if u' = u ∧ ev' = ev then (if level then k else min k 1) else 0)

/-- The state event of a unit starts: EDGE counts it (R454). -/
def edgePulse (d : Device) (u ev : Nat) : Device :=
  pmcEach d (fun u' ev' level => if u' = u ∧ ev' = ev ∧ !level then 1 else 0)

/-- Events that an engine's own code makes: INSTR, STALL_LOCAL, STALL_SHARED. -/
def inCode (ev : Nat) : Bool := ev == 2 || ev == 3 || ev == 4

/-- Core clocks in w ticks: half while the divider is 16 (R29, R454). -/
def coreClocks (d : Device) (w : Nat) : Nat :=
  if flag d Reg.CLK_ROOT_STATUS 2 then (d.dev + w) / 2 - d.dev / 2 else w

/-- Engine clocks in w ticks (R28). -/
def engineClocks (d : Device) (w : Nat) : Nat := (d.dev + w) / 2 - d.dev / 2

/-- An engine that runs code: an applet in RUNNING that is not suspended, a runtime engine or ME shown RUNNING. -/
def codeRuns (d : Device) (u : Nat) : Bool :=
  let e := 4 * unitBed u + unitIdx u
  if unitType u == 5 then flag d (0x201000 + 0x100 * unitIdx u) 0
  else if unitType u != 4 then false
  else if unitIdx u == 0 then flag d (Reg.ENG_FE_STATUS e) 0
  else fld d (Reg.ENG_FE_STATUS e) 3 1 == 3 && (applet d e).waiting.isNone

/-- How often at most n an engine's own code makes an event: a free value, since no rule gives the code (R443; log 22). -/
def codeCount (d : Device) (u ev : Nat) (level : Bool) (n : Nat) : Nat := min n (Config.engineCode d.fresh u (2 * ev + b2n level) 0)

/-- The cycles of n in which such a state is 1, or the starts of such runs, which are apart by a cycle at least (R454). -/
def codeCycles (d : Device) (u ev : Nat) (level : Bool) (n : Nat) : Nat :=
  codeCount d u ev level (if level then n else (n + 1) / 2)

/-- Ticks of w in which a copy holds the wire of a port (R169, R454). -/
def wireTicks (d : Device) (p w : Nat) : Nat :=
  let x := outOf d p
  if d.clk.tickStop.isSome || (x.wire.isNone && !(tget (fun _ => []) d.syn.haltDue p).isEmpty) then 0
  else min w ((x.wireFree - d.tick * 80 + 79) / 80)

/-- What an event's counter adds in w ticks (R454): CYCLES, INSTR, STALL_LOCAL, STALL_SHARED, WAIT, BANK_CONFLICT, NONEMPTY,
WIRE_BUSY, CORE_CYCLES and TICKS. The start of a state in EDGE mode is counted where the state starts. Conflicts of planes, which
no rule places, are a free value while two planes write (R130; log 22). -/
def levelCycles (d : Device) (w u ev : Nat) (level : Bool) : Nat :=
  let n := engineClocks d w
  match ev with
  | 0x01 => if level then n else 0
  | 0x06 =>
    if unitType u == 4 && (applet d (4 * unitBed u + unitIdx u)).waiting.isSome then (if level then n else 0)
    else codeCycles d u ev level n
  | 0x21 => if d.core.planes.length < 2 then 0 else codeCycles d u ev level (coreClocks d w)
  | 0x31 =>
    if !level || fld d (Reg.QUE_CLS_DEPTH (unitIdx u / 8) (unitIdx u % 8)) 16 0 == 0 then 0 else coreClocks d w
  | 0x42 => if level then wireTicks d (unitIdx u) w else 0
  | 0x50 => if level then coreClocks d w else 0
  | 0x51 => if d.clk.tickStop.isSome || !level then 0 else w
  | _ => if inCode ev && codeRuns d u then codeCycles d u ev level n else 0

/-! ### Precise sampling (R460, R461) -/

/-- Unit of engine i of a bed's sampling buffer. -/
def smpUnit (b i : Nat) : Nat := if b < 4 then uFE (4 * b + i) else uME i

/-- A record: what the instruction was is a free value, within the fields of R461 (log 22). -/
def smpRecord (d : Device) (w b i seq j : Nat) : List Word :=
  let f (k : Nat) : Nat := Config.engineCode d.fresh (smpUnit b i) (0x200 + k) j
  let tick := (tickcnt d + f 5 % (w + 1)) % 2 ^ 40
  [w32 (i + 4 * b2n (bit (f 0) 0) + 8 * b2n (bit (f 0) 1) + 65536 * (seq % 65536)), w32 (f 1), w32 (f 2),
    w32 (if bit (f 0) 0 then f 3 else 0), w32 (f 4 % 2 ^ 18), w32 tick, w32 (tick / 2 ^ 32), 0]

/-- Every 2^(8 + PERIOD)-th instruction that engine i of bed b retires in w ticks is recorded (R460). -/
def smpEngine (w b : Nat) (d : Device) (i : Nat) : Device :=
  let v := rd d (Reg.PMC_SMP_CTL b)
  let g := d.eng
  if !(bit v 17 && bit v (8 + i) && codeRuns d (smpUnit b i)) || g.smpStop.contains b then d
  else
    let run := tget (fun _ => 0) g.smpRun (4 * b + i) + codeCount d (smpUnit b i) 0x02 true (engineClocks d w)
    let k := run / 2 ^ (8 + bits v 3 0)
    let old := tget (fun _ => []) g.samples b
    let seq := tget (fun _ => 0) g.smpSeq b
    let m := if bit v 16 then k else min k (1024 - old.length)
    let l := old ++ (upTo (min m 1024)).map (fun j => smpRecord d w b i (seq + (m - min m 1024) + j) j)
    let full := !bit v 16 && decide (1024 ≤ old.length + k)
    let d := { d with eng := { g with
      smpRun := tset (fun _ => 0) g.smpRun (4 * b + i) (run % 2 ^ (8 + bits v 3 0)),
      smpSeq := tset (fun _ => 0) g.smpSeq b ((seq + m) % 65536),
      samples := tset (fun _ => []) g.samples b (l.drop (l.length - 1024)),
      smpStop := if full then b :: g.smpStop else g.smpStop } }
    eventIf full d Reg.PMC_EVENT 1

/-- Some counter or sampling buffer is enabled. -/
def codeWatched (d : Device) : Bool := flag d Reg.PMC_CTL 0 || (upTo 5).any (fun b => flag d (Reg.PMC_SMP_CTL b) 17)

/-- What the counters and the sampling buffers take in w ticks. -/
def codePass (d : Device) (w : Nat) : Device :=
  if codeWatched d then
    let e := pmcEach d (fun u ev level => levelCycles d w u ev level)
    nextFree (each (upTo 5) e (fun e b => each (upTo 4) e (smpEngine w b)))
  else d

/-! ### The keeper counter (R219, R220) -/

/-- Quarter ticks per keeper cycle: 125, 62.5, 50 or 31.25 ticks by OSC_SEL (R219). -/
def keeperQuarters (d : Device) : Nat :=
  match fld d Reg.GLB_STRAPS 1 0 with
  | 0 => 500
  | 1 => 250
  | 2 => 200
  | _ => 125

/-- The DCO word of a side, 10^-15 (R296, TRLx_DCO). -/
def dcoWord (d : Device) (x : Nat) : Int :=
  signed 48 (rd d (Reg.TRL_DCO_LO x) + 2 ^ 32 * fld d (Reg.TRL_DCO_HI x) 15 0)

/-- Applied word of a side's synthesizer, 10^-15 (R315). -/
def applied (d : Device) (x : Nat) : Int := if x = 0 then d.clk.applA else d.clk.applB

/-- 10^15 + the applied word of the active side, while its tick is delivered; 10^15 otherwise. -/
def tickScale (d : Device) : Nat :=
  if ticking d then (1000000000000000 + applied d (activeSide d)).toNat else 1000000000000000

/-- The keeper over w ticks: R ticks to a keeper cycle (R220); it stands while LOCAL_OSC is lost (R221) and in power-on reset
or Dormant (R621). -/
def keeperRun (d : Device) (w : Nat) : Device :=
  if d.pwr.resetHeld || d.clk.oscLost then d
  else
    let acc := d.tb.keeperAcc + w * 4000000000000000
    let per := keeperQuarters d * tickScale d
    { d with tb := { d.tb with keeper := (d.tb.keeper + acc / per) % 2 ^ 64, keeperAcc := acc % per } }

/-- Ticks from the last keeper edge, the keeper phase (R219). -/
def keeperPhase (d : Device) : Nat := d.tb.keeperAcc / 4000000000000000

/-! ### Time bases (R209, R213 to R216) -/

/-- What a slew adds in k ticks: sign(Rm) times the lesser of k·D and |Rm| (R215). -/
def slewSum (rm : Int) (lim k : Nat) : Int :=
  if rm < 0 then - (min (k * lim) rm.natAbs : Nat) else (min (k * lim) rm.natAbs : Nat)

/-- The per-tick limit D of a slew (R215). -/
def slewLim (incr rate : Nat) : Nat := incr * rate / 1000000000

/-- A value with SEC modulo 2^64. -/
def tbWrap (v : Int) : Nat := (v % (2 ^ 64 * secUnit : Nat)).toNat

/-- The slew of the tick, a waiting one joined to it (R216). -/
def joinSlew (t : TimeBase) : Option (Int × Nat) :=
  match t.slew, t.slewPend with
  | some (rm, _), some (o, r) => some (rm + o, r)
  | none, some p => some p
  | s, none => s

/-- The first tick: a set takes the place of the increment, steps are added, a slew adjusts (R209, R213 to R216). -/
def tbFirst (en : Bool) (incr : Nat) (t : TimeBase) : TimeBase :=
  let s := if en then joinSlew t else t.slew
  let adj : Int :=
    match s with
    | some (rm, r) => if en && t.setPend.isNone then slewSum rm (slewLim incr r) 1 else 0
    | none => 0
  let base : Int :=
    match t.setPend with
    | some v => v
    | none => if en then (t.val + incr : Nat) + adj else (t.val : Nat)
  { t with
    val := tbWrap (base + t.stepPend), setPend := none, stepPend := 0, stepDue := 0, slewPend := none,
    slew := s.map (fun p => (p.1 - adj, p.2)) }

/-- k further ticks in closed form. -/
def tbRun (en : Bool) (incr k : Nat) (t : TimeBase) : TimeBase :=
  if en then
    match t.slew with
    | some (rm, r) =>
      { t with val := tbWrap ((t.val + k * incr : Nat) + slewSum rm (slewLim incr r) k),
               slew := some (rm - slewSum rm (slewLim incr r) k, r) }
    | none => { t with val := tbWrap (t.val + k * incr : Nat) }
  else t

/-- A time base over w ticks, w > 0. -/
def tbAdvance (en : Bool) (incr w : Nat) (t : TimeBase) : TimeBase := tbRun en incr (w - 1) (tbFirst en incr t)

/-- How many changes of R218 the first tick makes: the set, the steps, the start of a slew. -/
def tbChanges (t : TimeBase) : Nat :=
  b2n t.setPend.isSome + t.stepDue + b2n (t.slewPend.isSome && t.slew.isNone)

/-- UNCERTAIN of TBn (R221, R244). -/
def uncertain (d : Device) (n : Nat) : Bool := flag d Reg.TB_STATUS (8 + n)

/-- How many ticks of a run, counted from 1, until a time base is at or above L; 0 where it already is (R179). -/
def crossAfter (en : Bool) (incr l : Nat) (t : TimeBase) : Nat :=
  let a := tbFirst en incr t
  if l ≤ a.val then 1
  else
    let k := (l - a.val + incr - 1) / max incr 1
    match a.slew with
    | some (rm, r) =>
      let lim := slewLim incr r
      let full := rm.natAbs / max lim 1
      if rm < 0 then
        let k1 := (l - a.val + (incr - lim) - 1) / max (incr - lim) 1
        1 + (if k1 ≤ full then k1 else (l - a.val + rm.natAbs + incr - 1) / max incr 1)
      else
        let k1 := (l - a.val + (incr + lim) - 1) / max (incr + lim) 1
        1 + (if k1 ≤ full then k1 else (l - a.val - rm.natAbs + incr - 1) / max incr 1)
    | none => 1 + k

/-- The launch ticks of the copies waiting on TBn: noted when the base reaches a launch time, forgotten when a step takes it
back below (R179, R182). -/
def launchMarks (en : Bool) (incr n : Nat) (t t' : TimeBase) (d : Device) : Device :=
  let mark (c : Copy) : Copy :=
    let l := c.launch * nsUnit
    if t'.val < l then { c with ltick := none }
    else if c.ltick.isSome && decide (l ≤ (tbFirst en incr t).val) && decide (l ≤ t.val) then c
    else { c with ltick := some (d.tick + crossAfter en incr l t) }
  { d with outs := d.outs.map (fun e =>
      if fld d (Reg.QUE_TLCFG e.1) 2 0 = n ∧ e.1 < 40 then (e.1, { e.2 with launch := e.2.launch.map mark }) else e) }

/-- Points at which the base's course changes within w ticks: the tick before, the first tick, the end of a slew, and the last
tick; points older than 2^17 ticks go (R229). -/
def histPush (tick w : Nat) (a t t' : TimeBase) (incr : Nat) : List (Nat × Nat) :=
  let ends : List (Nat × Nat) :=
    match a.slew with
    | some (rm, r) =>
      let k := (rm.natAbs + slewLim incr r - 1) / max (slewLim incr r) 1
      if k < w - 1 then [(tick + 1 + k, tbWrap ((a.val + k * incr : Nat) + rm))] else []
    | none => []
  let l := [(tick + w, t'.val)] ++ ends ++ (if w > 1 then [(tick + 1, a.val)] else []) ++ [(tick, t.val)]
  l ++ t.hist.filter (fun p => decide (tick < p.1 + 2 ^ 17) && decide (p.1 < tick))

/-- TBn as it stood in a tick at or before the present one, in 2^-48 ns (R229). -/
def tbAtTick (d : Device) (n at_ : Nat) : Nat :=
  let t := tbOf d (activeSide d) n
  let rate := if tbEn d n then tbIncr d n else 0
  -- the nearest known points behind and before the tick, newest first
  let rec go (hi : Nat × Nat) : List (Nat × Nat) → Nat
    | [] => hi.2 - (hi.1 - at_) * rate
    | p :: l =>
      if p.1 ≤ at_ then
        if p.1 = hi.1 then hi.2 else p.2 + (hi.2 - p.2) * (at_ - p.1) / (hi.1 - p.1)
      else go p l
  go (d.tick, t.val) t.hist

/-- One time base on both sides over w ticks: the active side's copy advances and the standby side's takes its value (R204,
R563); STEPPED, TBn_CHG and UNCERTAIN follow the changes of the first tick (R213, R214, R218); what moved beside the increment
is noted for its consumers. -/
def tbPass (w : Nat) (d : Device) (n : Nat) : Device :=
  let t := tbOf d (activeSide d) n
  let c := tbChanges t
  let en := tbEn d n
  let t' := tbAdvance en (tbIncr d n) w t
  let d := launchMarks en (tbIncr d n) n t t' d
  let step := t.setPend.isSome || t.stepDue != 0
  let t' := if step || t'.slew != t.slew then { t' with hist := histPush d.tick w (tbFirst en (tbIncr d n) t) t t' (tbIncr d n) } else t'
  let by_ : Int := t'.val - (t.val + (if en then w * tbIncr d n else 0) : Nat)
  let d := modTb (modTb d 0 n (fun _ => t')) 1 n (fun _ => t')
  let d := if step || by_ ≠ 0 then
      { d with moves := d.moves ++ [⟨n, step, by_, (tbFirst en (tbIncr d n) t).val⟩] }
    else d
  if c = 0 then d
  else
    let d := wr d (Reg.TB_CHG n) (rd d (Reg.TB_CHG n) + c)
    if step then setFlag (event d Reg.TB_EVENT 0) Reg.TB_STATUS (8 + n) false else d

/-- ψ over w ticks: the standby side's DCO word less the active side's applied word (R562). -/
def psiPass (d : Device) (w : Nat) : Device :=
  let x := activeSide d
  { d with red := { d.red with psi := d.red.psi + (w : Int) * (dcoWord d (1 - x) - applied d x) } }

/-- w ticks pass. The wall clock always runs; the keeper runs under R31; the core domain runs while the root outputs are not
gated; the time bases, CORE_TICKCNT and ψ run while the tick is delivered. -/
def wait (w : Nat) (d : Device) : Device :=
  if w = 0 then d
  else
    let d := { keeperRun d w with now := d.now + w }
    if running d then
      let d := codePass d w
      let d := { d with dev := d.dev + w }
      if d.clk.tickStop.isNone then
        psiPass { each (upTo 8) d (tbPass w) with tick := d.tick + w } w
      else d
    else d

end Sys2Proof.Machine
end

