-- ==== Sys2Proof/Machine/Buffer.lean ====
section
/-! DEFINITION. The shared buffer: pools, cells, copies, the Rake, flushes and marking (R127 to R158, R178, R184 to R186).
Occupied cells are those of the frames in the buffer and of lost cells; nothing else records them. -/

namespace Sys2Proof.Machine

/-! ### Ports and classes -/

/-- LINK_STATE (R110). -/
def portSt (d : Device) (p : Nat) : Nat := fld d (Reg.PORT_STATUS p) 2 0
/-- The port is absorbed (R87). -/
def absorbed (d : Device) (p : Nat) : Bool := flag d (Reg.PORT_STATUS p) 11
/-- MODE_CUR (R91). -/
def modeCur (d : Device) (p : Nat) : Nat := fld d (Reg.PORT_STATUS p) 6 4
/-- An output admits copies: a port that is UP or HOLD, or the CPU or Brely output (R98, R100). -/
def admits (d : Device) (o : Nat) : Bool :=
  decide (o ≥ 40) || ((portSt d o == 2 || portSt d o == 3) && !absorbed d o)

/-- FLUSH_TCc of a port counts one (R101); the CPU and Brely outputs have no such counter. -/
def countFlush (d : Device) (o tc : Nat) : Device := if o < 40 then bump d (Reg.PORT_CNT o (11 + tc)) else d

/-! ### Frames and cells (R128 to R132) -/

/-- Cells of a frame (R128). -/
def cellsOf (len : Nat) : Nat := (len + 255) / 256

def frameOf (d : Device) (fid : Nat) : Option Frame :=
  (d.core.frames.find? (fun p => p.1 == fid)).map Prod.snd

def modFrame (d : Device) (fid : Nat) (f : Frame → Frame) : Device :=
  modCore d (fun c => { c with frames := c.frames.map (fun p => if p.1 = fid then (p.1, f p.2) else p) })

/-- Every occupied cell, as (bank, cell). -/
def usedCells (d : Device) : List (Nat × Nat) :=
  (d.core.frames.map (fun p => p.2.cells)).flatten ++ d.core.lost

/-- CELLS_USED of a bank (R161). -/
def bankUsed (d : Device) (b : Nat) : Nat := ((usedCells d).filter (fun c => c.1 == b)).length

/-- State of a bank (R155). -/
def bankSt (d : Device) (b : Nat) : Nat := fld d (Reg.CORE_BANK_STATE b) 2 0

/-- ACTIVE_BANKS (R161). -/
def activeBanks (d : Device) : Nat := ((upTo 16).filter (fun b => bankSt d b == 0)).length

/-- Free cells of the ACTIVE banks (R161). -/
def freeCells (d : Device) : Nat :=
  (upTo 16).foldl (fun n b => if bankSt d b = 0 then n + (6144 - bankUsed d b) else n) 0

/-- Size of the shared pool (R184). -/
def sharedSize (d : Device) : Nat := 6144 * activeBanks d - fld d Reg.QUEG_POOL_CFG 14 0
/-- S_free (R184). -/
def sharedFree (d : Device) : Nat := sharedSize d - d.core.sharedUsed
/-- TENDED_SIZE − TENDED_USED (R184). -/
def tendedFree (d : Device) : Nat := fld d Reg.QUEG_POOL_CFG 14 0 - d.core.tendedUsed

/-- The ACTIVE bank with the most free cells, the lower number on a tie (R130; log 23). -/
def pickBank (d : Device) : Nat :=
  ((upTo 16).foldl (fun (best : Nat × Nat) b =>
    let n := if bankSt d b = 0 then 6144 - bankUsed d b else 0
    if best.2 < n then (b, n) else best) (0, 0)).1

/-- The k-th cell of a bank that is not in a list, counting from 0. -/
def freeCell (taken : List Nat) (k : Nat) : Nat :=
  match ((upTo 6144).filter (fun c => !taken.contains c)).drop k with
  | c :: _ => c
  | [] => 0

/-- Take n cells for a frame: which free cell of the bank is not specified (R130), so it is a free value (log 2). -/
def allocCells (d : Device) (fid : Nat) : Nat → Device
  | 0 => d
  | n + 1 =>
    let b := pickBank d
    let taken := ((usedCells d).filter (fun c => c.1 == b)).map Prod.snd
    let c := freeCell taken (freeVal d % (6144 - taken.length))
    let d := nextFree (modFrame d fid (fun f => { f with cells := f.cells ++ [(b, c)] }))
    allocCells (pulse d (uBank b) 0x20 1) fid n

/-- The pool is exhausted no longer once 40 cells are free (R185). -/
def poolRelax (d : Device) : Device :=
  modCore d (fun c => if 40 ≤ tendedFree d then { c with exhausted := false } else c)

/-- A frame ends: its cells are free and its pool is credited (R132). -/
def freeFrame (d : Device) (fid : Nat) : Device :=
  match frameOf d fid with
  | none => d
  | some f =>
    let n := f.cells.length
    poolRelax (modCore d (fun c =>
      { c with
        frames := c.frames.filter (fun p => p.1 != fid),
        detFrames := c.detFrames.filter (fun k => k != fid),
        tendedUsed := if f.tag.tc = 7 then c.tendedUsed - n else c.tendedUsed,
        sharedUsed := if f.tag.tc = 7 then c.sharedUsed else c.sharedUsed - n }))

/-- A copy ends: its descriptor is free, its queue's depth falls, and the last copy frees the frame (R132, R165). -/
def endCopy (d : Device) (c : Copy) : Device :=
  match frameOf d c.fid with
  | none => d
  | some f =>
    let a := Reg.QUE_CLS_DEPTH c.out c.tag.tc
    let d := wr d a (rd d a - f.cells.length)
    let d := modCore d (fun k => { k with descUsed := k.descUsed - 1 })
    let d := modFrame d c.fid (fun f => { f with copies := f.copies - 1 })
    if f.copies ≤ 1 then
      let d := match f.sender with
        | some e => modApplet d e (fun a => { a with outstanding := a.outstanding - 1 })
        | none => d
      freeFrame d c.fid
    else d

/-- A copy is dropped or flushed at its output (R150). -/
def dropCopy (d : Device) (c : Copy) : Device :=
  let d := match frameOf d c.fid with
    | some f => if f.mcast then bump d (Reg.CORE_CNT 11) else d
    | none => d
  endCopy d c

/-! ### Launch lists and release lists (R178, R179) -/

/-- A copy's place: launch time, then class in descending order, then order of entry (R179). -/
def launchInsert (c : Copy) : List Copy → List Copy
  | [] => [c]
  | x :: t =>
    if c.launch < x.launch || (c.launch == x.launch && decide (x.tag.tc < c.tag.tc)) then c :: x :: t
    else x :: launchInsert c t

/-- Entries of a port's timed-launch list of TC7, or of the other classes (R178). -/
def launchCount (d : Device) (o : Nat) (tended : Bool) : Nat :=
  ((outOf d o).launch.filter (fun c => (c.tag.tc == 7) == tended)).length

/-- The value whose bits [15:0] equal lo and that lies in [s − 32,768, s + 32,767] (R178, R239). -/
def nearSec (s lo : Nat) : Nat :=
  let k := ((s : Int) + (((lo : Int) - s + 32768) % 65536 - 32768))
  k.toNat

/-- The domain time base of a port, in whole seconds. -/
def queDomain (d : Device) (o : Nat) : Nat := fld d (Reg.QUE_TLCFG o) 2 0

/-- A copy is refused at, or dropped from, the timed-launch list (R178, R180). -/
def launchDrop (d : Device) (c : Copy) (reason : Nat) : Device :=
  let d := event (bump d (Reg.QUE_CNT c.out c.tag.tc 5)) (Reg.QUE_EVENT c.out) 1
  let d := wr d (Reg.QUE_TL_LAST c.out) (reason + 8 * c.tag.tc + 256 * c.tag.stream)
  dropCopy d c

/-- A released copy goes to the tail of its release list, or with a launch time to the timed-launch list (R136, R166, R178). -/
def release (d : Device) (c : Copy) : Device :=
  if c.tag.launchValid && decide (c.out < 40) then
    let resv := fld d (Reg.QUE_TLCFG c.out) 14 4
    let tended := c.tag.tc == 7
    let n := launchCount d c.out tended
    if c.tag.domain != queDomain d c.out then launchDrop d c 3
    else if c.tag.launchNs ≥ 1000000000 then launchDrop d c 4
    else if n ≥ (if tended then resv else 1024 - resv) then launchDrop d c 2
    else
      let v := tbVal d (queDomain d c.out)
      let l := nearSec (tvSec v) c.tag.launchSec * 1000000000 + c.tag.launchNs
      let c := { c with
        launch := l, enter := d.tick,
        ltick := if l * nsUnit ≤ v then some (d.tick - (v - l * nsUnit) / max (tbIncr d (queDomain d c.out)) 1) else none }
      modOut d c.out (fun o => { o with launch := launchInsert c o.launch })
  else
    modOut d c.out (fun o => { o with rel := tmod (fun _ => []) o.rel c.tag.tc (fun l => l ++ [c]) })

/-! ### Recovery (R191) -/

/-- The vector recovery algorithm on a sequence number: whether it is accepted, and the new state. -/
def vectorRecovery (len : Nat) (st : Option (Nat × List Bool)) (q : Nat) : Bool × Option (Nat × List Bool) :=
  match st with
  | none => (true, some (q, (List.range len).map (fun i => i == 0)))
  | some (hi, h) =>
    let dl := (q + 65536 - hi) % 65536
    if dl = 0 then (false, st)
    else if dl < len then
      (true, some (q, ((List.range dl).map (fun i => i == 0) ++ h).take len))
    else if dl ≥ 65536 - len + 1 then
      let back := 65536 - dl
      if (h.drop back).head? = some true then (false, st)
      else (true, some (hi, h.set back true))
    else (false, st)

/-- Recovery instance i of a stream meets a copy with an R-TAG: false where the copy is rejected, which the instance counts
(R191, R522: passed in counter 0, discarded in counter 1). -/
def recover (d : Device) (i q : Nat) : Device × Bool :=
  match tget (fun _ => []) d.fwd.recov i with
  | _ :: w2 :: _ =>
    let r := vectorRecovery (bits w2.toNat 5 0) (tget (fun _ => none) d.fwd.recovSt i) q
    let key := (9 * 65536 + i) * 8 + (if r.1 then 0 else 1)
    let d := modFwd d (fun f =>
      { f with
        recovSt := tset (fun _ => none) f.recovSt i r.2,
        recovAt := if r.1 then tset (fun _ => 0) f.recovAt i d.dev else f.recovAt,
        counts := tmod (fun _ => 0) f.counts key (fun n => min (n + 1) (2 ^ 64 - 1)) })
    (d, r.1)
  | _ => (d, true)

/-- Whether recovery acts on a copy of a frame at an output: the instance is valid and bound to it (R191). -/
def recoversAt (d : Device) (f : Frame) (o : Nat) : Bool :=
  match tget (fun _ => []) d.fwd.recov f.recov with
  | w1 :: _ => decide (0 < f.recov) && f.rtag.isSome && bits w1.toNat 5 0 == o
  | [] => false

/-! ### The Rake, classes TC0 to TC6 (R135 to R140) -/

def streamKey (src tc : Nat) : Nat := src * 8 + tc
/-- What an unlisted stream of an output holds (R140). -/
def restStream (x : Output) : Nat → Stream := fun _ => { resync := x.resyncRest }
def streamOf (d : Device) (o k : Nat) : Stream := tget (restStream (outOf d o)) (outOf d o).rake k
def modStream (d : Device) (o k : Nat) (f : Stream → Stream) : Device :=
  modOut d o (fun x => { x with rake := tmod (restStream x) x.rake k f })

/-- Copies, not tokens, that a stream holds. -/
def heldCopies (s : Stream) : Nat := (s.held.filter (fun h => h.2.isSome)).length

/-- What is held at a number of a stream: none where nothing is. -/
def heldAt (s : Stream) (q : Nat) : Option (Option Copy) := (s.held.find? (fun h => h.1 == q)).map Prod.snd

/-- Release the held copy of number q, or discard the held token, and advance EXP past it. -/
def passHeld (d : Device) (o k q : Nat) (c : Option Copy) : Device :=
  let d := modStream d o k (fun s => { s with held := s.held.filter (fun h => h.1 != q), exp := (q + 1) % 4096 })
  match c with
  | some c => release d c
  | none => d

/-- Release held copies while the next number is held (R135 row 0), at most n of them. -/
def drain (o k : Nat) : Nat → Device → Device
  | 0, d => d
  | n + 1, d =>
    let s := streamOf d o k
    match heldAt s s.exp with
    | some c => drain o k n (passHeld d o k s.exp c)
    | none => d

/-- CORE_RAKE_LAST (R138, R161). -/
def rakeLast (d : Device) (o k kind q : Nat) : Device :=
  wr d Reg.CORE_RAKE_LAST (k / 8 + 64 * (k % 8) + 512 * o + 32768 * kind + 2 ^ 20 * q)

/-- The gap timer restarts where the stream still holds copies (R138). -/
def restartGap (d : Device) (o k : Nat) : Device :=
  if 0 < heldCopies (streamOf d o k) then modStream d o k (fun s => { s with gapAt := d.tick }) else d

/-- Treat EXP as a skip token, and release what follows (R138, R139). -/
def skipExp (d : Device) (o k : Nat) : Device :=
  let d := modStream d o k (fun s => { s with exp := (s.exp + 1) % 4096 })
  restartGap (drain o k 4096 d) o k

/-- Advance EXP by n numbers, releasing held copies and counting the numbers passed without one (R135 row 3). -/
def forceTo (o k : Nat) : Nat → Device → Device
  | 0, d => d
  | n + 1, d =>
    let s := streamOf d o k
    match heldAt s s.exp with
    | some c => forceTo o k n (passHeld d o k s.exp c)
    | none =>
      let d := rakeLast (event (bump d (Reg.CORE_CNT 5)) Reg.CORE_EVENT 3) o k 3 s.exp
      forceTo o k n (modStream d o k (fun s => { s with exp := (s.exp + 1) % 4096 }))

/-- Hold number q of a stream; the gap timer starts with the first held copy. -/
def hold (d : Device) (o k q : Nat) (c : Option Copy) : Device :=
  let first := c.isSome && heldCopies (streamOf d o k) == 0
  modStream d o k (fun s => { s with held := s.held ++ [(q, c)], gapAt := if first then d.tick else s.gapAt })

/-- Copies that the best-effort Rake of an output holds (R139). -/
def rakeHeld (d : Device) (o : Nat) : Nat := (outOf d o).rake.foldl (fun n e => n + heldCopies e.2) 0

/-- The stream whose gap timer has run longest, the lower key on a tie (R139: sources rank as they are numbered). -/
def oldestGap (d : Device) (o : Nat) : Option Nat :=
  ((outOf d o).rake.foldl (fun (b : Option (Nat × Nat)) e =>
    if heldCopies e.2 = 0 then b
    else
      match b with
      | some (_, t) => if e.2.gapAt < t then some (e.1, e.2.gapAt) else b
      | none => some (e.1, e.2.gapAt)) none).map Prod.fst

/-- Force advances until the Rake has room for one more copy (R139). -/
def makeRoom (o : Nat) : Nat → Device → Device
  | 0, d => d
  | n + 1, d =>
    if rakeHeld d o < 1024 then d
    else
      match oldestGap d o with
      | none => d
      | some k =>
        let q := (streamOf d o k).exp
        let d := rakeLast (event (bump d (Reg.CORE_CNT 5)) Reg.CORE_EVENT 3) o k 3 q
        makeRoom o n (skipExp d o k)

/-- A copy or a skip token (none) with number q reaches the Rake of an output (R135, R137, R140). -/
def rakePut (d : Device) (o src tc q : Nat) (c : Option Copy) : Device :=
  let k := streamKey src tc
  let d := modStream d o k (fun s => if s.resync then { s with exp := q, resync := false } else s)
  let dist (d : Device) : Nat := (q + 4096 - (streamOf d o k).exp) % 4096
  let d := if c.isSome && decide (0 < dist d) && decide (dist d < 2048) then makeRoom o 4096 d else d
  let n := dist d
  if n = 0 then restartGap (drain o k 4096 (passHeld d o k q c)) o k
  else if n < 128 then hold d o k q c
  else if n < 2048 then
    restartGap (drain o k 4096 (hold (forceTo o k (n - 127) d) o k q c)) o k
  else
    match c with
    | none => d
    | some c => dropCopy (rakeLast (event (bump d (Reg.CORE_CNT 4)) Reg.CORE_EVENT 2) o k 2 q) c

/-! ### The Rake, TC7 (R141 to R144) -/

/-- The release tick of a TC7 copy (R141), modulo 2^40. -/
def releaseTick (d : Device) (c : Copy) : Nat :=
  (c.tag.arrTick + fld d Reg.CORE_TENDED_REL 16 0 + (if flag d Reg.CLK_ROOT_STATUS 2 then 1000 else 0)) % 2 ^ 40

/-- Tick a is at or after tick b, modulo 2^40 (R127). -/
def tickGe (a b : Nat) : Bool := decide ((a + 2 ^ 40 - b) % 2 ^ 40 < 2 ^ 39)

/-- The release key of a comes before that of b (R142). -/
def keyLt (a b : Copy) : Bool :=
  if a.tag.arrTick != b.tag.arrTick then !tickGe a.tag.arrTick b.tag.arrTick
  else if a.tag.src != b.tag.src then decide (a.tag.src < b.tag.src)
  else
    let n := (b.tag.seq + 4096 - a.tag.seq) % 4096
    decide (1 ≤ n) && decide (n ≤ 2047)

/-- Insert by release key. -/
def tendedInsert (c : Copy) : List Copy → List Copy
  | [] => [c]
  | x :: t => if keyLt c x then c :: x :: t else x :: tendedInsert c t

/-- A released TC7 copy meets its recovery instance (R191), and is released. -/
def releaseTended (d : Device) (c : Copy) : Device :=
  match frameOf d c.fid with
  | some f =>
    if recoversAt d f c.out then
      let r := recover d f.recov ((f.rtag.getD (0, 0)).2)
      if r.2 then release r.1 c else dropCopy r.1 c
    else release d c
  | none => d

/-- Release held TC7 copies in key order while p holds of the first, at most n of them. -/
def releaseWhile (o : Nat) (p : Copy → Bool) : Nat → Device → Device
  | 0, d => d
  | n + 1, d =>
    match (outOf d o).tended with
    | [] => d
    | c :: t =>
      if p c then releaseWhile o p n (releaseTended (modOut d o (fun x => { x with tended := t })) c) else d

/-- An overrun of an output (R143): its fault unit is the egress unit, the command front end or the claim logic (R134). -/
def overrun (d : Device) (o : Nat) : Device :=
  let u := if o < 40 then uEgress o else if o = 40 then uService 0 else uService 7
  occur (event (bump d (Reg.CORE_CNT 6)) Reg.CORE_EVENT 0) { cause := 0x06, unit := u }

/-- A TC7 copy reaches the Rake of an output (R141 to R144). -/
def tendedPut (d : Device) (c : Copy) : Device :=
  if (outOf d c.out).tended.length ≥ 4096 then dropCopy (overrun d c.out) c
  else if tickGe (tickcnt d) (releaseTick d c) then
    releaseTended (releaseWhile c.out (fun x => keyLt x c) 4096 (overrun d c.out)) c
  else modOut d c.out (fun o => { o with tended := tendedInsert c o.tended })

/-! ### Flushes (R101, R104, R140, R154) -/

/-- Every copy of an output that a test picks, wherever it is held, in class order. -/
def copiesOf (x : Output) (p : Copy → Bool) : List Copy :=
  ((x.rel.map Prod.snd).flatten ++ x.launch ++ x.tended
    ++ (x.rake.map (fun e => e.2.held.filterMap Prod.snd)).flatten).filter p

/-- An output without the copies that a test picks. -/
def without (x : Output) (p : Copy → Bool) : Output :=
  { x with
    rel := tmap (fun _ => []) (fun l => l.filter (fun c => !p c)) x.rel,
    launch := x.launch.filter (fun c => !p c),
    tended := x.tended.filter (fun c => !p c),
    rake := tmap (restStream x) (fun s =>
      { s with held := s.held.filter (fun h => match h.2 with | some c => !p c | none => true) }) x.rake }

/-- A copy is flushed: counted in FLUSH_TCc (R101). -/
def flushCopy (d : Device) (c : Copy) : Device := dropCopy (countFlush d c.out c.tag.tc) c

/-- Flush every queue of a port; every best-effort stream resynchronises (R101, R140). -/
def flushPort (d : Device) (p : Nat) : Device :=
  let l := copiesOf (outOf d p) (fun _ => true)
  let d := modOut d p (fun x =>
    { x with rel := [], launch := [], tended := [], rake := [], resyncRest := true, deficit := [] })
  event (each l d flushCopy) (Reg.PORT_EVENT p) 4

/-- Flush one queue (R154). -/
def flushQueue (d : Device) (o tc : Nat) : Device :=
  let l := copiesOf (outOf d o) (fun c => c.tag.tc == tc)
  each l (modOut d o (fun x => without x (fun c => c.tag.tc == tc))) flushCopy

/-! ### Memory errors (R154) -/

/-- A Hamming error in descriptor, link or free-list memory: a double-bit error flushes the queue, or loses a free cell of the
bank until the audit; a single-bit error is corrected (R154, R530). ADDR is a pointer the row does not give: a free value; for a
lost cell, its own (R537; log 44). -/
def ramErr (d : Device) (inj : Bool) : RamErr → Device
  | .queueSingle o tc =>
    nextFree (occur d { cause := 0x05, unit := uQueue (8 * o + tc), addr := freeVal d, access := 1, injected := inj })
  | .bankSingle b => nextFree (occur d { cause := 0x05, unit := uBank b, addr := freeVal d, access := 1, injected := inj })
  | .queueDouble o tc =>
    let d := flushQueue (event (bump d (Reg.CORE_CNT 19)) Reg.CORE_EVENT 10) o tc
    nextFree (occur d { cause := 0x04, unit := uQueue (8 * o + tc), addr := freeVal d, access := 1, injected := inj })
  | .bankDouble b =>
    let taken := ((usedCells d).filter (fun c => c.1 == (b : Nat))).map Prod.snd
    let c := freeCell taken (freeVal d % (6144 - taken.length))
    let d := modCore (nextFree d) (fun k =>
      if taken.length < 6144 then { k with lost := k.lost ++ [((b : Nat), c)] } else k)
    occur (event (bump d (Reg.CORE_CNT 19)) Reg.CORE_EVENT 10)
      { cause := 0x04, unit := uBank b, addr := b * 8192 + c, access := 1, injected := inj }

/-- A Hamming check of a checker of R547: an injection makes its error. -/
def ramCheck (d : Device) (u k : Nat) (single double : RamErr) : Device :=
  match injMode d u k 2 with
  | 0 => d
  | 1 => ramErr (injFire d) true single
  | _ => ramErr (injFire d) true double

/-- The descriptor and link checks of a queue (R547). -/
def queueCheck (d : Device) (o tc : Nat) : Device :=
  let f : Fin 42 := Fin.ofNat 42 o
  let c : Fin 8 := Fin.ofNat 8 tc
  let u := uQueue (8 * o + tc)
  ramCheck (ramCheck d u 1 (.queueSingle f c) (.queueDouble f c)) u 2 (.queueSingle f c) (.queueDouble f c)

/-- The free-list check of a bank (R547). -/
def bankCheck (d : Device) (b : Nat) : Device :=
  ramCheck d (uBank b) 2 (.bankSingle (Fin.ofNat 16 b)) (.bankDouble (Fin.ofNat 16 b))

/-- A possible error met by a row. -/
def ramErrOpt (d : Device) : Option RamErr → Device
  | none => d
  | some e => ramErr d false e

/-! ### Marking (R147) -/

/-- How many bytes of VLAN tags stand behind the addresses of a frame (R114). -/
def vlanBytes (f : List Byte) : Nat :=
  let et (i : Nat) : Nat := (f.getD i 0).toNat * 256 + (f.getD (i + 1) 0).toNat
  if et 12 = 0x8100 || et 12 = 0x88A8 then (if et 16 = 0x8100 then 8 else 4) else 0

/-- The EtherType behind the VLAN tags. -/
def etherType (f : List Byte) : Nat :=
  let i := 12 + vlanBytes f
  (f.getD i 0).toNat * 256 + (f.getD (i + 1) 0).toNat

/-- Bytes an inserted R-TAG puts before what Parse saw (R190). -/
def genBytes (f : Frame) : Nat := if f.gen then 6 else 0

/-- The EtherType that Parse saw (R113, R190). -/
def parsedType (gen : Nat) (b : List Byte) : Nat :=
  let i := 12 + vlanBytes b + gen
  (b.getD i 0).toNat * 256 + (b.getD (i + 1) 0).toNat

/-- Where the IP header starts behind an inserted R-TAG of gen bytes. -/
def ipOff (gen : Nat) (b : List Byte) : Nat := 14 + vlanBytes b + gen

/-- The ECN field of an IPv4 or IPv6 frame; none for another. -/
def ecnOf (gen : Nat) (b : List Byte) : Option Nat :=
  let at_ (i : Nat) : Nat := (b.getD (ipOff gen b + i) 0).toNat
  if parsedType gen b = 0x0800 then some (at_ 1 % 4)
  else if parsedType gen b = 0x86DD then some (at_ 1 / 16 % 4)
  else none

/-- Mark a copy where admission asks for it (R147); counted per class in MARKED (R198). -/
def markCopy (d : Device) (f : Frame) (c : Copy) : Device × Copy :=
  match ecnOf (genBytes f) f.bytes with
  | some e =>
    if e = 1 || e = 2 then
      (bump (bump d (Reg.CORE_CNT 9)) (Reg.QUE_CNT c.out c.tag.tc 2), { c with tag := { c.tag with ecn := true } })
    else (d, c)
  | none =>
    if 0 < vlanBytes f.bytes then
      (bump (bump d (Reg.CORE_CNT 10)) (Reg.QUE_CNT c.out c.tag.tc 2), { c with tag := { c.tag with dei := true } })
    else (d, c)

/-! ### Admission and linking (R131, R186) -/

/-- Th of a class at an output (R186), halved for a POLICED copy. -/
def threshold (d : Device) (o tc : Nat) (policed : Bool) : Nat :=
  let a := fld d (Reg.QUE_CLS_ADM o tc) 3 0
  let s := sharedFree d
  let th := if a < 8 then s * 2 ^ a else s / 2 ^ (16 - a)
  if policed then th / 2 else th

/-- What admission says of a copy of TC0 to TC6 with n cells: refused, admitted, or admitted with a mark asked for. -/
inductive Admit | refuse | plain | mark
  deriving DecidableEq, Repr

def admission (d : Device) (o tc n : Nat) (policed : Bool) : Admit :=
  if tc = 7 then .plain
  else
    let q := fld d (Reg.QUE_CLS_DEPTH o tc) 16 0
    let th := threshold d o tc policed
    let m := fld d (Reg.QUE_CLS_ADM o tc) 18 16
    if q + n > max th (fld d (Reg.QUE_CLS_ADM o tc) 15 8) then .refuse
    else if m ≠ 0 && decide (8 * (q + n) > th * m) && decide (q + n ≤ th) then .mark
    else .plain

/-- The skip token of a dropped copy (R137); TC7 has none to send to a best-effort stream. -/
def skipToken (d : Device) (o : Nat) (t : Tag) (seq : Nat) : Device :=
  if t.tc = 7 then d else rakePut d o t.src t.tc seq none

/-- A copy dropped before linking, with its skip token (R137, R150). -/
def dropUnlinked (d : Device) (f : Frame) (o seq : Nat) : Device :=
  skipToken (if f.mcast then bump d (Reg.CORE_CNT 11) else d) o f.tag seq

/-- One destination copy of a frame at linking (R131): enqueue, recovery, admission, descriptor, mark, Rake. -/
def linkCopy (fid : Nat) (d : Device) (dst : Nat × Nat) : Device :=
  match frameOf d fid with
  | none => d
  | some f =>
    let o := dst.1
    let tc := f.tag.tc
    let n := f.cells.length
    if !admits d o then dropUnlinked (countFlush d o tc) f o dst.2
    else if tc = 7 && shears d && flag d Reg.FLT_SHEARS_CFG 0 then dropUnlinked (countFlush d o 7) f o dst.2
    else
      let r := if tc != 7 && recoversAt d f o then recover d f.recov ((f.rtag.getD (0, 0)).2) else (d, true)
      let d := r.1
      if !r.2 then dropUnlinked d f o dst.2
      else
        match admission d o tc n f.tag.policed with
        | .refuse => dropUnlinked (event (bump d (Reg.QUE_CNT o tc 1)) (Reg.QUE_EVENT o) 4) f o dst.2
        | a =>
          if d.core.descUsed ≥ 131072 then dropUnlinked (bump d (Reg.CORE_CNT 1)) f o dst.2
          else
            let c : Copy := { fid := fid, out := o, tag := { f.tag with seq := dst.2 } }
            let m := if a == .mark then markCopy d f c else (d, c)
            let d := queueCheck m.1 o tc
            let d := modFrame d fid (fun f => { f with copies := f.copies + 1 })
            let d := modCore d (fun k => { k with descUsed := k.descUsed + 1 })
            let a := Reg.QUE_CLS_DEPTH o tc
            let d := if fld d a 16 0 = 0 then edgePulse d (uQueue (8 * o + tc)) 0x31 else d
            let d := pulse (wr d a (rd d a + n)) (uQueue (8 * o + tc)) 0x30 1
            if tc = 7 then tendedPut d m.2 else rakePut d o f.tag.src tc dst.2 (some m.2)

/-- A frame is linked in one step (R131). While its copies are made it counts one copy more, so that none frees it early. -/
def linkFrame (d : Device) (fid : Nat) : Device :=
  match frameOf d fid with
  | none => d
  | some f =>
    let d := modFrame d fid (fun f => { f with copies := 1, dests := [] })
    let d := each f.dests d (linkCopy fid)
    match frameOf d fid with
    | none => d
    | some g =>
      let d := modFrame d fid (fun f => { f with copies := g.copies - 1 })
      if g.copies ≤ 1 then freeFrame d fid else d

/-! ### Write planes (R129, R130) -/

/-- A reservation fails: the frame is dropped whole, one skip token for each of its copies (R129, R185). -/
def poolDrop (d : Device) (fid : Nat) (f : Frame) : Device :=
  let d := event (bump d (Reg.CORE_CNT 0)) Reg.CORE_EVENT 13
  let d := if f.tag.tc = 7 then
      event (modCore d (fun c => { c with exhausted := true })) Reg.QUEG_EVENT 0
    else d
  let d := match f.sender with
    | some e => modApplet d e (fun a => { a with outstanding := a.outstanding - 1 })
    | none => d
  let d := modCore d (fun c => { c with frames := c.frames.filter (fun p => p.1 != fid) })
  each f.dests d (fun d x => skipToken d x.1 f.tag x.2)

/-- A plane takes a frame: it reserves the cells and writes them; false where the reservation fails. -/
def takeFrame (d : Device) (fid : Nat) : Device × Bool :=
  match frameOf d fid with
  | none => (d, false)
  | some f =>
    let n := cellsOf f.bytes.length
    let ok := decide (n ≤ freeCells d) && (if f.tag.tc = 7 then decide (n ≤ tendedFree d) else decide (n ≤ sharedFree d))
    if ok then
      let d := modCore d (fun c =>
        if f.tag.tc = 7 then { c with tendedUsed := c.tendedUsed + n } else { c with sharedUsed := c.sharedUsed + n })
      let d := allocCells d fid n
      let used := match frameOf d fid with | some f => f.cells.map Prod.fst | none => []
      (each (upTo 16) d (fun d b => if used.contains b then bankCheck d b else d), true)
    else (poolDrop d fid f, false)

/-- Give waiting frames to free planes, oldest first, the lowest plane first (R130); at most n frames. -/
def fillPlanes : Nat → Device → Device
  | 0, d => d
  | n + 1, d =>
    match d.core.waiting, firstOf (fun p => !(d.core.planes.any (fun x => x.1 == p))) (upTo 4) with
    | fid :: t, some p =>
      let r := takeFrame (modCore d (fun c => { c with waiting := t })) fid
      fillPlanes n (if r.2 then modCore r.1 (fun c => { c with planes := c.planes ++ [(p, fid)] }) else r.1)
    | _, _ => d

/-- A frame with its numbered copies reaches stage 4 (R32): it waits for a plane, and takes one at once where one is free. -/
def storeFrame (d : Device) (f : Frame) : Device :=
  let fid := d.core.nextFrame
  let d := modCore d (fun c =>
    { c with
      frames := c.frames ++ [(fid, f)], nextFrame := fid + 1, waiting := c.waiting ++ [fid] })
  fillPlanes (d.core.waiting.length) d

/-! ### Sequence numbers and destinations (R122, R124, R126, R149) -/

/-- The number of the next copy from (source, class) to an output (R124). -/
def nextSeq (d : Device) (src tc o : Nat) : Device × Nat :=
  let k := (src * 8 + tc) * 64 + o
  let q := tget (fun _ => 0) d.core.seqs k
  (modCore d (fun c => { c with seqs := tset (fun _ => 0) c.seqs k ((q + 1) % 4096) }), q)

/-- Numbers for a list of outputs. -/
def numberCopies (d : Device) (src tc : Nat) (outs : List Nat) : Device × List (Nat × Nat) :=
  outs.foldl (fun (a : Device × List (Nat × Nat)) o =>
    let r := nextSeq a.1 src tc o
    (r.1, a.2 ++ [(o, r.2)])) (d, [])

/-- The outputs in a member mask over P0 to P39, CPU and Brely, ascending. -/
def outsOf (mask : Nat) : List Nat := (upTo 42).filter (fun o => bit mask o)

/-- The outputs that get a copy of a frame (R122, R149): own excludes the source's own output; vlan is none for a host frame
of VID 0; a lone output outside its VLAN is counted in EGR_FILTER; CPU_COPY is never filtered. -/
def copyOuts (d : Device) (t : Tag) (keepOwn : Bool) (members : Option Nat) : Device × List Nat :=
  let inVlan (o : Nat) : Bool := match members with | some m => bit m o | none => true
  let own (o : Nat) : Bool := o == t.src && !keepOwn
  let r : Device × List Nat :=
    if t.destKind = 1 then
      (d, (outsOf (tget (fun _ => 0) d.fwd.mcast t.dest)).filter
        (fun o => !own o && inVlan o && !(decide (o < 40) && absorbed d o)))
    else if own t.dest then (d, [])
    else if inVlan t.dest then (d, [t.dest])
    else (bump d (Reg.CORE_CNT 18), [])
  if t.cpuCopy && !r.2.contains 40 then (r.1, r.2 ++ [40]) else r

/-- A frame of a source is numbered for its outputs and stored (R113 step 8, R124). A frame without any copy is not stored. -/
def sendFrame (d : Device) (f : Frame) (outs : List Nat) : Device :=
  if outs.isEmpty then
    match f.sender with
    | some e => modApplet d e (fun a => { a with outstanding := a.outstanding - 1 })
    | none => d
  else
    let r := numberCopies d f.tag.src f.tag.tc outs
    storeFrame r.1 { f with dests := r.2 }

end Sys2Proof.Machine
end

