-- ==== Sys2Proof/Machine/Bytes.lean ====
section
/-! DEFINITION. Bytes of frames and packets: fields, checksums, cyclic codes, and the buffer's Reed–Solomon code. -/

namespace Sys2Proof.Machine

/-! ### Fields of a byte string -/

/-- Byte i as a number; 0 past the end. -/
def byteAt (f : List Byte) (i : Nat) : Nat := (f.getD i 0).toNat

/-- n bytes from offset i, most significant first. -/
def beAt (f : List Byte) (i : Nat) : Nat → Nat
  | 0 => 0
  | n + 1 => beAt f i n * 256 + byteAt f (i + n)

/-- A number as n bytes, most significant first. -/
def beBytes : Nat → Nat → List Byte
  | 0, _ => []
  | n + 1, v => beBytes n (v / 256) ++ [BitVec.ofNat 8 v]

/-- Put bytes over those at offset i. -/
def putAt (f : List Byte) (i : Nat) (b : List Byte) : List Byte := f.take i ++ b ++ f.drop (i + b.length)

/-- Remove n bytes at offset i. -/
def cutAt (f : List Byte) (i n : Nat) : List Byte := f.take i ++ f.drop (i + n)

/-- Insert bytes at offset i. -/
def insertAt (f : List Byte) (i : Nat) (b : List Byte) : List Byte := f.take i ++ b ++ f.drop i

/-- Little-endian words of bytes (R464); the last word is filled up with zeros. -/
def wordsOf : Nat → List Byte → List Word
  | 0, _ => []
  | _, [] => []
  | n + 1, f =>
    BitVec.ofNat 32 (byteAt f 0 + 2 ^ 8 * byteAt f 1 + 2 ^ 16 * byteAt f 2 + 2 ^ 24 * byteAt f 3) :: wordsOf n (f.drop 4)

/-- The bytes of words, least significant first (R464). -/
def bytesOf (ws : List Word) : List Byte := (ws.map (fun w => wordBytes w.toNat)).flatten

/-! ### Cyclic codes -/

/-- One bit of a reflected CRC-32. -/
def crc32Bits : Nat → Nat → Nat
  | 0, c => c
  | n + 1, c => crc32Bits n (if c % 2 = 1 then Nat.xor (c / 2) 0xEDB88320 else c / 2)

/-- The register after a string of bytes. -/
def crc32Run : List Byte → Nat → Nat
  | [], c => c
  | b :: t, c => crc32Run t (crc32Bits 8 (Nat.xor c b.toNat))

/-- CRC-32 as the Ethernet FCS is computed. -/
def crc32 (f : List Byte) : Nat := Nat.xor (crc32Run f 0xFFFFFFFF) 0xFFFFFFFF

/-- The FCS of a frame without its FCS, in wire order (least significant byte first). -/
def fcsBytes (f : List Byte) : List Byte := wordBytes (crc32 f)

/-- A frame without its FCS. -/
def body (f : List Byte) : List Byte := f.take (f.length - 4)

/-- The frame's FCS is good (R94). -/
def fcsGood (f : List Byte) : Bool := decide (fcsBytes (body f) = f.drop (f.length - 4))

/-- A frame with its FCS recomputed. -/
def refcs (f : List Byte) : List Byte := body f ++ fcsBytes (body f)

/-- The complement of the correct FCS (R153, R437). -/
def badFcs (f : List Byte) : List Byte := (fcsBytes f).map (fun b => ~~~b)

/-- One bit of a CRC with the most significant bit first. -/
def crcBits (width poly : Nat) : Nat → Nat → Nat
  | 0, c => c
  | n + 1, c =>
    crcBits width poly n
      (if c / 2 ^ (width - 1) % 2 = 1 then Nat.xor (c * 2 % 2 ^ width) poly else c * 2 % 2 ^ width)

/-- A CRC over bytes, most significant bit first. -/
def crcMsb (width poly : Nat) : List Byte → Nat → Nat
  | [], c => c
  | b :: t, c => crcMsb width poly t (crcBits width poly 8 (Nat.xor c (b.toNat * 2 ^ (width - 8))))

/-- CRC-16 of a totaliser record (R401). -/
def crc16 (f : List Byte) : Nat := crcMsb 16 0x1021 f 0xFFFF

/-- CRC-8 of a claim message (R568). -/
def crc8 (f : List Byte) : Nat := crcMsb 8 0x07 f 0

/-! ### The Internet checksum (R148, R237) -/

/-- Fold a sum to 16 bits with end-around carry. -/
def fold16 (v : Nat) : Nat :=
  let a := v % 65536 + v / 65536
  let b := a % 65536 + a / 65536
  b % 65536 + b / 65536

/-- Sum of the 16-bit words of bytes; an odd last byte counts as the high byte. -/
def sum16 : Nat → List Byte → Nat
  | 0, _ => 0
  | _, [] => 0
  | n + 1, f => beAt f 0 2 + sum16 n (f.drop 2)

/-- A checksum updated for a field that changed from old to new bytes, RFC 1624: ~(~C + ~m + m'). The field begins at an even
offset of the checksummed data. -/
def cksumUpdate (c : Nat) (old new : List Byte) : Nat :=
  65535 - fold16 ((65535 - c) + old.length * 65535 - sum16 old.length old + sum16 new.length new)

/-! ### RS(72,64) over GF(2^8) (R151, R152) -/

/-- Multiplication in GF(2^8) with 0x11D, bit by bit of b. -/
def gfMulN : Nat → Nat → Nat → Nat
  | 0, _, _ => 0
  | n + 1, a, b =>
    let a2 := if a ≥ 128 then Nat.xor (a * 2) 0x11D else a * 2
    Nat.xor (if b % 2 = 1 then a else 0) (gfMulN n a2 (b / 2))

def gfMul (a b : Nat) : Nat := gfMulN 8 a b

/-- x^n in the field. -/
def gfPow (x : Nat) : Nat → Nat
  | 0 => 1
  | n + 1 => gfMul x (gfPow x n)

/-- The inverse: x^254. -/
def gfInv (x : Nat) : Nat :=
  let x2 := gfMul x x
  let x4 := gfMul x2 x2
  let x8 := gfMul x4 x4
  let x16 := gfMul x8 x8
  let x32 := gfMul x16 x16
  let x64 := gfMul x32 x32
  let x128 := gfMul x64 x64
  gfMul x128 (gfMul x64 (gfMul x32 (gfMul x16 (gfMul x8 (gfMul x4 x2)))))

/-- Syndromes S_0 to S_7 of an error pattern of (position, value); position k is the coefficient of x^(71−k). -/
def syndromes (errs : List (Nat × Byte)) : List Nat :=
  (List.range 8).map (fun i =>
    errs.foldl (fun s e => Nat.xor s (gfMul e.2.toNat (gfPow (gfPow 2 (71 - e.1)) i))) 0)

/-- A polynomial's coefficient, constant term first. -/
def coef (p : List Nat) (i : Nat) : Nat := p.getD i 0

/-- p + c·x^m·q over the field, to degree 8. -/
def polyStep (p : List Nat) (c m : Nat) (q : List Nat) : List Nat :=
  (List.range 9).map (fun i => Nat.xor (coef p i) (if m ≤ i then gfMul c (coef q (i - m)) else 0))

/-- State of the locator search: locator, previous locator, length, gap, previous discrepancy. -/
structure Locator where
  c : List Nat := [1]
  b : List Nat := [1]
  l : Nat := 0
  m : Nat := 1
  bd : Nat := 1

/-- One syndrome of the shortest-register search. -/
def locatorStep (s : List Nat) (x : Locator) (n : Nat) : Locator :=
  let dis := (List.range (x.l + 1)).foldl (fun a i => Nat.xor a (gfMul (coef x.c i) (coef s (n - i)))) 0
  if dis = 0 then { x with m := x.m + 1 }
  else
    let k := gfMul dis (gfInv x.bd)
    let c := polyStep x.c k x.m x.b
    if 2 * x.l ≤ n then { c := c, b := x.c, l := n + 1 - x.l, m := 1, bd := dis }
    else { x with c := c, m := x.m + 1 }

/-- The error locator of the syndromes and its degree. -/
def locator (s : List Nat) : Locator := (List.range 8).foldl (locatorStep s) {}

/-- A polynomial at a point. -/
def polyAt (p : List Nat) (x : Nat) : Nat := p.foldr (fun a v => Nat.xor a (gfMul v x)) 0

/-- Positions that the locator names among the 72. -/
def rootsOf (p : List Nat) : List Nat :=
  (List.range 72).filter (fun k => polyAt p (gfInv (gfPow 2 (71 - k))) == 0)

/-- What the decoder makes of an error pattern (R152). -/
inductive Decoded
  | clean
  | corrected
  | flagged
  deriving DecidableEq, Repr

/-- The decoder's outcome on an error pattern: corrected only with a locator of degree 3 or less and that number of distinct
roots; clean where the errors make another codeword, or none. -/
def rsDecode (errs : List (Nat × Byte)) : Decoded :=
  let s := syndromes errs
  if s.all (fun x => x == 0) then .clean
  else
    let x := locator s
    if x.l ≤ 3 && (rootsOf x.c).length == x.l then .corrected else .flagged

/-- Values of up to three errors at known positions: solved from the first syndromes. -/
def solveAt (s : List Nat) : List Nat → List (Nat × Nat)
  | [a] => [(a, coef s 0)]
  | [a, b] =>
    let x := gfPow 2 (71 - a)
    let y := gfPow 2 (71 - b)
    let v := gfMul (Nat.xor (coef s 1) (gfMul x (coef s 0))) (gfInv (Nat.xor x y))
    [(a, Nat.xor (coef s 0) v), (b, v)]
  | [a, b, c] =>
    let x := gfPow 2 (71 - a)
    let y := gfPow 2 (71 - b)
    let z := gfPow 2 (71 - c)
    let n := Nat.xor (Nat.xor (coef s 2) (gfMul (Nat.xor x y) (coef s 1))) (gfMul (gfMul x y) (coef s 0))
    let w := gfMul n (gfInv (gfMul (Nat.xor z x) (Nat.xor z y)))
    let s0 := Nat.xor (coef s 0) w
    let s1 := Nat.xor (coef s 1) (gfMul z w)
    let v := gfMul (Nat.xor s1 (gfMul x s0)) (gfInv (Nat.xor x y))
    [(a, Nat.xor s0 v), (b, v), (c, w)]
  | _ => []

/-- What is delivered in error after decoding: (position, value) still wrong. Empty where the correction is true (R152). -/
def residual (errs : List (Nat × Byte)) : List (Nat × Nat) :=
  match rsDecode errs with
  | .clean => errs.map (fun e => (e.1, e.2.toNat))
  | .corrected =>
    let s := syndromes errs
    errs.map (fun e => (e.1, e.2.toNat)) ++ solveAt s (rootsOf (locator s).c)
  | .flagged => []

end Sys2Proof.Machine
end

