-- ==== Sys2Proof/Machine/Egress.lean ====
section
/-! DEFINITION. Outputs: gates, windows, the scheduler, timed launch, what the transmit MAC sends, time-stamp insertion and
captures (R145 to R153, R165 to R183, R226 to R241). Gate times are in units of 2^-48/25 ns, in which a tick of 0.8 ns is
20 × 2^48 and 10 ps is 2^46. Wire times are in units of 10 ps, 80 to a tick. -/

namespace Sys2Proof.Machine

/-! ### The wire (R167, R169) -/

/-- Byte time of a port mode in 10 ps (R169). -/
def byteTime (mode : Nat) : Nat :=
  match mode with
  | 0 => 800
  | 1 => 80
  | 2 => 32
  | 3 => 16
  | 6 => 4
  | _ => 8

/-- Spacing of start positions in 10 ps (R169). -/
def startGap (mode : Nat) : Nat :=
  match mode with
  | 0 => 1600
  | 1 => 320
  | 2 => 128
  | 3 => 128
  | 6 => 32
  | _ => 64

/-- Occupancy of LEN bytes in 10 ps (R169). -/
def occupancy (mode len : Nat) : Nat := (len + 20) * byteTime mode + startGap mode

/-- The first start position at or after the present tick, 10 ps (log 24). -/
def startPos (d : Device) (mode : Nat) : Nat := (d.tick * 80 + startGap mode - 1) / startGap mode * startGap mode

/-- The MAC may start frames: the port is UP, or DRAINING while link_ok holds (R99, R104); the CPU and Brely outputs always. -/
def sendOk (d : Device) (o : Nat) : Bool :=
  decide (o ≥ 40) || portSt d o == 2 || (portSt d o == 5 && (portOf d o).okSince.isSome)

/-- Halt frames of a port are due or on the wire (R437). -/
def haltBusy (d : Device) (o : Nat) : Bool := !(tget (fun _ => []) d.syn.haltDue o).isEmpty

/-- The wire of an output is free (R167). -/
def wireIsFree (d : Device) (o : Nat) : Bool :=
  (outOf d o).wire.isNone && decide ((outOf d o).wireFree ≤ d.tick * 80) && !haltBusy d o

/-! ### Gate lists (R170 to R176) -/

/-- One ns, one tick and 10 ps in the unit of gate times. -/
def gNs : Nat := 25 * 2 ^ 48
def gTick : Nat := 20 * 2 ^ 48
def gWire : Nat := 2 ^ 46

/-- The domain time of an output's port in the unit of gate times. -/
def gNow (d : Device) (o : Nat) : Nat := tbVal d (queDomain d o) * 25

/-- Position within the cycle (R173). -/
def gatePos (l : GateList) (t : Nat) : Nat :=
  (((t : Int) - (l.base * gNs : Nat)) % ((l.cycle * gTick : Nat) : Int)).toNat

/-- Index, gates and start of the entry in force at a position; the last entry goes on to the end of the cycle (R173). -/
def gateEntry (i s p : Nat) : List (Nat × Nat) → Nat × Nat × Nat
  | [] => (i, 0xFF, s)
  | [(_, g)] => (i, g, s)
  | (n, g) :: t => if p < s + n * gTick then (i, g, s) else gateEntry (i + 1) (s + n * gTick) p t

/-- Gates in force at a time (R173); every gate is open while no list is active. -/
def gatesAt (l : Option GateList) (t : Nat) : Nat :=
  match l with
  | none => 0xFF
  | some l => (gateEntry 0 0 (gatePos l t) l.entries).2.1

/-- Entry in force at a time. -/
def entryAt (l : Option GateList) (t : Nat) : Nat :=
  match l with
  | none => 0
  | some l => (gateEntry 0 0 (gatePos l t) l.entries).1

/-- Where in the cycle the gate of a class that is open at position p next closes: the first later entry that closes it, or the
end of the cycle (R170, R173). -/
def closeFrom (c cycle s p : Nat) : List (Nat × Nat) → Nat
  | [] => cycle
  | (n, g) :: t =>
    if s > p && !bit g c then min s cycle else closeFrom c cycle (s + n * gTick) p t

/-- The close of the window of a class in force at a time; none where unbounded (R170, R175). -/
def windowClose (x : Output) (c t : Nat) : Option Nat :=
  match x.active with
  | none => none
  | some l =>
    let p := gatePos l t
    let e := t - p + closeFrom c (l.cycle * gTick) 0 p l.entries
    match x.armed with
    | some (ct, _) => some (min e ct)
    | none => some e

/-- A copy of a class with an occupancy fits at a time (R170). The CPU and Brely outputs take every gate as open (R166); a window
has no close while the domain is disabled (R587). -/
def fits (d : Device) (o c occ : Nat) : Bool :=
  if o ≥ 40 then true
  else
    let x := outOf d o
    let t := gNow d o
    bit (gatesAt x.active t) c &&
      (!tbEn d (queDomain d o) || match windowClose x c t with
       | some e => decide (t + occ * gWire ≤ e)
       | none => true)

/-! ### Timed launch (R178 to R182) -/

/-- A copy in the list is ready (R179). -/
def isReady (d : Device) (c : Copy) : Bool := c.ready || decide (c.enter + 100 ≤ d.tick)

/-- Lateness of a copy in the present tick (R179); none before its launch tick. -/
def lateness (d : Device) (c : Copy) : Option Nat := c.ltick.map (fun t => d.tick - t)

/-- LATE_TOL (R194). -/
def lateTol (d : Device) (o : Nat) : Nat := fld d (Reg.QUE_TLCFG o) 29 16

/-- The tended guard refuses a copy of an occupancy (R171). -/
def guarded (d : Device) (o occ : Nat) : Bool :=
  decide (o < 40) &&
    (outOf d o).launch.any (fun c =>
      c.tag.tc == 7 && isReady d c && decide (gNow d o + occ * gWire > c.launch * gNs))

/-! ### The scheduler (R167, R168, R146) -/

def relOf (d : Device) (o c : Nat) : List Copy := tget (fun _ => []) (outOf d o).rel c

/-- Occupancy of a copy at an output: none at the CPU and Brely outputs (R166). -/
def copyOcc (d : Device) (o : Nat) (c : Copy) : Nat := if o ≥ 40 then 0 else occupancy (modeCur d o) c.tag.len

/-- The head of a class that takes part, with its LEN (R167). -/
def takesPart (d : Device) (o c : Nat) : Option Copy :=
  match relOf d o c with
  | h :: _ => if fits d o c (copyOcc d o h) && !guarded d o (copyOcc d o h) then some h else none
  | [] => none

/-- How many heads of release lists the tended guard alone refuses at a selection point (R171). -/
def guardRefusals (d : Device) (o : Nat) : Nat :=
  ((upTo 8).filter (fun c =>
    match relOf d o c with
    | h :: _ => fits d o c (copyOcc d o h) && guarded d o (copyOcc d o h)
    | [] => false)).length

/-- A class is strict (R167). -/
def isStrict (d : Device) (o c : Nat) : Bool := c == 7 || flag d (Reg.QUE_SCHED o) c

/-- The highest strict class that takes part. -/
def strictPick (d : Device) (o : Nat) : Nat → Option Nat
  | 0 => none
  | n + 1 => if isStrict d o n && (takesPart d o n).isSome then some n else strictPick d o n

def deficitOf (d : Device) (o c : Nat) : Nat := tget (fun _ => 0) (outOf d o).deficit c
def setDeficit (d : Device) (o c v : Nat) : Device := modOut d o (fun x => { x with deficit := tset (fun _ => 0) x.deficit c v })

/-- The class behind c in the ring TC6 to TC0 (R168). -/
def ringNext (c : Nat) : Nat := if c = 0 then 6 else c - 1

/-- The weighted visit: the class that sends, after at most n steps of the ring (R168). -/
def drrPick (o : Nat) : Nat → Device → Device × Option Nat
  | 0, d => (d, none)
  | n + 1, d =>
    let x := outOf d o
    let c := x.ring
    let part := if isStrict d o c then none else takesPart d o c
    match part with
    | some h =>
      let d := if x.current then d else setDeficit d o c (deficitOf d o c + fld d (Reg.QUE_CLS_QUANT o c) 15 0)
      if h.tag.len ≤ deficitOf d o c then
        (modOut (setDeficit d o c (deficitOf d o c - h.tag.len)) o (fun x => { x with current := true }), some c)
      else drrPick o n (modOut d o (fun x => { x with ring := ringNext c, current := false }))
    | none => drrPick o n (modOut d o (fun x => { x with ring := ringNext c, current := false }))

/-- Take the head of a release list; the deficit of a list that empties is 0 (R168). -/
def popRel (d : Device) (o c : Nat) : Device :=
  modOut d o (fun x =>
    let l := (tget (fun _ => []) x.rel c).drop 1
    { x with rel := tset (fun _ => []) x.rel c l, deficit := if l.isEmpty then tset (fun _ => 0) x.deficit c 0 else x.deficit })

/-- Age limit of a copy in ticks (R145). -/
def ageLimit (d : Device) (c : Copy) : Nat :=
  1250 * (if c.tag.ageIdx = 0 then fld d (Reg.QUE_CLS_AGE c.out c.tag.tc) 19 0 else fld d (Reg.CORE_AGE_LIMIT c.tag.ageIdx) 19 0)

/-- A copy is aged (R145). -/
def aged (d : Device) (c : Copy) : Bool := decide ((tickcnt d + 2 ^ 40 - c.tag.arrTick) % 2 ^ 40 ≥ ageLimit d c)

/-- An aged copy is dropped (R146). -/
def ageDropCopy (d : Device) (c : Copy) : Device :=
  dropCopy (bump (bump d (Reg.CORE_CNT 2)) (Reg.QUE_CNT c.out c.tag.tc 3)) c

/-! ### Reading the buffer (R152, R153, R547) -/

/-- A corrected word counts in its bank's window; the count that reaches CORR_THR sets RATE_FAULT (R157). -/
def windowCount (d : Device) (b : Nat) : Device :=
  let n := tget (fun _ => 0) d.core.bankWin b + 1
  let d := modCore d (fun c => { c with bankWin := tset (fun _ => 0) c.bankWin b n })
  if n = fld d Reg.CORE_BANK_THR 15 0 && !flag d (Reg.CORE_BANK_STATE b) 4 then
    condBegins (setFlag d (Reg.CORE_BANK_STATE b) 4 true) { cause := 0x02, unit := uBank b }
  else d

/-- MASTER of a word read for an output: the transmit MAC of a port; the CPU and Brely outputs have no code, and give 0x00
(R537; log 44). -/
def readMaster (out : Nat) : Nat := if out < 40 then 0x10 + out else 0

/-- One corrected or flagged word of a bank is counted, with its fault (R152). -/
def wordOutcome (d : Device) (inj : Bool) (out : Nat) (cell : Nat × Nat) (word : Nat) (r : Decoded) : Device :=
  let b := cell.1
  let addr := (b * 8192 + cell.2) * 4 + word
  let add (a k : Nat) : Device :=
    let v := rd d a + 1
    let d := wr d a v
    if v < 2 ^ 32 then d else event (event d Reg.CORE_BANK_OVF k) Reg.CORE_EVENT 12
  match r with
  | .clean => d
  | .corrected =>
    occur (windowCount (pulse (add (Reg.CORE_BANK_CORR b) (2 * b)) (uBank b) 0x22 1) b)
      { cause := 0x01, unit := uBank b, addr := addr, master := readMaster out, access := 1, injected := inj }
  | .flagged =>
    occur (event (add (Reg.CORE_BANK_UNCORR b) (2 * b + 1)) Reg.CORE_EVENT 4)
      { cause := 0x03, unit := uBank b, addr := addr, master := readMaster out, access := 1, injected := inj }

/-- Errors that an injection into the banks of a frame makes: MODE symbols of the check bytes of the bank's first word that is
read (R547); the decoder meets them as it meets others. -/
def injErrs (d : Device) (cells : List (Nat × Nat)) : List ReadErr :=
  (upTo cells.length).filterMap (fun i =>
    let b := (cells.getD i (0, 0)).1
    let m := injMode d (uBank b) 1 5
    if m = 0 || (cells.take i).any (fun c => c.1 == b) then none
    else some ⟨i, 0, (upTo m).map (fun k => (64 + k, (1 : Byte)))⟩)

/-- What reading a copy's words gives: the first flagged word as a byte offset, and the bytes as decoded. -/
structure ReadOut where
  bytes : List Byte
  flagged : Option Nat

/-- Read the words of a frame that hold errors, in order (R152). -/
def readWords (out : Nat) (cells : List (Nat × Nat)) (inj : Bool) (d : Device) (r : ReadOut) : List ReadErr → Device × ReadOut
  | [] => (d, r)
  | e :: t =>
    let o := rsDecode e.errs
    if e.cell < cells.length && decide (e.word < 4) then
      let at_ := e.cell * 256 + e.word * 64
      let d := wordOutcome d inj out (cells.getD e.cell (0, 0)) e.word o
      let bytes := (residual e.errs).foldl (fun f x =>
        if x.1 < 64 ∧ at_ + x.1 < f.length then putAt f (at_ + x.1) [f.getD (at_ + x.1) 0 ^^^ BitVec.ofNat 8 x.2] else f) r.bytes
      let fl := if o == .flagged then some (min at_ (r.flagged.getD at_)) else r.flagged
      readWords out cells inj d { bytes := bytes, flagged := fl } t
    else readWords out cells inj d r t

/-- Read a copy's frame, with the errors met and those of an armed injection (R152, R548). -/
def readFrame (d : Device) (out : Nat) (f : Frame) (errs : List ReadErr) : Device × ReadOut :=
  let ie := injErrs d f.cells
  let a := readWords out f.cells false d { bytes := f.bytes, flagged := none } errs
  if ie.isEmpty then a else readWords out f.cells true (injFire a.1) a.2 ie

/-! ### Time-stamp insertion and captures (R226 to R241) -/

/-- Transmit time of the stamp point of a frame that starts at a position: ticks, and the fraction in 1/1,310,720 (R226). -/
def departure (d : Device) (p pos : Nat) : Nat × Nat :=
  let mode := modeCur d p
  let x : Int := (pos + 8 * byteTime mode : Nat) * 16384
    + 25 * (Config.dTx mode p + signed 32 (rd d (Reg.LANE_KTX_CUR p)) - signed 32 (rd d (Reg.LANE_SKEW_TX p)))
  ((x / 1310720).toNat, (x % 1310720).toNat)

/-- A departure on a time base, in 2^-16 ns (R229). -/
def depTime (d : Device) (n : Nat) (dep : Nat × Nat) : Nat :=
  let v : Int := tbVal d n + ((dep.1 : Int) - d.tick) * tbIncr d n + (dep.2 * tbIncr d n / 1310720 : Nat)
  (v / (2 ^ 32 : Nat)).toNat

/-- The ticks R222 adds to a residence, in 2^-16 ticks, and whether the copy spans two stops. -/
def stopTicks (d : Device) (arr : Nat) : Nat × Bool :=
  match d.tb.lastF with
  | some f =>
    if tickGe f arr then (d.tb.lastE, match d.tb.prevF with | some g => tickGe g arr | none => false) else (0, false)
  | none => (0, false)

/-- The residence time in 2^-16 ns (R236). -/
def residence (d : Device) (n : Nat) (t : Tag) (dep : Nat × Nat) : Int :=
  let dt : Nat := (dep.1 % 2 ^ 40 + 2 ^ 40 - t.arrTick) % 2 ^ 40
  let u : Int := (dt * 1310720 + dep.2 + 20 * (stopTicks d t.arrTick).1 : Nat) - (25 * t.arrFine : Nat)
  (u * tbIncr d n).tdiv (1310720 * 2 ^ 32 : Nat)

/-- A correctionField sum, saturated (R237): the field's bytes and whether it was. -/
def corrSum (old : Nat) (x : Int) : List Byte × Bool :=
  let s := signed 64 old + x
  if s > (2 ^ 63 - 1 : Nat) then (beBytes 8 (2 ^ 63 - 1), true)
  else if s < -(2 ^ 63 : Nat) then (beBytes 8 (2 ^ 63), true)
  else (beBytes 8 (unsigned 64 s), false)

/-- Write a field of a frame and keep its UDP checksum as CSUM_KIND says (R237). The field lies at an even offset of the
checksummed data, as every PTP field does behind an even header; a trailer at an odd offset counts with its bytes swapped. -/
def putSum (kind csum off : Nat) (f new : List Byte) : List Byte :=
  let old := (f.drop off).take new.length
  let g := putAt f off new
  match kind with
  | 1 =>
    let c := cksumUpdate (beAt f csum 2) old new
    putAt g csum (beBytes 2 (if c = 0 then 0xFFFF else c))
  | 2 =>
    -- the two trailer bytes take up what the field's change adds to the sum
    let swap (v : Nat) : Nat := if (csum + off) % 2 = 0 then v else v % 256 * 256 + v / 256
    let c := fold16 (swap (beAt f csum 2) + sum16 old.length old + new.length * 65535 - sum16 new.length new)
    putAt g csum (beBytes 2 (swap c))
  | _ => g

/-- Message types valid for an order (R234). -/
def opTypeOk (op ty : Nat) : Bool :=
  match op with
  | 1 => decide (ty ≤ 2)
  | 2 => decide (ty ≤ 3)
  | 3 => ty == 0
  | 4 => ty == 3
  | _ => false

/-- The insertion order of a copy acts on its bytes without FCS, offsets already reduced (R234 to R237). -/
def insertOp (d : Device) (t : Tag) (dep : Nat × Nat) (f : List Byte) : Device × List Byte :=
  if t.tsOp = 0 then (d, f)
  else
    let n := t.domain
    let po := t.ptpOff
    let ty := byteAt f po % 16
    let last := if t.tsOp = 1 then po + 44 else po + 16
    let sumOk := decide (t.csumKind = 0) || decide (t.csumOff + 2 ≤ f.length)
    let bad := decide (t.csumKind = 3) || !opTypeOk t.tsOp ty || decide (last > f.length) || !sumOk
      || (t.tsOp == 4 && t.launchValid)
    if bad then (event (bump d (Reg.TB_CNT 1)) Reg.TB_EVENT 6, f)
    else if !tbEn d n then (bump d (Reg.TB_CNT 3), f)
    else
      let v := depTime d n dep
      let sec := v / (1000000000 * 65536)
      let rt := nearSec sec t.launchSec * 1000000000 * 65536 + t.launchNs * 65536
      let add : Int :=
        match t.tsOp with
        | 1 => (v % 65536 : Nat)
        | 2 => residence d n t dep
        | 3 => residence d n t dep + (if t.src < 40 then rd d (Reg.TB_LINKDLY_LO t.src) + 2 ^ 32 * fld d (Reg.TB_LINKDLY_HI t.src) 15 0
            else 0 : Nat)
        | _ => (v : Int) - rt
      let c := corrSum (beAt f (po + 8) 8) add
      let g := putSum t.csumKind t.csumOff (po + 8) f c.1
      let g := if t.tsOp = 1 then
          putSum t.csumKind t.csumOff (po + 34) g (beBytes 6 (sec % 2 ^ 48) ++ beBytes 4 (v / 65536 % 1000000000))
        else g
      let d := bump d (Reg.TB_CNT 0)
      let d := if c.2 then bump d (Reg.TB_CNT 2) else d
      let res := t.tsOp = 2 || t.tsOp = 3
      (eventIf (res && (stopTicks d t.arrTick).2) d Reg.TB_EVENT 7, g)

/-- A capture of a departure v of a copy whose transmission has ended, or was cut; zero in a disabled domain (R240, R241). -/
def capture (d : Device) (p : Nat) (t : Tag) (v : Nat) (en cut : Bool) : Device :=
  if t.capId = 0 then d
  else
    let v := if en then v else 0
    if t.capId ≥ 512 then emit d (.engineCapture (p / 10) t.capId v cut (!en))
    else
      let l := tget (fun _ => []) d.tb.caps p
      if l.length ≥ 64 then event (bump d (Reg.TB_CNT 4)) Reg.TB_EVENT 5
      else
        let sec := v / (1000000000 * 65536)
        let e : Capture :=
          [w32 (1 + 2 * b2n (!en) + 4 * b2n cut + 8 * t.domain + 64 * t.capId + 65536 * (v % 65536)),
           w32 (v / 65536 % 1000000000), w32 sec, w32 (sec / 2 ^ 32 % 65536)]
        eventIf l.isEmpty { d with tb := { d.tb with caps := tset (fun _ => []) d.tb.caps p (l ++ [e]) } } Reg.TB_EVENT 4

/-! ### What the transmit MAC sends (R147, R148, R190, R191, R238) -/

/-- The tag as the eight words of R125. -/
def tagWords (t : Tag) : List Word :=
  [w32 (t.src + 2 ^ 6 * t.tc + 2 ^ 9 * t.domain + 2 ^ 12 * t.ageIdx + 2 ^ 16 * t.seq + 2 ^ 28 * t.destKind),
   w32 (t.dest + 2 ^ 15 * b2n t.cpuCopy + 2 ^ 16 * t.len),
   w32 t.arrTick,
   w32 (t.arrTick / 2 ^ 32 + 2 ^ 8 * t.arrFine),
   w32 (t.launchNs + 2 ^ 31 * b2n t.launchValid),
   w32 (t.launchSec + 2 ^ 16 * t.stream + 2 ^ 30 * b2n t.streamValid),
   w32 (t.tsOp + 2 ^ 3 * t.ptpOff + 2 ^ 11 * t.csumKind + 2 ^ 13 * t.csumOff + 2 ^ 21 * t.capId),
   w32 (b2n t.ecn + 2 * b2n t.dei + 4 * b2n t.late + 8 * b2n t.policed + 16 * t.vid)]

/-- Bytes removed before an offset shift it (R238). -/
def shiftOff (off at_ n : Nat) : Nat := if at_ < off then off - n else off

/-- The R-TAG goes where the bound recovery instance removes it (R191). -/
def removesRtag (d : Device) (f : Frame) (o : Nat) : Bool :=
  recoversAt d f o &&
    (match tget (fun _ => []) d.fwd.recov f.recov with
     | _ :: _ :: w3 :: _ => bit w3.toNat 0
     | _ => false)

/-- The outer tag goes under the untag mask of the frame's VLAN (R148). -/
def untags (d : Device) (f : Frame) (o : Nat) (b : List Byte) : Bool :=
  decide (o < 40) && !f.noVlan && decide (0 < vlanBytes b) && bit (tget (fun _ => {}) d.fwd.vlan f.tag.vid).untag o

/-- Set the CE field of an IP frame whose header starts at offset i, and its IPv4 header checksum (R148). -/
def applyCe (v4 : Bool) (i : Nat) (f : List Byte) : List Byte :=
  if v4 then
    let old := (f.drop i).take 2
    let new := [f.getD i 0, f.getD (i + 1) 0 ||| 3]
    putAt (putAt f i new) (i + 10) (beBytes 2 (cksumUpdate (beAt f (i + 10) 2) old new))
  else putAt f (i + 1) [f.getD (i + 1) 0 ||| 0x30]

/-- A copy's bytes as its output sends them: without the tags removed, with marks and insertions; the FCS is recomputed where
anything changed (R148, R238). -/
def wireBytes (d : Device) (f : Frame) (c : Copy) (bytes : List Byte) (dep : Nat × Nat) : Device × List Byte :=
  let b := body bytes
  let gen := genBytes f
  let bm := if c.tag.ecn then applyCe (parsedType gen b == 0x0800) (ipOff gen b) b else b
  let rt := (f.rtag.getD (0, 0)).1
  let cutR := removesRtag d f c.out && decide (c.out < 40)
  let b1 := if cutR then cutAt bm rt 6 else bm
  let t := if cutR then { c.tag with ptpOff := shiftOff c.tag.ptpOff rt 6, csumOff := shiftOff c.tag.csumOff rt 6 } else c.tag
  let cutV := untags d f c.out b1
  let b2 := if cutV then cutAt b1 12 4 else b1
  let t := if cutV then { t with ptpOff := shiftOff t.ptpOff 12 4, csumOff := shiftOff t.csumOff 12 4 } else t
  let b4 := if t.dei && !cutV && decide (0 < vlanBytes b2) then putAt b2 14 [b2.getD 14 0 ||| 0x10] else b2
  let r := if c.out < 40 then insertOp d t dep b4 else (d, b4)
  (r.1, if r.2 = b then bytes else r.2 ++ fcsBytes r.2)

/-! ### Starting and ending a copy (R132, R153, R167, R180) -/

/-- A frame sent complete, or cut, ends its copy (R132, R112, R198, R322). -/
def sentCounts (d : Device) (o tc len : Nat) (cut : Bool) : Device :=
  if cut then d
  else
    let d := bump d (Reg.QUE_CNT o tc 0)
    if o < 40 then count (bump d (Reg.PORT_CNT o 5)) (Reg.PORT_CNT o 6) len else d

/-- Start a copy that has left its list: read its words, drop it where the first is flagged, else send it (R153, R167, R228). -/
def startCopy (d : Device) (c : Copy) (errs : List ReadErr) : Device :=
  match frameOf d c.fid with
  | none => d
  | some f =>
    let o := c.out
    let r := readFrame d o f errs
    let d := r.1
    if r.2.flagged = some 0 then dropCopy (bump d (Reg.CORE_CNT 8)) c
    else
      let mode := modeCur d o
      let pos := startPos d mode
      let dep := if o < 40 then departure d o pos else (d.tick, 0)
      let w := wireBytes d f c r.2.bytes dep
      let d := w.1
      let cut := r.2.flagged.isSome
      let d := if cut then bump d (Reg.CORE_CNT 7) else d
      let bytes := match r.2.flagged with
        | some n => w.2.take n ++ badFcs (w.2.take n)
        | none => w.2
      let d := if c.tag.late then event (bump d (Reg.QUE_CNT o c.tag.tc 4)) (Reg.QUE_EVENT o) 2 else d
      if o < 40 then
        let d := if (outOf d o).wireFree + 79 < d.tick * 80 then edgePulse d (uEgress o) 0x42 else d
        modOut d o (fun x =>
          { x with
            wire := some { copy := c, bytes := bytes, start := d.tick, endAt := pos + (c.tag.len + 8) * byteTime mode,
                           cut := cut, depart := depTime d c.tag.domain dep, departEn := tbEn d c.tag.domain },
            wireFree := d.tick * 80 + occupancy mode c.tag.len })
      else
        let d := emit d (if o = 40 then .host (tagWords c.tag) bytes else .frame o bytes cut)
        endCopy (sentCounts d o c.tag.tc bytes.length cut) c

/-- The transmission on a port's wire ends (R132). -/
def endWire (d : Device) (o : Nat) : Device :=
  match (outOf d o).wire with
  | none => d
  | some x =>
    let d := modOut d o (fun y => { y with wire := none })
    let d := capture (emit d (.frame o x.bytes x.cut)) o x.copy.tag x.depart x.departEn x.cut
    endCopy (sentCounts d o x.copy.tag.tc x.bytes.length x.cut) x.copy

/-- A frame being sent is cut with the complement FCS at a clock stop or by Shears: its bytes so far (R322, R437). -/
def cutBytes (d : Device) (o : Nat) (x : Wire) : List Byte :=
  let mode := modeCur d o
  let from_ := (x.start * 80 + startGap mode - 1) / startGap mode * startGap mode + 8 * byteTime mode
  let n := min ((d.tick * 80 - from_) / byteTime mode) (x.bytes.length - 4)
  x.bytes.take n ++ badFcs (x.bytes.take n)

/-- One selection at an output (R167): the class chosen, its head examined for age, and started; at most n aged heads. -/
def selectFrom (o : Nat) (errs : List ReadErr) : Nat → Device → Device
  | 0, d => d
  | n + 1, d =>
    let r := match strictPick d o 8 with
      | some c => (d, some c)
      | none => if (upTo 7).any (fun c => !isStrict d o c && (takesPart d o c).isSome) then drrPick o 2000 d else (d, none)
    let d := r.1
    match r.2 with
    | none => d
    | some c =>
      match relOf d o c with
      | [] => d
      | h :: _ =>
        let d := queueCheck (popRel d o c) o c
        if aged d h then selectFrom o errs n (ageDropCopy d h) else startCopy d h errs

/-- A selection point (R167). -/
def selectAt (d : Device) (o : Nat) (errs : List ReadErr) : Device :=
  if sendOk d o && wireIsFree d o then
    let n := guardRefusals d o
    let d := if n = 0 then d else pulse d (uEgress o) 0x41 n
    selectFrom o errs ((copiesOf (outOf d o) (fun _ => true)).length + 1) d
  else d

/-- The head of the timed-launch list in its launch tick or within its tolerance (R180 to R182). -/
def launchAt (d : Device) (o : Nat) (errs : List ReadErr) : Device :=
  match (outOf d o).launch with
  | [] => d
  | c :: t =>
    match lateness d c with
    | none => d
    | some k =>
      let ok := isReady d c && sendOk d o && wireIsFree d o && fits d o c.tag.tc (copyOcc d o c)
      let pop (d : Device) : Device := modOut d o (fun x => { x with launch := t })
      if c.tag.tc = 7 then
        if k > lateTol d o then d
        else if ok then
          let d := pulse (queueCheck (pop d) o 7) (uEgress o) 0x40 1
          if aged d c then ageDropCopy d c
          else startCopy d (if 0 < k then { c with tag := { c.tag with late := true } } else c) errs
        else
          match (outOf d o).wire with
          | some x =>
            if isReady d c && x.copy.tag.tc != 7 && (outOf d o).delayed != some c.enter then
              occur (event (modOut d o (fun y => { y with delayed := some c.enter })) (Reg.QUE_EVENT o) 3)
                { cause := 0x07, unit := uEgress o }
            else d
          | none => d
      else if ok && k == 0 then
        let d := pulse (queueCheck (pop d) o c.tag.tc) (uEgress o) 0x40 1
        if aged d c then ageDropCopy d c else startCopy d c errs
      else
        modOut (pop d) o (fun x =>
          { x with rel := tmod (fun _ => []) x.rel c.tag.tc (fun l => l ++ [{ c with tag := { c.tag with late := true } }]) })

/-- A TC7 head past its tolerance is dropped (R180). -/
def launchExpire (d : Device) (o : Nat) : Device :=
  match (outOf d o).launch with
  | c :: t =>
    match lateness d c with
    | some k =>
      if c.tag.tc = 7 && decide (k > lateTol d o) then launchDrop (modOut d o (fun x => { x with launch := t })) c 1 else d
    | none => d
  | [] => d

/-! ### Gate-list status (R175, R195) -/

/-- ENTRY_CUR and GATES_CUR, the counts, the cycle, the base and the armed time, as the status registers show them. -/
def gateStatus (d : Device) (o : Nat) : Device :=
  let x := outOf d o
  let t := gNow d o
  let pendOk := match x.pend with | some p => p.written.length == p.count | none => false
  let st := b2n x.active.isSome + 2 * b2n pendOk + 4 * b2n x.armed.isSome
    + 8 * b2n (match x.armed with | some (_, b) => b | none => false) + 16 * entryAt x.active t + 2 ^ 16 * gatesAt x.active t
  let n := match x.active with | some l => l.entries.length | none => 0
  let d := wr d (Reg.QUE_GL_STATUS o) st
  let d := wr d (Reg.QUE_GL_COUNT o) (n + 2 ^ 16 * (match x.pend with | some p => p.count | none => 0))
  let d := wr d (Reg.QUE_GL_CYCLE o) (match x.active with | some l => l.cycle | none => 0)
  let base := match x.active with | some l => l.base | none => 0
  let ct := match x.armed with | some (t, _) => t / gNs | none => 0
  let d := wr64 (wr d (Reg.QUE_GL_BASE_NS o) (base % 1000000000)) (Reg.QUE_GL_BASE_SEC_LO o) (Reg.QUE_GL_BASE_SEC_HI o)
    (base / 1000000000)
  wr64 (wr d (Reg.QUE_GL_CHG_NS o) (ct % 1000000000)) (Reg.QUE_GL_CHG_SEC_LO o) (Reg.QUE_GL_CHG_SEC_HI o) (ct / 1000000000)

/-- An armed change takes effect (R175). -/
def gateSwap (d : Device) (o : Nat) : Device :=
  match (outOf d o).armed with
  | none => d
  | some (t, dis) =>
    if gNow d o < t then d
    else
      let d := modOut d o (fun x =>
        { x with
          active := if dis then none
            else match x.pend with
              | some p => some ⟨p.base, p.cycle, p.written.filterMap Prod.snd⟩
              | none => none,
          pend := none, armed := none })
      event (gateStatus d o) (Reg.QUE_EVENT o) 0

end Sys2Proof.Machine
end

