-- ==== Sys2Proof/Machine/CmdOps.lean ====
section
/-! DEFINITION. Commands in flight: completion, replies and their delivery by transport (R464 to R467, R470 to R474, R482,
R486 to R489), and MSI-X messages (R519). -/

namespace Sys2Proof.Machine

/-! ### MSI-X (R482, R519) -/

/-- Send a vector's message, or note it pending while the vector is masked. -/
def sendMsix (d : Device) (v : Nat) : Device :=
  if bit d.bus.msixMask v then modBus d (fun b => { b with msixPend := Nat.lor b.msixPend (2 ^ v) }) else emit d (.msix v)

/-! ### Commands in flight (R471) -/

def isRing (k : Nat) : Origin → Bool
  | .ring j => j == k
  | _ => false
def isSpi : Origin → Bool
  | .spi => true
  | _ => false
def isInband : Origin → Bool
  | .inband _ _ => true
  | _ => false
def isFirmware : Origin → Bool
  | .firmware => true
  | _ => false

/-- The command with an acceptance number. -/
def inflightOf (d : Device) (seq : Nat) : Option InFlight := d.cmd.inflight.find? (fun c => c.seq == seq)

/-- Replace the command with an acceptance number. -/
def modInflight (d : Device) (seq : Nat) (f : InFlight → InFlight) : Device :=
  modCmd d (fun t => { t with inflight := t.inflight.map (fun c => if c.seq = seq then f c else c) })

/-- The command leaves the list: its slot is free (R471). -/
def dropInflight (d : Device) (seq : Nat) : Device :=
  modCmd d (fun t => { t with inflight := t.inflight.filter (fun c => c.seq != seq) })

/-- How many commands in flight satisfy a test. -/
def countInflight (d : Device) (p : InFlight → Bool) : Nat := (d.cmd.inflight.filter p).length

/-- FENCE_BEFORE in effect: FENCE's always, ABORT's never (R475, R477). -/
def fencesBefore (c : InFlight) : Bool := c.opcode == 0x0111 || (c.pkt.fenceBefore && c.opcode != 0x0110)
/-- FENCE_AFTER in effect (R475, R477). -/
def fencesAfter (c : InFlight) : Bool := c.opcode == 0x0111 || (c.pkt.fenceAfter && c.opcode != 0x0110)

/-! ### Replies (R464 to R467) -/

/-- The words of a command's reply: header and parameters. -/
def replyWords (c : InFlight) : List Word :=
  [w32 (c.opcode + 2 ^ 16 * c.pkt.tag.toNat),
   w32 (8 + 16 * c.pkt.part.toNat + 2 ^ 16 * c.pkt.target.toNat),
   w32 (c.reply.length + 2 ^ 16 * c.status), c.pkt.cookie] ++ c.reply

/-- A reply frame: addresses, tags, EtherType, packet, padding to 64 bytes, FCS (R488). -/
def replyFrame (da sa : Nat) (vlans : List Word) (ws : List Word) : List Byte :=
  let b := beBytes 6 da ++ beBytes 6 sa ++ (vlans.map (fun v => beBytes 4 v.toNat)).flatten ++ beBytes 2 0x88B5 ++ bytesOf ws
  let b := b ++ List.replicate (60 - b.length) 0
  b ++ fcsBytes b

/-- A frame the device itself queues from the CPU source to one output, outside any VLAN (R488, R126). -/
def cpuFrame (d : Device) (o tc : Nat) (bytes : List Byte) : Device :=
  sendFrame d
    { bytes := bytes,
      tag := { src := 40, tc := tc, dest := o, len := bytes.length, arrTick := tickcnt d },
      cells := [], copies := 0, dests := [], mcast := false, recov := 0, rtag := none, gen := false, sender := none,
      noVlan := true } [o]

/-- MAC address of a port. -/
def portMac (d : Device) (p : Nat) : Nat := rd d (Reg.PORT_MAC_LO p) + 2 ^ 32 * fld d (Reg.PORT_MAC_HI p) 15 0

/-! ### Completion rings (R480 to R482) -/

/-- Put a byte string into the completion ring k from a byte offset, past the end onto the start. -/
def ringPut (d : Device) (k off : Nat) (b : List Byte) : Device :=
  modCmd d (fun t =>
    { t with bar2 := (b.zip (List.range b.length)).foldl (fun m x =>
        tset (fun _ => (0 : Byte)) m (0x20000 * k + 0x10000 + (off + x.2) % 65536) x.1) t.bar2 })

/-- Bytes of a packet on a ring: rounded up to a multiple of 16 (R481). -/
def packetSize (words : Nat) : Nat := (4 * words + 15) / 16 * 16

/-- Bytes in use in completion ring k. -/
def cqUsed (d : Device) (k : Nat) : Nat :=
  (fld d (Reg.CMD_CQ_TAIL k) 15 0 + 65536 - fld d (Reg.CMD_CQ_HEAD k) 15 0) % 65536

/-- One more unsignalled reply of ring k: signal when COAL_CNT is reached, or always with COAL_US = 0 (R482). -/
def coalesce (d : Device) (k : Nat) : Device :=
  let u := tget (fun _ => (0, 0)) d.cmd.unsig k
  let n := u.1 + 1
  let t0 := if u.1 = 0 then d.now else u.2
  if n ≥ fld d (Reg.CMD_RING_CTL k) 23 16 || fld d (Reg.CMD_RING_CTL k) 31 24 = 0 then
    sendMsix (modCmd d (fun t => { t with unsig := tset (fun _ => (0, 0)) t.unsig k (0, 0) })) (fld d (Reg.CMD_RING_CTL k) 13 8)
  else modCmd d (fun t => { t with unsig := tset (fun _ => (0, 0)) t.unsig k (n, t0) })

/-- The completed command of ring k whose reply is next. -/
def nextReply (d : Device) (p : Origin → Bool) : Option InFlight :=
  d.cmd.inflight.foldl (fun (b : Option InFlight) c =>
    if c.stage == .done && p c.origin then
      match b with
      | some x => if c.done_ < x.done_ then some c else b
      | none => some c
    else b) none

/-- Write waiting replies to completion ring k while they fit, at most n (R482). -/
def deliverRing (k : Nat) : Nat → Device → Device
  | 0, d => d
  | n + 1, d =>
    match nextReply d (isRing k) with
    | none => d
    | some c =>
      let ws := replyWords c
      let size := packetSize ws.length
      if cqUsed d k + size > 65520 then d
      else
        let tail := fld d (Reg.CMD_CQ_TAIL k) 15 0
        let d := ringPut d k tail (bytesOf ws)
        let d := wr d (Reg.CMD_CQ_TAIL k) ((tail + size) % 65536)
        deliverRing k n (coalesce (dropInflight d c.seq) k)

/-- Deliver a completed command's reply by its transport (R471), or discard it (R451, R483). -/
def deliver (d : Device) (c : InFlight) : Device :=
  if c.quiet then dropInflight d c.seq
  else
  match c.origin with
  | .ring k => deliverRing k 513 d
  | .spi => d
  | .inband p m =>
    cpuFrame (dropInflight d c.seq) p (fld d Reg.CMD_CFG 7 4)
      (replyFrame m.toNat (portMac d p) c.vlans (replyWords c))
  | .brely => cpuFrame (dropInflight d c.seq) 41 6 (replyFrame 0 0 [] (replyWords c))
  | .applet _ => emit (dropInflight d c.seq) (.reply c.origin (replyWords c))
  | .firmware => emit (dropInflight d c.seq) (.reply c.origin (replyWords c))

/-! ### Completion (R472, R474, R503) -/

/-- What a completed command leaves for later CHAIN commands of its origin; what no later one can ask for goes (R474). -/
def chainNote (t : Trobuic) (c : InFlight) (status : Nat) : Trobuic :=
  let l := t.chain ++ [(c.origin, c.seq, status, fencesBefore c || fencesAfter c)]
  let wait : Nat := t.inflight.foldl (fun (m : Nat) x =>
    if x.origin == c.origin && x.stage != .done && x.seq != c.seq then min m x.seq else m) t.nextSeq
  let last : Nat := l.foldl (fun (m : Nat) x =>
    if x.1 == c.origin && x.2.2.2 && decide (x.2.1 < wait) then max m x.2.1 else m) 0
  { t with chain := l.filter (fun x => decide (x.1 ≠ c.origin) || decide (last ≤ x.2.1)) }

/-- A chain-breaking command exists for a command of an origin (R474): one at or after the origin's most recent earlier command
with a fence, completed with a status other than OK (log 26). -/
def chainBroken (d : Device) (c : InFlight) : Bool :=
  let e : Nat := d.cmd.inflight.foldl (fun (m : Nat) x =>
    if x.origin == c.origin && decide (x.seq < c.seq) && (fencesBefore x || fencesAfter x) && x.stage != .done then max m x.seq else m) 0
  let last : Nat := d.cmd.chain.foldl (fun (m : Nat) x =>
    if x.1 == c.origin && x.2.2.2 && decide (x.2.1 < c.seq) then max m x.2.1 else m) e
  d.cmd.chain.any (fun x => x.1 == c.origin && decide (last ≤ x.2.1) && decide (x.2.1 < c.seq) && x.2.2.1 != 0)

/-- A command completes with a status and its reply's parameter words: OK with the words of its table, any other status with
DETAIL (R466, R467). -/
def complete (d : Device) (seq status : Nat) (reply : List Word) : Device :=
  match inflightOf d seq with
  | none => d
  | some c =>
    if c.stage = .done then d
    else
      let d := bump d (Reg.CMD_CNT (if status = 0 then 1 else 2))
      let d := if status = 1 then bump d (Reg.CMD_CNT 3) else d
      let d := modCmd d (fun t => chainNote t c status)
      let n := d.cmd.nextDone
      let d := modCmd d (fun t => { t with nextDone := n + 1 })
      let c := { c with stage := .done, status := status, reply := reply, done_ := n }
      deliver (modInflight d seq (fun _ => c)) c

/-- Statuses of R479. -/
def stOk : Nat := 0x0000
def stAborted : Nat := 0x0001
def stBusy : Nat := 0x0002
def stOwned : Nat := 0x0003
def stBadParam : Nat := 0x0004
def stNotDisabled : Nat := 0x0005
def stSealed : Nat := 0x0006
def stTimeout : Nat := 0x0007
def stFenced : Nat := 0x0008
def stNoResource : Nat := 0x0009
def stDenied : Nat := 0x000A

/-- Complete with OK and reply words. -/
def okWith (d : Device) (c : InFlight) (ws : List Word) : Device := complete d c.seq stOk ws
/-- Complete with OK and no reply words. -/
def ok (d : Device) (c : InFlight) : Device := okWith d c []
/-- Complete with another status and DETAIL 0. -/
def fail (d : Device) (c : InFlight) (status : Nat) : Device := complete d c.seq status [0]
/-- BAD_PARAM naming a parameter word (R467). -/
def bad (d : Device) (c : InFlight) (k : Nat) : Device := complete d c.seq stBadParam [w32 k]
/-- BAD_PARAM with the header at fault (R467). -/
def badHeader (d : Device) (c : InFlight) : Device := complete d c.seq stBadParam [0xFFF]
/-- REFUSED_OWNED naming the owner's class and ID and the unit held (R467, R408). -/
def owned (d : Device) (c : InFlight) (cls id unit : Nat) : Device :=
  complete d c.seq stOwned [w32 (cls + 16 * id + 2 ^ 16 * unit)]
/-- The command goes on in work; what its work needs is kept with it (R472). -/
def toWork (d : Device) (c : InFlight) (aux : List Int) : Device :=
  modInflight d c.seq (fun c => { c with stage := .work, aux := aux })

/-- A parameter word as a number; 0 where the packet has none. -/
def pw (c : InFlight) (k : Nat) : Nat := (c.pkt.words.getD k 0).toNat
/-- Bits of a parameter word. -/
def pf (c : InFlight) (k hi lo : Nat) : Nat := bits (pw c k) hi lo
/-- A bit of a parameter word. -/
def pb (c : InFlight) (k b : Nat) : Bool := bit (pw c k) b
/-- A 64-bit value in two parameter words. -/
def pw64 (c : InFlight) (k : Nat) : Nat := pw c k + 2 ^ 32 * pw c (k + 1)
/-- Number of parameter words. -/
def plen (c : InFlight) : Nat := c.pkt.words.length
/-- TARGET as a number. -/
def tgt (c : InFlight) : Nat := c.pkt.target.toNat

/-- The commands in work with an opcode, in commit order. -/
def working (d : Device) (opcode : Nat) : List InFlight :=
  d.cmd.inflight.filter (fun c => c.stage == .work && c.opcode == opcode)

/-- The victim of waiting ABORTs has completed with a status: they reply FOUND with it (R477). -/
def abortWaiters (d : Device) (seq status : Nat) : Device :=
  each ((working d 0x0110).filter (fun a => a.aux == [(seq : Int)])) d (fun d a => okWith d a [w32 (1 + 2 ^ 16 * status)])

/-! ### Owners (R408, R490) -/

/-- Owner class and ID of an origin: applet with its engine's number, else host general (R408, R490). -/
def ownerOf : Origin → Nat × Nat
  | .applet e => (5, e)
  | _ => (6, 0)

end Sys2Proof.Machine
end

