-- ==== Sys2Proof/Machine/OpsBank.lean ====
section
/-! DEFINITION. Buffer banks: their states, retirement and restoration, tests and rate windows (R155 to R158). -/

namespace Sys2Proof.Machine

/-- The bank of a target. -/
def bankOf (c : InFlight) : Nat := unitIdx (tgt c)

/-- Enter a bank state; a bank that leaves ACTIVE keeps no cause of a refused retirement present (R539). -/
def setBankSt (d : Device) (b st : Nat) : Device :=
  let was := bankSt d b
  let d := setFld d (Reg.CORE_BANK_STATE b) 2 0 st
  if was = 0 && st != 0 then condEnds (condEnds d 0x03 (uBank b) 0) 0x04 (uBank b) 0 else d

/-- The BANK_RESTORE in work on a bank. -/
def restoreOf (d : Device) (b : Nat) : Option InFlight := (working d 0x0C01).find? (fun c => bankOf c == b)

/-- A running test is aborted: RETIRED, and the pending BANK_RESTORE completes with ABORTED. -/
def testAbort (d : Device) (b : Nat) : Device :=
  match restoreOf d b with
  | some c => complete (setBankSt d b 2) c.seq stAborted [0]
  | none => setBankSt d b 2

/-- A retirement, by command or reaction: none where the floor of 8 banks refuses it (R156). RETIRING with no cells in use goes to
RETIRED by BANK_RETIRED. -/
def bankRetire (d : Device) (b : Nat) : Option Device :=
  match bankSt d b with
  | 0 => if activeBanks d ≤ 8 then none else some (setBankSt d b 1)
  | 3 => some (testAbort d b)
  | _ => some d

/-- BANK_RETIRE. -/
def opBankRetire (d : Device) (c : InFlight) : Device :=
  match bankRetire d (bankOf c) with
  | some d => ok d c
  | none => fail d c stNoResource

/-- BANK_RESTORE. -/
def opBankRestore (d : Device) (c : InFlight) : Device :=
  let b := bankOf c
  match bankSt d b with
  | 1 => ok (setBankSt d b 0) c
  | 2 => toWork (setBankSt d b 3) c []
  | 3 => fail d c stBusy
  | _ => ok d c

/-- ABORT of a BANK_RESTORE in work. -/
def abortBankRestore (d : Device) (c : InFlight) : Device :=
  let d := complete d c.seq stAborted [0]
  if bankSt d (bankOf c) = 3 then setBankSt d (bankOf c) 2 else d

/-- A retiring bank is empty: RETIRED. -/
def bankEmpty (d : Device) (b : Nat) : Device :=
  if bankSt d b = 1 && bankUsed d b == 0 then event (setBankSt d b 2) Reg.CORE_EVENT 5 else d

/-- A bank's test ends. -/
def bankTest (d : Device) (b : Nat) (pass : Bool) : Device :=
  if bankSt d b ≠ 3 then d
  else
    let c := restoreOf d b
    if pass then
      let d := setFlag (setFlag (setBankSt d b 0) (Reg.CORE_BANK_STATE b) 3 false) (Reg.CORE_BANK_STATE b) 4 false
      let d := condEnds (wr (wr d (Reg.CORE_BANK_CORR b) 0) (Reg.CORE_BANK_UNCORR b) 0) 0x02 (uBank b) 0
      let d := event d Reg.CORE_EVENT 6
      match c with | some c => ok d c | none => d
    else
      let d := event (setFlag (setBankSt d b 2) (Reg.CORE_BANK_STATE b) 3 true) Reg.CORE_EVENT 7
      match c with | some c => fail d c stNoResource | none => d

/-- A window of 1 s ends (R157). -/
def bankWindow (d : Device) (b : Nat) : Device :=
  let t := tget (fun _ => 0) d.core.bankWinAt b
  if d.dev < t + secTicks then d
  else
    modCore d (fun c =>
      { c with
        bankWin := tset (fun _ => 0) c.bankWin b 0,
        bankWinAt := tset (fun _ => 0) c.bankWinAt b (t + (d.dev - t) / secTicks * secTicks) })

end Sys2Proof.Machine
end

