-- ==== Sys2Proof/Machine/TrellisOps.lean ====
section
/-! DEFINITION. The Trellis of a side: candidates, selection, the loop, holdover and switching (R283 to R304). Time errors are
held in 2^-48 ns; TRLx_TE and TRLx_DELTA show them in 2^-16 ns. -/

namespace Sys2Proof.Machine

/-! ### Fields of a side and of its entries -/

/-- State number of R299. -/
def sideSt (d : Device) (x : Nat) : Nat := fld d (Reg.TRL_STATUS x) 2 0
/-- Selected and target entries (R308). -/
def selOf (d : Device) (x : Nat) : Nat := fld d (Reg.TRL_STATUS x) 7 4
def targetOf (d : Device) (x : Nat) : Nat := fld d (Reg.TRL_STATUS x) 11 8
/-- HOLD_QUAL (R297). -/
def holdQual (d : Device) (x : Nat) : Nat := fld d (Reg.TRL_STATUS x) 13 12
/-- The forced mode and entry (R303). -/
def forceMode (d : Device) (x : Nat) : Nat := fld d (Reg.TRL_CTL x) 5 4
def forceEntry (d : Device) (x : Nat) : Nat := fld d (Reg.TRL_CTL x) 11 8

/-- A field of word k of entry e (R293). -/
def cw (d : Device) (x e k hi lo : Nat) : Nat := fld d (Reg.TRL_CAND_W x e k) hi lo
def cValid (d : Device) (x e : Nat) : Bool := flag d (Reg.TRL_CAND_W x e 0) 0
def cType (d : Device) (x e : Nat) : Nat := cw d x e 0 3 1
def cIndex (d : Device) (x e : Nat) : Nat := cw d x e 0 9 4
def cPrio (d : Device) (x e : Nat) : Nat := cw d x e 0 15 12
/-- The entry carries time: TIME, and PTP always (R293). -/
def cTime (d : Device) (x e : Nat) : Bool := flag d (Reg.TRL_CAND_W x e 0) 17 || cType d x e == 1

def candOf (d : Device) (x e : Nat) : Cand := tget (fun _ => {}) (trlOf d x).cands e
def modCand (d : Device) (x e : Nat) (f : Cand → Cand) : Device :=
  modTrl d x (fun t => { t with cands := tmod (fun _ => {}) t.cands e f })
/-- State number of R288. -/
def candSt (d : Device) (x e : Nat) : Nat := fld d (Reg.TRL_CAND_STATUS x e) 2 0

/-- SOFT and HARD in 10^-15 (R293). -/
def softOf (d : Device) (x e : Nat) : Nat := cw d x e 1 19 0 * 1000000
def hardOf (d : Device) (x e : Nat) : Nat := cw d x e 2 19 0 * 1000000

/-- QUAL_TIME in ticks; 100 ms while QUALIFYING under FAST = 1 in FREERUN (R299). -/
def qualTicks (d : Device) (x e : Nat) : Nat :=
  if candSt d x e = 2 && flag d (Reg.TRL_CTL x) 0 && sideSt d x == 0 then 100 * msTicks else cw d x e 3 9 0 * secTicks

/-! ### The DCO word (R296) -/

/-- Write a side's DCO word; the synthesizer follows from the next reference cycle (R316). -/
def setDco (d : Device) (x : Nat) (v : Int) : Device :=
  let old := dcoWord d x
  let d := modTrl d x (fun t => { t with dcoSum := t.dcoSum + old * ((d.tick : Int) - t.dcoAt), dcoAt := d.tick })
  let d := wr48 d (Reg.TRL_DCO_LO x) (Reg.TRL_DCO_HI x) (unsigned 48 v)
  modClk d (fun c =>
    if x = 0 then { c with moveA := some (c.moveA.getD d.dev) } else { c with moveB := some (c.moveB.getD d.dev) })

/-- ±200 ppm in 10^-15. -/
def ppm200 : Int := 200000000000

/-- A value within ±b. -/
def clampTo (b v : Int) : Int := if v < -b then -b else if v > b then b else v

/-! ### The holdover line (R297, R298) -/

/-- L(t) at a tick, for the quality in force (R297): the DCO word, ȳ, or ȳ + A (t − t̄). -/
def lineAt (d : Device) (x : Nat) (t : Nat) : Q :=
  let r := trlOf d x
  match holdQual d x with
  | 0 => qOf (dcoWord d x)
  | 1 => r.lineY
  | _ => qAdd r.lineY (qMul r.lineA (qDiv (qSub (qOf t) r.lineT) (qOf (86400 * secTicks : Nat))))

/-- The line's value goes to the DCO word (R298). -/
def holdoverWrite (d : Device) (x : Nat) : Device :=
  let v := rq d (lineAt d x d.tick)
  let d := modTrl (nextFree d) x (fun t => { t with wroteAt := d.tick })
  if holdQual d x = 0 then d else setDco d x v

/-! ### States of a candidate (R288) -/

/-- Enter a candidate state with its events and counts; REASON is kept only in DISQUALIFIED. -/
def enterCand (d : Device) (x e st reason : Nat) : Device :=
  let c := candOf d x e
  let soft := decide (c.f.natAbs ≤ softOf d x e)
  let hard := decide (c.f.natAbs > hardOf d x e)
  let d := setFld (setFld d (Reg.TRL_CAND_STATUS x e) 2 0 st) (Reg.TRL_CAND_STATUS x e) 6 4 (if st = 5 then reason else 0)
  match st with
  | 1 => event (modCand d x e (fun c => { c with lapsed := true, softAt := none, hardAt := none })) (Reg.TRL_EVENT x) 7
  | 2 => modCand d x e (fun c => { c with softAt := if soft && c.te.isSome then some d.tick else none, hardAt := none })
  | 3 => event (modCand d x e (fun c => { c with lapsed := false })) (Reg.TRL_EVENT x) 6
  | 4 => event (modCand d x e (fun c => { c with softAt := none, hardAt := if hard then some d.tick else none }))
      (Reg.TRL_EVENT x) 4
  | 5 => bump (event (modCand d x e (fun c => { c with lapsed := true, winPassed := false })) (Reg.TRL_EVENT x) 5)
      (Reg.TRL_CNT x 4)
  | 6 => modCand d x e (fun c => { c with wtrAt := d.tick })
  | _ => d

/-- Disqualify where the state allows it (R289). -/
def disqualify (d : Device) (x e reason : Nat) : Device :=
  let st := candSt d x e
  if st = 2 || st = 3 || st = 4 || st = 6 then enterCand d x e 5 reason else d

/-- The qualification timer reached QUAL_TIME: RESTORING where it applies, else QUALIFIED (R288 row 2). -/
def qualify (d : Device) (x e : Nat) : Device :=
  if 0 < cw d x e 3 27 16 && (candOf d x e).lapsed then enterCand d x e 6 0 else enterCand d x e 3 0

/-- What a compared |f| changes at once (R288). -/
def compareF (d : Device) (x e : Nat) : Device :=
  let c := candOf d x e
  let soft := decide (c.f.natAbs ≤ softOf d x e)
  let hard := decide (c.f.natAbs > hardOf d x e)
  match candSt d x e with
  | 2 => modCand d x e (fun c => { c with softAt := if soft then (if c.softAt.isSome then c.softAt else some d.tick) else none })
  | 3 => if soft then d else enterCand d x e 4 0
  | 4 => modCand d x e (fun c =>
      { c with softAt := if soft then (if c.softAt.isSome then c.softAt else some d.tick) else none,
               hardAt := if hard then (if c.hardAt.isSome then c.hardAt else some d.tick) else none })
  | 5 =>
    if soft && (fld d (Reg.TRL_CAND_STATUS x e) 6 4 != 2 || c.winPassed) then enterCand d x e 2 0 else d
  | 6 => if soft then d else enterCand d x e 2 0
  | _ => d

/-! ### The slow-drift monitor (R290) -/

/-- Whether the monitor runs on an entry. -/
def driftRuns (d : Device) (x e : Nat) : Bool :=
  holdQual d x == 2 && (candOf d x e).present && cw d x e 5 31 16 != 0

/-- Append the samples y = f − L(t) due in a number of seconds. -/
def driftSamples (d : Device) (x e : Nat) : Nat → Device
  | 0 => d
  | n + 1 =>
    let c := candOf d x e
    let t := c.winAt + (c.ys.length + 1) * secTicks
    let y := c.f - rq d (lineAt d x t)
    driftSamples (modCand (nextFree d) x e (fun c => { c with ys := y :: c.ys })) x e n

/-- Bring the samples of the running window up to the present tick; a monitor that does not run starts over. -/
def driftCatch (d : Device) (x e : Nat) : Device :=
  let c := candOf d x e
  if driftRuns d x e then
    driftSamples d x e (min ((d.tick - c.winAt) / secTicks) (cw d x e 5 9 0) - c.ys.length)
  else modCand d x e (fun c => { c with ys := [], winAt := d.tick, isOver := false })

/-- Least-squares slope of values taken one second apart, newest first, per second (R290). -/
def slopeOf (ys : List Int) : Q :=
  let n : Int := ys.length
  let pts := ys.reverse.zip (List.range ys.length)
  let sx := pts.foldl (fun a p => a + (p.2 : Int)) 0
  let sy := pts.foldl (fun a p => a + p.1) 0
  let sxy := pts.foldl (fun a p => a + p.1 * (p.2 : Int)) 0
  let sxx := pts.foldl (fun (a : Int) p => a + (p.2 : Int) * p.2) 0
  frac (n * sxy - sx * sy) (n * sxx - sx * sx)

/-! ### Selection (R291, R292, R303) -/

/-- Some other candidate than e is QUALIFIED or WATCHED. -/
def anyFirm (d : Device) (x : Nat) : Bool := (upTo 16).any (fun e => candSt d x e == 3 || candSt d x e == 4)

/-- Selectable (R291); under FORCE mode 1 only the forced entry, and only QUALIFIED or WATCHED (R303); under mode 2 none. -/
def selectable (d : Device) (x e : Nat) : Bool :=
  let firm := candSt d x e == 3 || candSt d x e == 4
  match forceMode d x with
  | 1 => e == forceEntry d x && firm
  | 2 => false
  | _ => firm || (candSt d x e == 6 && !anyFirm d x)

/-- Entry a is better than entry b (R291). -/
def better (d : Device) (x a b : Nat) : Bool :=
  decide (cPrio d x a < cPrio d x b) || (cPrio d x a == cPrio d x b && decide (a < b))

/-- The best selectable entry. -/
def bestOf (d : Device) (x : Nat) : Option Nat :=
  (upTo 16).foldl (fun b e =>
    if selectable d x e then
      match b with
      | none => some e
      | some k => if better d x e k then some e else b
    else b) none

/-- A better entry that a revertive switch goes to (R292). -/
def revertTo (d : Device) (x : Nat) : Option Nat :=
  match bestOf d x with
  | some e =>
    if (upTo 16).any (fun k => selectable d x k && candSt d x k == 3 && flag d (Reg.TRL_CAND_W x k 0) 16
        && better d x k (selOf d x)) then some e else none
  | none => none

/-! ### States of a side (R299) -/

/-- Enter a side state; BRIDGE, HOLDOFF and HOLDOVER write the line's value (R298). -/
def enterSide (d : Device) (x st : Nat) : Device :=
  let d := setFld d (Reg.TRL_STATUS x) 2 0 st
  let d := modTrl d x (fun t => { t with enteredAt := d.tick })
  let d := if st = 2 || st = 3 || st = 5 then holdoverWrite d x else d
  match st with
  | 3 => bump (event d (Reg.TRL_EVENT x) 0) (Reg.TRL_CNT x 0)
  | 5 => bump (event d (Reg.TRL_EVENT x) 3) (Reg.TRL_CNT x 3)
  | _ => d

/-- A switch starts, or finds another target: BRIDGE towards e (R299). -/
def toBridge (d : Device) (x e cause : Nat) : Device :=
  let d := setFld d (Reg.TRL_STATUS x) 11 8 e
  enterSide (modTrl d x (fun t => { t with acqAt := none, cause := cause })) x 3

/-- HOLDOVER; under FORCE mode 1 the forced entry is lost (R303). -/
def toHoldover (d : Device) (x : Nat) : Device :=
  let d := modTrl d x (fun t => { t with acqAt := none })
  let d := eventIf (forceMode d x == 1) d (Reg.TRL_EVENT x) 10
  enterSide d x 5

/-- ACQUIRE on entry e: Δ = TE, I and the DCO word take f within ±200 ppm (R299, R300). -/
def toAcquire (d : Device) (x e : Nat) : Device :=
  let c := candOf d x e
  let f := clampTo ppm200 c.f
  let d := setFld (setFld d (Reg.TRL_STATUS x) 11 8 e) (Reg.TRL_STATUS x) 2 0 4
  let d := modTrl d x (fun t =>
    { t with enteredAt := d.tick, acqAt := some (t.acqAt.getD d.tick), delta := c.te.getD 0, integ := f * 1000000000,
             good := 1, goodFrom := d.tick, bw := none })
  setDco d x f

/-- A retarget (R299 row 4 (a)). -/
def retarget (d : Device) (x e : Nat) : Device :=
  toAcquire (bump (event d (Reg.TRL_EVENT x) 1) (Reg.TRL_CNT x 1)) x e

/-- The commit of R300 and R301: a time-carrying target moves its side's TB0 by −Δ; a standby side's change is overwritten
by R563 in the same tick, and its Δ is 0. -/
def commit (d : Device) (x : Nat) : Device :=
  let e := targetOf d x
  let r := trlOf d x
  let time := cTime d x e
  let chg : Int := if time then -r.delta else 0
  let slope := flag d (Reg.TRL_CTL x) 1
  let big := decide (r.delta.natAbs > 2 * secUnit)
  let rate := fld d (Reg.TRL_SLOPE x) 18 0
  let d := bump (event d (Reg.TRL_EVENT x) 2) (Reg.TRL_CNT x 2)
  let d := wr64 d (Reg.TRL_LAST_STEP_LO x) (Reg.TRL_LAST_STEP_HI x) (unsigned 64 (chg / (2 ^ 32 : Nat)))
  let d := setFld (setFld (setFld d (Reg.TRL_LAST_SW x) 3 0 (selOf d x)) (Reg.TRL_LAST_SW x) 7 4 e)
    (Reg.TRL_LAST_SW x) 10 8 r.cause
  let d := setFld (setFld d (Reg.TRL_STATUS x) 7 4 e) (Reg.TRL_STATUS x) 2 0 1
  let d := modTrl d x (fun t =>
    { t with enteredAt := d.tick, acqAt := none,
             bw := if flag d (Reg.TRL_CTL x) 0 then some (fld d (Reg.TRL_ACQ_BW x) 19 0 * 65536, d.tick) else none })
  if !time then d
  else if x != activeSide d then modTrl d x (fun t => { t with delta := 0 })
  else
    let d := setFlag d Reg.TB_STATUS 8 false
    if chg = 0 then d
    else if slope && !big then
      setFlag (modTb d x 0 (fun t =>
        { t with slewPend := some ((match t.slewPend with | some (o, _) => o | none => 0) + chg, rate) })) (Reg.TRL_STATUS x) 14 true
    else
      eventIf (slope && big) (modTb d x 0 (fun t => { t with stepPend := t.stepPend + chg, stepDue := t.stepDue + 1 }))
        (Reg.TRL_EVENT x) 9

/-- |e| has stayed within LOCK_THR over COMMIT_TIME and 16 measurements (R299 row 4 (b)). -/
def lockHeld (d : Device) (x : Nat) : Bool :=
  let r := trlOf d x
  decide (16 ≤ r.good) && decide (r.goodFrom + fld d (Reg.TRL_COMMIT x) 31 16 * msTicks ≤ d.tick)

/-- The transitions that a loop update evaluates (R291, R292, R299, R303). -/
def sideUpdate (d : Device) (x : Nat) : Device :=
  match sideSt d x with
  | 0 =>
    match bestOf d x with
    | some e => toAcquire (modTrl d x (fun t => { t with cause := if forceMode d x = 1 then 3 else 5 })) x e
    | none => d
  | 1 =>
    if selectable d x (selOf d x) then
      if forceMode d x = 1 then d
      else
        match revertTo d x with
        | some e => toBridge d x e 2
        | none => d
    else
      match bestOf d x with
      | some e => toBridge d x e (if forceMode d x = 1 then 3 else 1)
      | none => toHoldover d x
  | 3 =>
    if selectable d x (targetOf d x) then
      let r := trlOf d x
      let c := candOf d x (targetOf d x)
      if c.te.isSome && decide (r.enteredAt + msTicks ≤ c.teAt) then toAcquire d x (targetOf d x) else d
    else
      match bestOf d x with
      | some e => toBridge d x e (trlOf d x).cause
      | none => toHoldover d x
  | 4 =>
    match bestOf d x with
    | none => toHoldover d x
    | some e =>
      if e != targetOf d x then retarget d x e
      else if lockHeld d x then commit d x
      else d
  | 5 =>
    match bestOf d x with
    | some e => toBridge d x e (if forceMode d x = 1 then 3 else 5)
    | none => d
  | _ => d

/-! ### The loop (R294, R295) -/

/-- T_m of an entry in ticks (R283). -/
def measTicks (d : Device) (x e : Nat) : Nat :=
  match cType d x e with
  | 0 => 8 * 2 ^ (10 + fld d (Reg.LANE_PH_CFG (cIndex d x e)) 3 0)
  | 1 => (candOf d x e).interval
  | 2 =>
    let freq := cw d x e 6 29 0
    max (secTicks / 2048) ((freq + 9999999) / 10000000 * secTicks / max freq 1)
  | _ => secTicks / 16

/-- The 2/B second steps of the bandwidth after a FAST commit: B halves until it reaches BW (R295). -/
def bwRun (lo tick : Nat) : Nat → Nat × Nat → Option (Nat × Nat)
  | 0, p => some p
  | n + 1, (b, at_) =>
    if b ≤ lo then none
    else
      let len := 2 * secTicks * 10000 * 65536 / max b 1
      if at_ + len ≤ tick then bwRun lo tick n (b / 2, at_ + len) else some (b, at_)

/-- B in 0.1 mHz × 2^-16 (R295). -/
def bandNow (d : Device) (x : Nat) : Nat :=
  let lo := fld d (Reg.TRL_LOOP x) 19 0 * 65536
  if sideSt d x == 4 && flag d (Reg.TRL_CTL x) 0 then fld d (Reg.TRL_ACQ_BW x) 19 0 * 65536
  else
    match (trlOf d x).bw with
    | some (b, _) => max b lo
    | none => lo

/-- BWe in 10^-12 Hz for entry e (R295). -/
def bandEff (d : Device) (x e : Nat) : Nat :=
  min (min (bandNow d x * 100000000 / 65536) (1000000000000 * secTicks / (20 * max (measTicks d x e) 1))) 100000000000000

/-- The natural frequency in 10^-12 rad/s (R294). -/
def wnOf (zeta bwe : Nat) : Nat :=
  let a := 1000000 + 2 * zeta * zeta
  let s := a * 1000000 + isqrt ((a * a + 1000000000000) * 1000000000000)
  2 * 3141592653589793238 * bwe / 1000000 / max (isqrt (s * 1000000000000)) 1

/-- ζ × 1,000 by DAMP (R294). -/
def zetaOf (k : Nat) : Nat :=
  match k with
  | 0 => 707
  | 1 => 1000
  | 2 => 2000
  | _ => 4500

/-- One run of the loop on entry e with its newest TE (R294). The integrator is kept to 10^-24 and the word's last unit is a
free rounding (log 15). -/
def loopRun (d : Device) (x e : Nat) : Device :=
  let r := trlOf d x
  let c := candOf d x e
  match c.te with
  | none => d
  | some te =>
    let err := te - r.delta
    let z := zetaOf (fld d (Reg.TRL_LOOP x) 21 20)
    let wn : Int := wnOf z (bandEff d x e)
    let lim : Int := 200000000000000000000
    let i := r.integ - wn * wn * err / (1000000000 * 2 ^ 59 : Nat)
    let y := i - 2 * z * wn * err / (2 ^ 48 : Nat)
    let hit := decide (y < -lim) || decide (y > lim)
    let i := if hit then clampTo lim i else i
    let v := rdiv d (clampTo lim y) 1000000000
    let d := modTrl (nextFree d) x (fun t => { t with integ := i })
    let d := wr64 d (Reg.TRL_TE_LO x) (Reg.TRL_TE_HI x) (unsigned 64 (te / (2 ^ 32 : Nat)))
    setDco (eventIf hit d (Reg.TRL_EVENT x) 8) x v

/-- The number of the loop update that the present tick lies in (R294: 2,048 a second). -/
def loopNow (d : Device) : Nat := d.tick * 2048 / secTicks

/-- One loop update of a side (R294). -/
def loopUpdate (d : Device) (x : Nat) : Device :=
  let d := modTrl d x (fun t =>
    { t with loopIdx := loopNow d,
             bw := match t.bw with
               | some p => bwRun (fld d (Reg.TRL_LOOP x) 19 0 * 65536) d.tick 40 p
               | none => none })
  let d := sideUpdate d x
  let e := if sideSt d x = 1 then selOf d x else targetOf d x
  let run := (sideSt d x == 1 || sideSt d x == 4) && (candOf d x e).fresh
  let d := if run then loopRun d x e else d
  modTrl d x (fun t => { t with cands := tmap (fun _ => {}) (fun c => { c with fresh := false }) t.cands })

/-! ### Measurements (R284, R285, R289) -/

/-- How TE moves in dt ticks for a candidate at f on a tick at w: −(f − w) × 10^-15 of the time, in 2^-48 ns. -/
def teDrift (f w : Int) (dt : Nat) : Int := -((f - w) * dt * 4 * (2 ^ 48 : Nat)) / 5000000000000000

/-- ψ in 2^-48 ns for a side: the referral of a standby side's phases (R251, R562). -/
def psiTe (d : Device) (x : Nat) : Int :=
  if x = activeSide d then 0 else d.red.psi * 4 * (2 ^ 48 : Nat) / 5000000000000000

/-- A measurement of entry e of side x: its TE on the active tick and its f. -/
def measured (d : Device) (x e : Nat) (te f : Int) : Device :=
  let d := driftCatch d x e
  let c := candOf d x e
  let te := te + psiTe d x
  let hit :=
    match c.te with
    | some old =>
      (cTime d x e || cType d x e == 0)
        && decide ((te - old - teDrift f (dcoWord d x) (d.tick - c.teAt)).natAbs > cw d x e 4 31 16 * nsUnit)
    | none => false
  let d := modCand d x e (fun c => { c with te := some te, teAt := d.tick, f := f, fresh := true })
  let d := wr48 d (Reg.TRL_CAND_FOFF_LO x e) (Reg.TRL_CAND_FOFF_HI x e) (unsigned 48 f)
  let d := if sideSt d x = 4 && targetOf d x = e then
      let ok := decide ((te - (trlOf d x).delta).natAbs * 1000 ≤ fld d (Reg.TRL_COMMIT x) 15 0 * nsUnit)
      modTrl d x (fun t => if ok then { t with good := t.good + 1 } else { t with good := 0, goodFrom := d.tick })
    else d
  if hit then disqualify d x e 3 else compareF d x e

/-! ### Presence (R283, R288) -/

/-- L1Sync of a port does not stand in the way: L1_EN clear, or L1_SYNC_UP (R283). -/
def l1Lets (d : Device) (p : Nat) : Bool := !flag d (Reg.PORT_L1_CFG p) 0 || fld d (Reg.PORT_L1_STATUS p) 2 0 == 4

/-- An arrival within the last n ticks. -/
def within (d : Device) (at_ : Option Nat) (n : Nat) : Bool :=
  match at_ with
  | some t => decide (d.now ≤ t + n)
  | none => false

/-- Three nominal periods of REFINk in ticks (R283). -/
def refinGap (d : Device) (x e : Nat) : Nat :=
  let freq := max (cw d x e 6 29 0) 1
  3 * ((freq + 9999999) / 10000000) * secTicks / freq + 1

/-- The Brely path is good: either lane is (R569). -/
def brelyGood (d : Device) : Bool := d.red.brelyGood.any id

/-- Whether presence of an entry holds (R283, R576); with timed false, what no passing of time alone can end. -/
def presentNow (d : Device) (timed : Bool) (x e : Nat) : Bool :=
  let p := cIndex d x e
  let c := candOf d x e
  let offs := c.seenAt.isSome && (!timed || within d c.seenAt (8 * secTicks)) && l1Lets d p
  !c.barred &&
  match cType d x e with
  | 0 => flag d (Reg.PORT_STATUS p) 12 && (!cTime d x e || offs)
  | 1 => fld d (Reg.PORT_STATUS p) 2 0 == 2 && offs
  | 2 => c.seenAt.isSome && (!timed || within d c.seenAt (refinGap d x e))
  | _ => brelyGood d && (match d.red.partnerMsg with | some m => bits m 10 8 == 3 | none => false)
      && c.seenAt.isSome && (!timed || within d c.seenAt (10 * msTicks))

/-- Presence lost: HOLDOFF keeps the selected candidate of a LOCKED side; else ABSENT at once (R288, R299 row 1 (a)). -/
def loseCand (d : Device) (x e : Nat) : Device :=
  let d := modCand d x e (fun c => { c with present := false })
  if sideSt d x = 1 && selOf d x = e && 0 < cw d x e 4 13 0 then enterSide d x 2
  else if sideSt d x = 2 && selOf d x = e then d
  else if candSt d x e = 0 || candSt d x e = 1 then d
  else enterCand d x e 1 0

/-- Presence gained: QUALIFYING from ABSENT; a side in HOLDOFF on it returns to LOCKED (R288, R299 row 2 (a)). -/
def gainCand (d : Device) (x e : Nat) : Device :=
  let d := modCand d x e (fun c => { c with present := true, winAt := d.tick, ys := [] })
  if sideSt d x = 2 && selOf d x = e && candSt d x e != 1 then modTrl (setFld d (Reg.TRL_STATUS x) 2 0 1) x (fun t => { t with enteredAt := d.tick })
  else if candSt d x e = 1 then enterCand d x e 2 0
  else d

/-- Bring the presence of an entry up to date. -/
def presenceOf (d : Device) (timed : Bool) (x e : Nat) : Device :=
  if !cValid d x e then d
  else if (candOf d x e).present then (if presentNow d timed x e then d else loseCand d x e)
  else if presentNow d true x e then gainCand d x e
  else d

/-- Every entry of both sides, without time-outs, which have a row of their own. -/
def presenceAll (d : Device) : Device :=
  each (upTo 2) d (fun d x => each (upTo 16) d (fun d e => presenceOf d false x e))

/-- A port's PTP offsets count no longer: L1Sync left L1_SYNC_UP (R283). -/
def forgetOffsets (d : Device) (p : Nat) : Device :=
  each (upTo 2) d (fun d x => each (upTo 16) d (fun d e =>
    if cValid d x e && cIndex d x e == p && (cType d x e == 1 || (cType d x e == 0 && cTime d x e)) then
      modCand d x e (fun c => { c with seenAt := none })
    else d))

/-- The port is the selected timing reference of a side (R74): a LANE or PTP entry in LOCKED or HOLDOFF. -/
def refSelected (d : Device) (p : Nat) : Bool :=
  (upTo 2).any (fun x => (sideSt d x == 1 || sideSt d x == 2) && decide (cType d x (selOf d x) ≤ 1)
    && cIndex d x (selOf d x) == p)

/-! ### The model (R297) -/

/-- Refit ȳ, t̄ and A over the samples, A held within ±AGE_MAX. -/
def refit (d : Device) (x : Nat) : Device :=
  let s := (trlOf d x).samples
  let n : Int := s.length
  if s.isEmpty then d
  else
    let st := s.foldl (fun a p => a + (p.1 : Int)) 0
    let sy := s.foldl (fun a p => a + p.2) 0
    let sty := s.foldl (fun (a : Int) p => a + (p.1 : Int) * p.2) 0
    let stt := s.foldl (fun (a : Int) p => a + (p.1 : Int) * p.1) 0
    let a := qMul (frac (n * sty - st * sy) (n * stt - st * st)) (qOf (86400 * secTicks : Nat))
    let lim := qOf (fld d (Reg.TRL_MODEL x) 31 17 : Nat)
    let a := if qLt lim a then lim else if qLt a (qNeg lim) then qNeg lim else a
    let d := modTrl d x (fun t => { t with lineY := frac sy n, lineT := frac st n, lineA := a })
    let d := wr48 d (Reg.TRL_MODEL_Y_LO x) (Reg.TRL_MODEL_Y_HI x) (unsigned 48 (rq d (frac sy n)))
    nextFree (wr d (Reg.TRL_MODEL_A x) (unsigned 32 (rq d a)))

/-- HOLD_QUAL from the number of samples (R297); MODEL_VALID where it reaches 2. -/
def holdQualNow (d : Device) (x : Nat) : Device :=
  let n := (trlOf d x).samples.length
  let q := if n = 0 then min (holdQual d x) 1 else if n < fld d (Reg.TRL_MODEL_MIN x) 15 0 then 1 else 2
  let d := eventIf (q == 2 && holdQual d x != 2) d (Reg.TRL_EVENT x) 11
  setFld d (Reg.TRL_STATUS x) 13 12 q

/-- The second ends: a sample in LOCKED on a QUALIFIED candidate, none otherwise. -/
def modelSecond (d : Device) (x : Nat) : Device :=
  let d := each (upTo 16) d (fun d e => if cValid d x e then driftCatch d x e else d)
  let r := trlOf d x
  let mean := rdiv d (r.dcoSum + dcoWord d x * ((d.tick : Int) - r.dcoAt)) (max (d.tick - r.secAt) 1)
  let take_ := sideSt d x == 1 && candSt d x (selOf d x) == 3
  let d := modTrl (nextFree d) x (fun t =>
    { t with dcoSum := 0, dcoAt := d.tick, secAt := d.tick,
             samples := if take_ then ((d.tick, mean) :: t.samples).take (fld d (Reg.TRL_MODEL x) 16 0) else t.samples })
  if take_ then refit (holdQualNow d x) x else d

/-- A write of MODEL_WIN restarts the sums (R307). -/
def modelRestart (d : Device) (x : Nat) : Device :=
  holdQualNow (modTrl d x (fun t => { t with samples := [] })) x

/-! ### Changes of TB0 (R300) -/

/-- A change of TB0 beside its increment enters Δ and every TE alike, so that e never jumps. -/
def trlMoved (by_ : Int) (d : Device) (x : Nat) : Device :=
  modTrl d x (fun t =>
    { t with delta := t.delta + by_,
             cands := tmap (fun _ => {})
               (fun c => { c with
                 te := c.te.map (fun v => v + by_), base := c.base + by_, offs := c.offs.map (fun p => (p.1, p.2 + by_)) }) t.cands })

/-- The new active side's Δ takes −ψ, and what it has measured loses the referral (R564). -/
def trlTakeover (d : Device) (x : Nat) : Device :=
  let p := d.red.psi * 4 * (2 ^ 48 : Nat) / 5000000000000000
  modTrl d x (fun t =>
    { t with delta := t.delta - p,
             cands := tmap (fun _ => {}) (fun c => { c with te := c.te.map (fun v => v - p) }) t.cands })

end Sys2Proof.Machine
end

