-- ==== Sys2Proof/Machine/LinkOps.lean ====
section
/-! DEFINITION. Lanes, ladders and ports: lane conditions, low-power states, the ladder's states and the link-state machine
(R55 to R75, R86 to R107, R254 to R259). Their timers run on device ticks, which stand in a freeze (log 3). -/

namespace Sys2Proof.Machine

/-! ### Ports and their lanes (R86 to R91) -/

/-- Gang width of a port: 1, 2 or 4; 0 where absorbed (R110). -/
def portWidth (d : Device) (p : Nat) : Nat := fld d (Reg.PORT_STATUS p) 10 8

/-- The lanes of a port, the timing lane first (R87). -/
def portLanes (d : Device) (p : Nat) : List Nat := (upTo (portWidth d p)).map (fun i => p + i)

/-- The port that a lane belongs to: itself, or the port of the gang that absorbed it (R87). -/
def laneOwner (d : Device) (n : Nat) : Nat :=
  if !absorbed d n then n
  else if !absorbed d (n - 1) then n - 1
  else if !absorbed d (n - 2) then n - 2
  else n - 3

/-- The lane is the timing lane of a port. -/
def isTiming (d : Device) (n : Nat) : Bool := !absorbed d n

def bringup (d : Device) (n : Nat) : Nat := fld d (Reg.LANE_CFG n) 1 0
def rateMax (d : Device) (n : Nat) : Nat := fld d (Reg.LANE_CFG n) 5 4
def rateFixed (d : Device) (n : Nat) : Nat := fld d (Reg.LANE_CFG n) 3 2
def adaptTmo (d : Device) (n : Nat) : Nat := fld d (Reg.LANE_CFG n) 23 16 * msTicks
def reportTmo (d : Device) (n : Nat) : Nat := fld d (Reg.LANE_LADDER_TMO n) 15 8 * msTicks
def offerTmo (d : Device) (n : Nat) : Nat := fld d (Reg.LANE_LADDER_TMO n) 7 0 * msTicks

/-- MODE_CUR of a gang width and a rate code; none where the combination is invalid (R91). -/
def modeOf (width rate : Nat) : Option Nat :=
  match width, rate with
  | 1, r => if r < 4 then some r else none
  | _, 0 => some 0
  | 2, 3 => some 4
  | 4, 2 => some 5
  | 4, 3 => some 6
  | _, _ => none

/-- FEC_ACTIVE of a mode where Clause 73 does not decide (R91, R92). -/
def fecOf (mode : Nat) (req : Bool) : Bool :=
  match mode with
  | 3 => true
  | 4 => true
  | 6 => true
  | 2 => req
  | 5 => req
  | _ => false

/-- A port's mode follows its rate; a change of MODE_CUR counts in PORTn_DLY_CHG (R91, R268). -/
def setMode (d : Device) (p rate : Nat) (fec : Option Bool) : Device :=
  match modeOf (portWidth d p) rate with
  | none => d
  | some m =>
    let d := if m = modeCur d p then d else wr d (Reg.PORT_DLY_CHG p) (rd d (Reg.PORT_DLY_CHG p) + 1)
    let d := setFld d (Reg.PORT_STATUS p) 6 4 m
    setFlag d (Reg.PORT_STATUS p) 17 (fec.getD (fecOf m (flag d (Reg.PORT_CFG p) 0)))

/-! ### link_ok and the link-state machine (R96 to R106) -/

/-- Auto-negotiation is complete or not used (R91, R96). -/
def anOk (d : Device) (p : Nat) : Bool :=
  let used := bringup d p == 1 || (fld d (Reg.LANE_STATUS p) 1 0 == 0 && flag d (Reg.PORT_CFG p) 1)
  !used || flag d (Reg.PORT_STATUS p) 18

/-- Every lane that carries the mode has CDR_LOCK and USABLE_OK (R96). -/
def lanesOk (d : Device) (p : Nat) : Bool :=
  let l := if fld d (Reg.LANE_STATUS p) 1 0 = 0 then [p] else portLanes d p
  l.all (fun n => flag d (Reg.LANE_STATUS n) 4 && flag d (Reg.LANE_STATUS n) 5)

/-- The ladder lets the port work: DONE or NO_PEER, in Ladder mode (R96). -/
def ladderLets (d : Device) (p : Nat) : Bool :=
  bringup d p != 0 || fld d (Reg.LANE_LADDER p) 3 0 == 8 || fld d (Reg.LANE_LADDER p) 3 0 == 9

/-- link_ok (R96). -/
def linkOkNow (d : Device) (p : Nat) : Bool :=
  lanesOk d p && flag d (Reg.PORT_STATUS p) 14 && anOk d p && !flag d (Reg.PORT_STATUS p) 15
    && !flag d (Reg.PORT_STATUS p) 16 && ladderLets d p && !absorbed d p && !portDown d p

/-- REF_ELIGIBLE and its events (R106). -/
def eligEval (d : Device) (p : Nat) : Device :=
  let e := portSt d p == 2 && flag d (Reg.LANE_STATUS p) 6 && flag d (Reg.PORT_HOLD p) 16
  let was := flag d (Reg.PORT_STATUS p) 12
  let d := setFlag d (Reg.PORT_STATUS p) 12 e
  if was && !e then event d (Reg.PORT_EVENT p) 5
  else if e && !was then event d (Reg.PORT_EVENT p) 6
  else d

/-- L1Sync of a port leaves its state: to IDLE from any but DISABLED, forgetting the partner (R275). -/
def l1Idle (d : Device) (p : Nat) : Device :=
  if fld d (Reg.PORT_L1_STATUS p) 2 0 = 0 then d
  else
    let d := if fld d (Reg.PORT_L1_STATUS p) 2 0 = 4 then forgetOffsets d p else d
    setFlag (setFld d (Reg.PORT_L1_STATUS p) 2 0 1) (Reg.PORT_L1_STATUS p) 12 false

/-- Enter a link state: LINK_STATE, EN, LINK_TIME, events and counters (R97, R98, R109, R111). -/
def setLinkState (d : Device) (p st : Nat) : Device :=
  let old := portSt d p
  let d := setFld d (Reg.PORT_STATUS p) 2 0 st
  let d := setFlag d (Reg.PORT_CTL p) 0 (st != 0)
  let t := tbVal d 0
  let d := wr (wr d (Reg.PORT_LINK_TIME_NS p) (tvNs t)) (Reg.PORT_LINK_TIME_SEC p) (tvSec t)
  let d := modPort d p (fun x => { x with holdEnd := none })
  let d := if old = 2 && st != 2 then l1Idle (event (bump d (Reg.PORT_CNT p 10)) (Reg.PORT_EVENT p) 0) p else d
  let d := if st = 2 then
      let d := event d (Reg.PORT_EVENT p) 1
      let d := eventIf (old == 3) d (Reg.PORT_EVENT p) 2
      let d := modLadder d p (fun x => { x with fails := 0 })
      if flag d (Reg.PORT_L1_CFG p) 0 && fld d (Reg.PORT_L1_STATUS p) 2 0 == 0 then setFld d (Reg.PORT_L1_STATUS p) 2 0 1 else d
    else d
  let d := eventIf (old == 3 && st == 4) d (Reg.PORT_EVENT p) 3
  eligEval d p

/-- A recovery attempt begins: the PCS realigns, and Clause 73 starts over (R102). -/
def attemptBegin (d : Device) (p : Nat) : Device :=
  let d := modPort d p (fun x => { x with recoverAt := some d.dev })
  let d := setFlag d (Reg.PORT_STATUS p) 14 false
  if bringup d p = 1 then setFlag d (Reg.PORT_STATUS p) 18 false else d

/-- LINK_OK and since when it holds (R97, R110). -/
def linkOkUpdate (d : Device) (p : Nat) : Device :=
  let ok := linkOkNow d p
  let d := setFlag d (Reg.PORT_STATUS p) 13 ok
  modPort d p (fun x => { x with okSince := if ok then some (x.okSince.getD d.dev) else none })

/-- A link fault of a port that was UP: HOLD, or DOWN after the flush (R98, R101, R102). -/
def faultFromUp (d : Device) (p : Nat) : Device :=
  let hold := fld d (Reg.PORT_HOLD p) 9 0
  let d := attemptBegin d p
  let d := if 0 < hold then
      modPort (setLinkState d p 3) p (fun x => { x with holdEnd := some (d.dev + hold * msTicks) })
    else setLinkState (flushPort d p) p 4
  linkOkUpdate d p

/-- link_ok of a port is evaluated; where it has failed the port acts at once (R96, R98). -/
def linkEval (d : Device) (p : Nat) : Device :=
  let was := (portOf d p).okSince.isSome
  let d := linkOkUpdate d p
  let ok := (portOf d p).okSince.isSome
  let d := if !ok && portSt d p == 2 then faultFromUp d p
    else if was && !ok && (portSt d p == 3 || portSt d p == 4) then linkOkUpdate (attemptBegin d p) p
    else d
  eligEval d p

/-- link_ok has held for 100 µs: UP from TRAINING, HOLD or DOWN (R97, R98). -/
def linkHeld (d : Device) (p : Nat) : Device :=
  match (portOf d p).okSince with
  | some t =>
    if (portSt d p == 1 || portSt d p == 3 || portSt d p == 4) && decide (t + 100 * usTicks ≤ d.dev) then
      modPort (setLinkState d p 2) p (fun x => { x with recoverAt := none })
    else d
  | none => d

/-! ### Lane conditions (R67, R68, R254, R255, R259) -/

/-- PHASE_ACQ and its mirror and events (R255, R280). -/
def setAcq (d : Device) (n : Nat) (b : Bool) : Device :=
  let was := flag d (Reg.LANE_STATUS n) 7
  let d := setFlag (setFlag d (Reg.LANE_STATUS n) 7 b) (Reg.LANE_PH_STATUS n) 0 b
  if b && !was then event d (Reg.LANE_PH_EVENT n) 1
  else if was && !b then event d (Reg.LANE_PH_EVENT n) 2
  else d

/-- TIMING_OK and its events (R68, R84). -/
def setTiming (d : Device) (n : Nat) (b : Bool) : Device :=
  let was := flag d (Reg.LANE_STATUS n) 6
  let d := setFlag d (Reg.LANE_STATUS n) 6 b
  let d := if b && !was then event d (Reg.LANE_EVENT n) 4 else if was && !b then event d (Reg.LANE_EVENT n) 3 else d
  if isTiming d n then eligEval d n else d

/-- USABLE_OK and its events (R68, R84). -/
def setUsable (d : Device) (n : Nat) (b : Bool) : Device :=
  let was := flag d (Reg.LANE_STATUS n) 5
  let d := setFlag d (Reg.LANE_STATUS n) 5 b
  if b && !was then event d (Reg.LANE_EVENT n) 2 else if was && !b then event d (Reg.LANE_EVENT n) 1 else d

/-- isRxCoherent of a port (R274), and what follows for its L1Sync flags. -/
def rxCoherent (d : Device) (p : Nat) : Bool :=
  flag d (Reg.LANE_STATUS p) 7
    && decide ((signed 48 (rd d (Reg.LANE_PH_RATE_LO p) + 2 ^ 32 * fld d (Reg.LANE_PH_RATE_HI p) 15 0)).natAbs
      ≤ fld d (Reg.PORT_L1_CFG p) 31 24 * 1000000)

/-- The required flags are met at both ends (R275). -/
def l1Met (d : Device) (p : Nat) : Bool :=
  let c := rd d (Reg.PORT_L1_CFG p)
  let s := rd d (Reg.PORT_L1_STATUS p)
  (upTo 3).all (fun i => !(bit c (1 + i) || bit s (6 + i)) || (bit s (3 + i) && bit s (9 + i)))

/-- The partner's required flags equal the port's (R275). -/
def l1Match (d : Device) (p : Nat) : Bool := fld d (Reg.PORT_L1_STATUS p) 8 6 == fld d (Reg.PORT_L1_CFG p) 3 1

/-- L1_EN is in force: the port's PTP instance is taken as bound to TB0, since no register binds it to another (R273; log 25). -/
def l1On (d : Device) (p : Nat) : Bool := flag d (Reg.PORT_L1_CFG p) 0 && !absorbed d p

/-- One evaluation of the L1Sync state, run until it stands: at most n transitions (R275). -/
def l1Run (p : Nat) : Nat → Device → Device
  | 0, d => d
  | n + 1, d =>
    let st := fld d (Reg.PORT_L1_STATUS p) 2 0
    let enter_ (d : Device) (s : Nat) : Device := setFld (if st = 4 then forgetOffsets d p else d) (Reg.PORT_L1_STATUS p) 2 0 s
    let next : Option Nat :=
      if !l1On d p then (if st = 0 then none else some 0)
      else
        match st with
        | 0 => if portSt d p = 2 then some 1 else none
        | 1 => if flag d (Reg.PORT_L1_STATUS p) 12 then some 2 else none
        | 2 => if l1Match d p then some 3 else none
        | 3 => if !l1Match d p then some 2 else if l1Met d p then some 4 else none
        | _ => if !l1Match d p then some 2 else if l1Met d p then none else some 3
    match next with
    | none => d
    | some 1 => setFlag (enter_ d 1) (Reg.PORT_L1_STATUS p) 12 false
    | some s => l1Run p n (enter_ d s)

/-- The port's own flags and its L1Sync state (R274, R275). -/
def l1Eval (d : Device) (p : Nat) : Device :=
  let r := rxCoherent d p
  let d := setFld d (Reg.PORT_L1_STATUS p) 5 3 (b2n (l1On d p) + 2 * b2n (r && l1On d p) + 4 * b2n (r && l1On d p))
  l1Run p 6 d

/-- CDR lock is gone: USABLE_OK, TIMING_OK and PHASE_ACQ clear, EYE_FOM reads 0, the phase meter holds (R67, R255, R259). -/
def laneUnlock (d : Device) (n : Nat) : Device :=
  let d := setFlag d (Reg.LANE_STATUS n) 4 false
  let d := setFld d (Reg.LANE_FOM n) 7 0 0
  let d := setTiming (setAcq (setUsable d n false) n false) n false
  let d := setFlag d (Reg.LANE_PH_STATUS n) 2 true
  modLane d n (fun x =>
    { x with acqFrom := none, usableRun := 0, belowRun := 0, timingRun := 0, winSlip := false })

/-- The lane's receiver starts over at a rate: lock is lost, adaptation begins at the coarse sweep, or from the stored state of
a passed rung (R62, R64, R65). -/
def laneRate (d : Device) (n rate : Nat) (stored : Bool) : Device :=
  let d := laneUnlock d n
  let d := setFlag (setFld d (Reg.LANE_STATUS n) 1 0 rate) (Reg.LANE_STATUS n) 2 (rate == 3)
  modLane d n (fun x =>
    match x.stored.find? (fun s => stored && s.1 == rate) with
    | some s => { x with coarse := false, peaking := s.2 }
    | none => { x with coarse := true })

/-- Every lane of a port at a rate; at the seedling rate of a gang the other lanes hold QUIET with the receiver ON (R55). -/
def portRate (d : Device) (p rate : Nat) (stored : Bool) : Device :=
  let d := each (portLanes d p) d (fun d n =>
    let d := laneRate d n rate stored
    setFld (setFld d (Reg.LANE_STATUS n) 9 8 (if rate = 0 && n != p then 1 else 0)) (Reg.LANE_STATUS n) 10 10 0)
  let d := setFlag d (Reg.PORT_STATUS p) 14 false
  setMode d p rate none

/-! ### Low-power states of a lane (R70 to R75, R615) -/

/-- The state R615 or the requests of LANEn_PWR ask of the transmitter and of the receiver. -/
def powerWanted (d : Device) (n : Nat) : Nat × Nat :=
  if flag d (Reg.LANE_PWR n) 0 then
    let idle := portSt d (laneOwner d n) == 0 && !flag d (Reg.LANE_CTL n) 1
    let lt := fld d (Reg.GLB_LT_PORT (laneOwner d n)) 19 0
    if idle then (if lt ≥ 2 then 2 else if lt ≥ 1 then 1 else 0, if lt ≥ 30 then 1 else 0) else (0, 0)
  else (fld d (Reg.LANE_PWR n) 2 1, fld d (Reg.LANE_PWR n) 3 3)

/-- Start entries and wakes that the wanted states ask for; a request to leave ON is held while REF_SELECTED (R72, R74). -/
def lanePower (d : Device) (n : Nat) : Device :=
  let w := powerWanted d n
  let ref := refSelected d (laneOwner d n)
  let tx := fld d (Reg.LANE_STATUS n) 9 8
  let rx := fld d (Reg.LANE_STATUS n) 10 10
  let l := lane d n
  let holdTx := ref && decide (0 < w.1) && tx == 0 && l.txEntry.isNone
  let holdRx := ref && decide (0 < w.2) && rx == 0 && l.rxEntry.isNone
  let newHeld := (holdTx && !flag d (Reg.LANE_PWR n) 8) || (holdRx && !flag d (Reg.LANE_PWR n) 9)
  let d := eventIf newHeld (setFlag (setFlag d (Reg.LANE_PWR n) 8 holdTx) (Reg.LANE_PWR n) 9 holdRx) (Reg.LANE_EVENT n) 11
  let d := if holdTx then d
    else if l.txEntry.isSome then modLane d n (fun x => { x with txOnAfter := w.1 == 0 })
    else if tx < w.1 then modLane d n (fun x => { x with txEntry := some w.1, txWake := none, txOnAfter := false })
    else if w.1 < tx then modLane d n (fun x => { x with txWake := some (x.txWake.getD d.dev) })
    else modLane d n (fun x => { x with txWake := none })
  if holdRx then d
  else if l.rxEntry.isSome then modLane d n (fun x => { x with rxOnAfter := w.2 == 0 })
  else if rx < w.2 then
    -- the entry's first act clears TIMING_OK and PHASE_ACQ
    let was := flag d (Reg.LANE_STATUS n) 6
    let d := setTiming (setAcq d n false) n false
    modLane d n (fun x =>
      { x with rxEntry := some 1, rxWake := none, rxOnAfter := false, wakeArmed := was, wakeWin := none, acqFrom := none,
               timingRun := 0 })
  else if w.2 < rx then modLane d n (fun x => { x with rxWake := some (x.rxWake.getD d.dev) })
  else modLane d n (fun x => { x with rxWake := none })

/-- The lanes of a port come ON at its enable (R617). -/
def lanesOn (d : Device) (p : Nat) : Device :=
  each (portLanes d p) d (fun d n =>
    let d := setFld (setFld d (Reg.LANE_STATUS n) 9 8 0) (Reg.LANE_STATUS n) 10 10 0
    modLane d n (fun x => { x with txEntry := none, rxEntry := none, txWake := none, rxWake := none, txOnAfter := false, rxOnAfter := false }))

/-! ### The ladder (R55 to R64) -/

def ladderSt (d : Device) (n : Nat) : Nat := fld d (Reg.LANE_LADDER n) 3 0
def setLadderSt (d : Device) (n st : Nat) : Device :=
  modLadder (setFld d (Reg.LANE_LADDER n) 3 0 st) n (fun x => { x with t0 := d.dev, sent := none })

/-- The rung above a rung for a gang width, climbing (R55); none at the top. -/
def rungAbove (width rung : Nat) : Option Nat :=
  match width with
  | 1 => if rung < 3 then some (rung + 1) else none
  | 2 => if rung < 3 then some 3 else none
  | _ => if rung < 2 then some 2 else if rung < 3 then some 3 else none

/-- The highest rung of a gang width at or below a rate; none for a gang with no such rung (R56). -/
def ceilingOf (width rate : Nat) : Option Nat :=
  match width with
  | 1 => some rate
  | 2 => if rate = 3 then some 3 else none
  | _ => if rate ≥ 2 then some rate else none

/-- The rung above the current one at or below the ceiling. -/
def nextRung (d : Device) (n : Nat) : Option Nat :=
  match rungAbove (portWidth d n) (ladderOf d n).rung with
  | some r => if r ≤ (ladderOf d n).ceiling then some r else none
  | none => none

/-- A message of this port with a kind and fields; tag none takes the next sequence number (R59, R60). -/
def ladderMsg (d : Device) (n rung rmax reason : Nat) (foms : List Nat) (tag : Nat) : LadderMsg :=
  { tag := BitVec.ofNat 10 tag, lane := n, width := portWidth d n, serial := BitVec.ofNat 64 d.fuse.serial, rung := rung,
    rateMax := rmax, foms := foms, reason := reason }

/-- The message a state sends, by state: kind, and the message with the next sequence number (R62). -/
def ladderSend (d : Device) (n kind rung rmax reason : Nat) (foms : List Nat) : Device :=
  let q := ((ladderOf d n).seq + 1) % 1024
  let m := ladderMsg d n rung rmax reason foms q
  let d := modLadder d n (fun x => { x with seq := q, sent := some (kind, m), lastSent := d.dev })
  emit d (.ladder n kind m)

/-- EYE_FOM of the gang's lanes, 0 outside the gang. -/
def gangFoms (d : Device) (n : Nat) : List Nat :=
  (upTo 4).map (fun i => if i < portWidth d n then fld d (Reg.LANE_FOM (n + i)) 7 0 else 0)

/-- A failure is recorded: its rung and reason (R83). -/
def ladderFailed (d : Device) (n rung reason : Nat) : Device :=
  setFld (setFlag (setFld d (Reg.LANE_LADDER n) 9 8 rung) (Reg.LANE_LADDER n) 10 true) (Reg.LANE_LADDER n) 15 12 reason

/-- SEEDLING: 1000BASE-X on the timing lane, Clause 37, adaptation (R62). A LANE_LADDER in progress completes (R63). -/
def ladderSeed (d : Device) (n : Nat) : Device :=
  let d := setLadderSt d n 1
  let d := setFlag d (Reg.LANE_LADDER n) 5 false
  let d := modLadder d n (fun x => { x with rung := 0, target := 0, passed := 0, switchAt := none, reverted := false, peer := none, lastRx := none, fails := 0 })
  let d := each (portLanes d n) d (fun d k => modLane d k (fun x => { x with stored := [] }))
  let d := setFlag (portRate d n 0 false) (Reg.PORT_STATUS n) 18 false
  let d := linkEval d n
  each (working d 0x0204) d (fun d c => if portOfUnit (tgt c) = n then ok d c else d)

/-- ABANDONING, left at once for SEEDLING or FAILED (R62 row 12). -/
def ladderAbandon (d : Device) (n : Nat) (byRx byCmd : Bool) : Device :=
  let d := setLadderSt d n 12
  let d := if byRx then d
    else modLadder (ladderSend d n 7 0 0 (fld d (Reg.LANE_LADDER n) 15 12) []) n (fun x => { x with sent := none })
  let k := fld d (Reg.LANE_LADDER n) 20 16
  let d := if byCmd then d else setFld d (Reg.LANE_LADDER n) 20 16 (min (k + 1) 31)
  if byCmd || decide (fld d (Reg.LANE_LADDER n) 20 16 ≤ fld d (Reg.LANE_LADDER_TMO n) 19 16) then ladderSeed d n
  else
    let d := event (setLadderSt d n 13) (Reg.LANE_EVENT n) 10
    linkEval (portRate d n 0 false) n

/-- OFFERING: OFFERs are sent. -/
def ladderOffering (d : Device) (n : Nat) : Device := ladderSend (setLadderSt d n 2) n 1 0 (rateMax d n) 0 []

/-- STEPPING of the leader for a rung: STEP is sent. -/
def ladderStep (d : Device) (n rung : Nat) : Device :=
  let d := modLadder (setLadderSt d n 3) n (fun x => { x with target := rung, switchAt := none, reverted := false })
  ladderSend d n 2 rung 0 0 []

/-- FINALISING: FINAL is sent with the current rung. -/
def ladderFinalise (d : Device) (n : Nat) : Device :=
  ladderSend (setLadderSt d n 7) n 5 (ladderOf d n).rung 0 0 []

/-- DONE: the port goes to its link-state machine at the final rung (R62 row 8). -/
def ladderDone (d : Device) (n : Nat) : Device :=
  let d := event (setFld (setLadderSt d n 8) (Reg.LANE_LADDER n) 20 16 0) (Reg.LANE_EVENT n) 5
  linkEval (modLadder d n (fun x => { x with fails := 0 })) n

/-- The current rung is passed: it is the fallback, with the adaptation state of each lane (R62, R64). -/
def ladderPass (d : Device) (n : Nat) : Device :=
  let r := (ladderOf d n).rung
  let d := modLadder d n (fun x => { x with passed := r })
  let d := if fld d (Reg.LANE_LADDER n) 7 6 < r then setFld d (Reg.LANE_LADDER n) 7 6 r else d
  each (portLanes d n) d (fun d k =>
    modLane d k (fun x => { x with stored := (r, x.peaking) :: x.stored.filter (fun s => s.1 != r) }))

/-- REPORTING: REPORTs are sent. The time-out of a rung counts from its switch or revert, so t0 stays (R62 row 5 (f)). -/
def ladderReporting (d : Device) (n : Nat) : Device :=
  let t := (ladderOf d n).t0
  let d := modLadder (setLadderSt d n 5) n (fun x => { x with t0 := t })
  ladderSend d n 4 0 0 0 (gangFoms d n)

/-- REVERTING to the last passed rung, which becomes the ceiling (R62 row 6). -/
def ladderRevert (d : Device) (n reason : Nat) : Device :=
  let x := ladderOf d n
  let d := ladderFailed d n x.rung reason
  let d := event (setLadderSt d n 6) (Reg.LANE_EVENT n) 6
  let d := modLadder d n (fun y => { y with rung := x.passed, ceiling := x.passed, reverted := true })
  linkEval (portRate d n x.passed true) n

/-- The rate switch (R62 row 4). -/
def ladderSwitch (d : Device) (n : Nat) : Device :=
  let r := (ladderOf d n).target
  let d := modLadder (setLadderSt d n 4) n (fun x => { x with rung := r, switchAt := none, reverted := false })
  linkEval (portRate d n r false) n

/-- USABLE_OK on every gang lane, or on the timing lane alone at the seedling rate. -/
def gangUsable (d : Device) (n : Nat) : Bool :=
  (if (ladderOf d n).rung = 0 then [n] else portLanes d n).all (fun k => flag d (Reg.LANE_STATUS k) 5)

/-- What a lane condition or the end of Clause 37 changes in the ladder at once (R62 rows 1, 4 (a), 6 (a)). -/
def ladderEval (d : Device) (n : Nat) : Device :=
  match ladderSt d n with
  | 1 => if flag d (Reg.LANE_STATUS n) 5 && anOk d n then ladderOffering (ladderPass d n) n else d
  | 4 => if gangUsable d n then ladderReporting d n else d
  | 6 => if gangUsable d n then ladderReporting d n else d
  | _ => d

/-- The leader is the end with the higher serial, then the higher lane (R57). -/
def leads (d : Device) (n : Nat) (m : LadderMsg) : Bool :=
  if d.fuse.serial = m.serial.toNat then decide (m.lane < n) else decide (m.serial.toNat < d.fuse.serial)

/-- An OFFER in OFFERING (R62 row 2). -/
def ladderOffer (d : Device) (n : Nat) (m : LadderMsg) : Device :=
  if m.serial.toNat = d.fuse.serial && m.lane == n then event (setLadderSt d n 10) (Reg.LANE_EVENT n) 8
  else
    let d := wr (wr d (Reg.LANE_PEER_SER_LO n) m.serial.toNat) (Reg.LANE_PEER_SER_HI n) (m.serial.toNat / 2 ^ 32)
    let d := setFlag (setFld d (Reg.LANE_LADDER n) 26 21 m.lane) (Reg.LANE_LADDER n) 5 true
    let lead := leads d n m
    let d := setFlag d (Reg.LANE_LADDER n) 4 lead
    let ceil := ceilingOf (portWidth d n) (min (rateMax d n) m.rateMax)
    if m.width ≠ portWidth d n then event (setLadderSt d n 11) (Reg.LANE_EVENT n) 9
    else
      match ceil with
      | none => event (setLadderSt d n 11) (Reg.LANE_EVENT n) 9
      | some c =>
        let d := modLadder d n (fun x => { x with ceiling := c, peer := some m })
        if !lead then d
        else
          match nextRung d n with
          | some r => ladderStep d n r
          | none => ladderFinalise d n

/-- Answer a STEP or a FINAL with its own tag (R60). -/
def ladderAnswer (d : Device) (n kind : Nat) (m : LadderMsg) : Device :=
  emit d (.ladder n kind (ladderMsg d n m.rung 0 0 [] m.tag.toNat))

/-- A STEP at the follower (R62 rows 2 (e), 3, 5 (d)). -/
def ladderStepRx (d : Device) (n : Nat) (m : LadderMsg) : Device :=
  let st := ladderSt d n
  if leads d n m then d
  else if st = 2 || st = 5 then
    let d := if st = 5 then ladderPass d n else d
    let d := ladderAnswer (setFlag d (Reg.LANE_LADDER n) 4 false) n 3 m
    modLadder (setLadderSt d n 3) n (fun x => { x with target := m.rung, switchAt := some (d.dev + 100 * usTicks) })
  else if st = 3 then ladderAnswer d n 3 m
  else d

/-- A FINAL at the follower (R62 rows 2 (f), 5 (e)). -/
def ladderFinalRx (d : Device) (n : Nat) (m : LadderMsg) : Device :=
  let st := ladderSt d n
  if leads d n m then d
  else if st = 2 || st = 5 then ladderDone (ladderAnswer (if st = 5 then ladderPass d n else d) n 6 m) n
  else if st = 8 then ladderAnswer d n 6 m
  else d

/-- The message a state sent last carries this tag. -/
def sentWith (d : Device) (n : Nat) (tag : BitVec 10) : Bool := (ladderOf d n).sent.map (fun s => s.2.tag) == some tag

/-- The state takes a message of this kind: another is not accepted, and its repeats are heard (R60, R62). -/
def ladderTakes (d : Device) (n kind : Nat) (m : LadderMsg) : Bool :=
  let st := ladderSt d n
  match kind with
  | 1 => st == 2 || (st == 9 && !(m.serial.toNat == d.fuse.serial && m.lane == n))
  | 2 => !leads d n m && [2, 3, 5].contains st
  | 3 => st == 3 && leads d n m && sentWith d n m.tag && (ladderOf d n).switchAt.isNone
  | 4 => st == 5 && leads d n m
  | 5 => !leads d n m && [2, 5, 8].contains st
  | 6 => st == 7 && sentWith d n m.tag
  | 7 => !([0, 10, 11, 13].contains st)
  | _ => false

/-- An accepted message by kind (R62). -/
def ladderAct (d : Device) (n kind : Nat) (m : LadderMsg) : Device :=
  match kind with
  | 1 => ladderOffer (if ladderSt d n = 9 then linkEval (ladderOffering d n) n else d) n m
  | 2 => ladderStepRx d n m
  | 3 => modLadder d n (fun x => { x with switchAt := some (d.dev + 100 * usTicks) })
  | 4 =>
    if (upTo (portWidth d n)).all (fun i => decide (64 ≤ m.foms.getD i 0)) then
      let d := ladderPass d n
      match nextRung d n with
      | some r => ladderStep d n r
      | none => ladderFinalise d n
    else ladderRevert d n 3
  | 5 => ladderFinalRx d n m
  | 6 => ladderDone d n
  | 7 => ladderAbandon (ladderFailed d n (ladderOf d n).rung 7) n true false
  | _ => d

/-- A ladder message reaches ME0 (R60, R61): a bad one is discarded, a repeat is discarded but for the answers it asks for. -/
def ladderRx (d : Device) (n kind : Nat) (m : LadderMsg) : Device :=
  let st := ladderSt d n
  if !isTiming d n || st = 0 || st = 13 then event d (Reg.LANE_EVENT n) 14
  else if (ladderOf d n).lastRx = some (m.tag.toNat, kind) then
    if kind = 2 && st = 3 && !leads d n m then ladderAnswer d n 3 m
    else if kind = 5 && st = 8 && !leads d n m then ladderAnswer d n 6 m
    else d
  else if ladderTakes d n kind m then
    ladderAct (modLadder d n (fun x => { x with lastRx := some (m.tag.toNat, kind) })) n kind m
  else d

/-! ### Lane events that ports and ladders hear of -/

/-- After a change of a lane's flags: the ladder first, then link_ok, then L1Sync. -/
def laneChanged (d : Device) (n : Nat) : Device :=
  let p := laneOwner d n
  let d := ladderEval d p
  l1Eval (linkEval d p) p

/-! ### Enabling, disabling and regang (R90, R104, R105) -/

/-- A port leaves DRAINING or is put off: flush, electrical idle, EN clear, ladder OFF, DISABLED; its PCS and auto-negotiation
stop (R104, R62; log 37). -/
def portOff (d : Device) (p : Nat) : Device :=
  let d := flushPort d p
  let d := each (portLanes d p) d (fun d n => setFlag (setFld d (Reg.LANE_STATUS n) 9 8 1) (Reg.LANE_CTL n) 0 false)
  let d := setFld (modLadder d p (fun x => { x with sent := none, switchAt := none })) (Reg.LANE_LADDER p) 3 0 0
  let d := modPort d p (fun x => { x with drainEnd := none, recoverAt := none })
  let d := setFlag (setFld d (Reg.PORT_STATUS p) 16 14 0) (Reg.PORT_STATUS p) 18 false
  let d := linkOkUpdate (setLinkState d p 0) p
  each (portLanes d p) d lanePower

/-- The ports of a gang group: bed, group (R88). -/
def groupPorts (b g : Nat) : List Nat := (upTo 4).map (fun i => 10 * b + 4 * g + i)

/-- Widths by layout for lanes 0 to 3 of a group; 0 absorbed (R88). -/
def layoutWidths (l : Nat) : List Nat :=
  match l with
  | 0 => [1, 1, 1, 1]
  | 1 => [2, 0, 1, 1]
  | 2 => [1, 1, 2, 0]
  | 3 => [2, 0, 2, 0]
  | _ => [4, 0, 0, 0]

/-- Every PORTn register and counter of a port back at its reset value (R89, R90). -/
def portReset (d : Device) (p : Nat) : Device :=
  let lo := 0x140000 + 0x1000 * p
  let keep (e : Nat × Word) : Bool := decide (e.1 < lo) || decide (lo + 0x1000 ≤ e.1)
  let keepC (e : Nat × Nat) : Bool := decide (e.1 < lo) || decide (lo + 0x1000 ≤ e.1)
  let bad := d.parityBad.filter (fun a => decide (a < lo) || decide (lo + 0x1000 ≤ a))
  modPort { d with regs := d.regs.filter keep, cnts := d.cnts.filter keepC, parityBad := bad } p (fun _ => {})

/-- An absorbed port's active gate list is made inactive, its pending list invalid, and its armed change cancelled (R586). -/
def absorbGates (d : Device) (p : Nat) : Device :=
  gateStatus (modOut d p (fun x => { x with active := none, pend := none, armed := none })) p

/-- Trellis entries that name a port being absorbed lose presence until they are loaded away (R586). -/
def barEntries (d : Device) (p : Nat) : Device :=
  each (upTo 2) d (fun d x => each (upTo 16) d (fun d e =>
    if cValid d x e && decide (cType d x e < 2) && cIndex d x e == p then modCand d x e (fun c => { c with barred := true }) else d))

/-- Steps 2 to 4 of a regang (R90); each regang counts in PORTn_DLY_CHG (R268). -/
def regangApply (d : Device) (b g layout : Nat) : Device :=
  let ws := layoutWidths layout
  let d := each (upTo 4) d (fun d i =>
    let p := 10 * b + 4 * g + i
    let w := ws.getD i 1
    let d := if (portWidth d p == 0) != (w == 0) then portReset d p else d
    let d := setFlag (setFld d (Reg.PORT_STATUS p) 10 8 w) (Reg.PORT_STATUS p) 11 (w == 0)
    let d := if w = 0 then barEntries (absorbGates d p) p else d
    wr d (Reg.PORT_DLY_CHG p) (rd d (Reg.PORT_DLY_CHG p) + 1))
  each (groupPorts b g) d (fun d n =>
    let d := setFld (setFld d (Reg.LANE_LADDER n) 3 0 0) (Reg.LANE_LADDER n) 20 16 0
    -- a lane that is now a timing lane or single holds S_RX = 0 (R260)
    if portWidth d n = 0 then d
    else modLane (wr d (Reg.LANE_SKEW_RX n) 0) n (fun x => { x with skews := [], skewBase := none }))

/-- Entry into DRAINING (R104): REF_ELIGIBLE clears with the state; DRAIN_TMO in ms starts. -/
def drainBegin (d : Device) (p tmo : Nat) : Device :=
  let d := setLinkState d p 5
  modPort d p (fun x => { x with drainEnd := some (d.dev + tmo * msTicks) })

/-- Step 1 of a regang: every enabled port of the group drains; with DRAIN_TMO 0 it is off at once (R90, R104). -/
def drainGroup (d : Device) (b g tmo : Nat) : Device :=
  each (groupPorts b g) d (fun d p =>
    if portSt d p = 0 || absorbed d p || portSt d p = 5 then d
    else if tmo = 0 then portOff (drainBegin d p 0) p
    else drainBegin d p tmo)

/-- A PORT_REGANG in step 1 goes on: the layout is applied once every port of the group is DISABLED; a port enabled meanwhile
drains as the others did (R90). -/
def regangGo (d : Device) (c : InFlight) : Device :=
  let b := unitBed (tgt c)
  let g := pf c 0 0 0
  let d := drainGroup d b g (pf c 0 14 8)
  if (groupPorts b g).all (fun q => portSt d q == 0) then ok (regangApply d b g (pf c 0 6 4)) c else d

/-- A drain of a port has ended: PORT_DISABLEs of it complete; a PORT_REGANG goes on. -/
def drainEnded (d : Device) (p : Nat) : Device :=
  let d := each (working d 0x0202) d (fun d c => if portOfUnit (tgt c) = p then ok d c else d)
  each (working d 0x0205) d (fun d c =>
    if (groupPorts (unitBed (tgt c)) (pf c 0 0 0)).contains p then regangGo d c else d)

/-- The drain of a port ends (R104). -/
def drainFinish (d : Device) (p : Nat) : Device := drainEnded (portOff d p) p

/-- Every queue of a port is empty, and so is its wire. -/
def queuesEmpty (d : Device) (p : Nat) : Bool :=
  (copiesOf (outOf d p) (fun _ => true)).isEmpty && (outOf d p).wire.isNone

end Sys2Proof.Machine
end

