-- ==== Sys2Proof/Machine/PowerOps.lean ====
section
/-! DEFINITION. Low-power states of the beds and the core, the load rule and the core divider (R615 to R618, R313). -/

namespace Sys2Proof.Machine

/-- Ports outside DISABLED. -/
def livePorts (d : Device) : List Nat :=
  d.regs.filterMap (fun e =>
    if 0x140000 ≤ e.1 ∧ e.1 < 0x168000 ∧ e.1 % 0x1000 = 0x20 ∧ bits e.2.toNat 2 0 ≠ 0 then some ((e.1 - 0x140000) / 0x1000)
    else none)

/-- Capacity rate of a gang width at a rate code, Gb/s (R616, R91). -/
def capacity (width rate : Nat) : Nat :=
  match width, rate with
  | 1, 0 => 1
  | 1, 1 => 10
  | 1, 2 => 25
  | 1, _ => 50
  | 2, 3 => 100
  | 4, 2 => 100
  | 4, 3 => 200
  | _, _ => 1

/-- Capacity rate of a port: at RATE_FIXED in Fixed mode, else at RATE_MAX (R616). -/
def portCapacity (d : Device) (p : Nat) : Nat :=
  capacity (portWidth d p) (if bringup d p = 2 then rateFixed d p else rateMax d p)

/-- The load of a bed from its ports outside DISABLED. -/
def bedLoad (d : Device) (b : Nat) : Nat :=
  (livePorts d).foldl (fun (n : Nat) p => if p / 10 = b then n + portCapacity d p else n) 0

/-- The load rule holds (R616). -/
def loadOk (d : Device) : Bool := (upTo 4).all (fun b => decide (bedLoad d b ≤ 400))

/-- The core divider is 16 (R313). -/
def div16 (d : Device) : Bool := flag d Reg.CLK_ROOT_STATUS 2

/-- Commands held before their commit by R617. -/
def heldForPower (d : Device) : Bool := d.cmd.inflight.any (fun c => c.stage == .wait && c.aux == [1])

def bedIdle (d : Device) (b : Nat) : Bool := flag d Reg.GLB_PWR_STATUS (8 + b)
def standby (d : Device) : Bool := flag d Reg.GLB_PWR_STATUS 12

/-- R615 asks for IDLE of a bed. -/
def bedWants (d : Device) (b : Nat) : Bool :=
  decide (5 ≤ rd d Reg.GLB_LT_DEV)
    && (upTo 10).all (fun i => decide (5 ≤ rd d (Reg.GLB_LT_PORT (10 * b + i))) && !flag d (Reg.LANE_CTL (10 * b + i)) 1)
    && !(livePorts d).any (fun p => p / 10 == b)

/-- R615 asks for STANDBY of the core. -/
def standbyWants (d : Device) : Bool :=
  decide (20 ≤ rd d Reg.GLB_LT_DEV) && (livePorts d).isEmpty && queuesEmpty d 40 && queuesEmpty d 41
    && d.core.waiting.isEmpty && d.core.planes.isEmpty && d.pwr.held.isEmpty && fld d Reg.RED_GRAFT_STATUS 2 0 == 0

/-- Start the wake of a bed, where it is idle. -/
def wakeBed (d : Device) (b : Nat) : Device :=
  if bedIdle d b && (d.pwr.bedWake.getD b none).isNone then
    modPwr d (fun p => { p with bedWake := p.bedWake.set b (some d.now) })
  else d

/-- Start the wake of the core, where it is in STANDBY. -/
def wakeCore (d : Device) : Device :=
  if standby d && d.pwr.coreWake.isNone then modPwr d (fun p => { p with coreWake := some d.now }) else d

/-- Idle and wake one bed as R615 asks. -/
def bedEval (d : Device) (b : Nat) : Device :=
  if (d.pwr.bedWake.getD b none).isSome then d
  else
    let w := bedWants d b || standby d
    if w && !bedIdle d b then setFlag d Reg.GLB_PWR_STATUS (8 + b) true
    else if !w && bedIdle d b then wakeBed d b
    else d

/-- Idle and wake the core as R615 asks. -/
def standbyEval (d : Device) : Device :=
  if d.pwr.coreWake.isSome then d
  else
    let w := standbyWants d
    if w && !standby d then setFlag d Reg.GLB_PWR_STATUS 12 true
    else if !w && standby d then wakeCore d
    else d

/-- REDUCED is chosen (R615). -/
def reducedWants (d : Device) : Bool :=
  flag d Reg.GLB_PWR_CFG 0 && decide (1 ≤ rd d Reg.GLB_LT_DEV) && !standby d && d.pwr.coreWake.isNone

/-- The divider that R616 asks for is 16. -/
def wants16 (d : Device) : Bool :=
  loadOk d && !heldForPower d && (reducedWants d || (!flag d Reg.GLB_PWR_CFG 0 && flag d Reg.CLK_ROOT_CTL 0))

/-- Request the change of the divider that R616 asks for, or withdraw one (R313); LOAD_OK and DIV_HELD (R616). -/
def dividerEval (d : Device) : Device :=
  let ok := loadOk d
  let d := setFlag d Reg.GLB_PWR_STATUS 4 ok
  let d := setFlag d Reg.GLB_PWR_STATUS 3 (!ok && !flag d Reg.GLB_PWR_CFG 0 && flag d Reg.CLK_ROOT_CTL 0 && !div16 d)
  let w := wants16 d
  if w = div16 d then modClk d (fun c => { c with divReq := none })
  else modClk d (fun c => { c with divReq := some ((c.divReq.map Prod.fst).getD d.dev, if w then 16 else 8) })

/-- Every unit's low-power state is evaluated (R615). -/
def powerEval (d : Device) : Device :=
  if coreReady d then dividerEval (each (upTo 4) (standbyEval d) bedEval) else d

/-- A command that puts a port to a load waits for the divider, the bed and the core (R617); false where it must wait. Loads are
those with the command carried out. -/
def powerReady (d : Device) (p load : Nat) : Bool :=
  !(div16 d && decide (400 < load)) && !bedIdle d (p / 10) && !standby d

/-- The command waits before its commit for a condition of R617, and the wakes it needs begin. -/
def holdForPower (d : Device) (c : InFlight) (p : Nat) : Device :=
  let d := modInflight d c.seq (fun c => { c with stage := .wait, aux := [1] })
  dividerEval (wakeCore (wakeBed d (p / 10)))

end Sys2Proof.Machine
end

