-- ==== Sys2Proof/Machine/RegOps.lean ====
section
/-! DEFINITION. Writing registers by field: the writable bits of a register, the values that its chapter calls invalid, and
the CFG_REJECT and RWE_REFUSED events of its block (R10 to R13, R513, and each block's field table). -/

namespace Sys2Proof.Machine

/-- A word with the bits of a mask taken from v. -/
def merge (old mask v : Nat) : Nat := old - Nat.land old mask + Nat.land v mask

/-- Bits a write may change: RW and RWE (R11). -/
def writable (a : Nat) : Nat :=
  match regInfo a with
  | some i => Nat.lor i.rw i.rwe
  | none => 0

/-- Write the RW and RWE fields of a register from a word laid out as the register (R490). -/
def wrImage (d : Device) (a v : Nat) : Device := wr d a (merge (rd d a) (writable a) v)

/-- A number in a range. -/
def inRange (v lo hi : Nat) : Bool := decide (lo ≤ v) && decide (v ≤ hi)

/-- A two's complement number of n bits within ±b. -/
def within_ (n v b : Nat) : Bool := decide ((signed n v).natAbs ≤ b)

/-- Least N of a clock output's format; none for the invalid one (R328). -/
def leastN (format : Nat) : Option Nat :=
  match format with
  | 0 => some 1
  | 1 => some 4
  | 2 => some 8
  | _ => none

/-- FORMAT, ALIGN and N of a clock output agree (R328). -/
def outCfgOk (cfg n : Nat) : Bool :=
  match leastN (bits cfg 1 0) with
  | some m => decide (m ≤ n) && (!bit cfg 4 || 1000000000 * 5 / 4 % n == 0)
  | none => false

/-- Two valid domain map entries name one domain once TBn's entry holds v (R208). -/
def dmapClash (d : Device) (n v : Nat) : Bool :=
  bit v 0 && (upTo 8).any (fun m =>
    m != n && flag d (Reg.TB_DMAP m) 0 && fld d (Reg.TB_DMAP m) 7 4 == bits v 7 4 && fld d (Reg.TB_DMAP m) 15 8 == bits v 15 8)

/-- A word is a valid value for a LANEn register (R79 to R85, R279). -/
def laneValueOk (r v : Nat) : Bool :=
  match r with
  | 0x004 => bits v 1 0 != 3 && bits v 23 16 != 0
  | 0x008 => bits v 7 0 != 0 && bits v 15 8 != 0
  | 0x010 => decide (bits v 5 0 + bits v 13 8 + bits v 21 16 + bits v 29 24 ≤ 63)
  | 0x014 => decide (bits v 5 0 + bits v 13 8 + bits v 21 16 + bits v 29 24 ≤ 63)
  | 0x018 => decide (bits v 5 0 + bits v 13 8 + bits v 21 16 + bits v 29 24 ≤ 63)
  | 0x01C => decide (bits v 5 0 + bits v 13 8 + bits v 21 16 + bits v 29 24 ≤ 63)
  | 0x040 => bits v 2 1 != 3
  | 0x080 => inRange (bits v 3 0) 0 10 && inRange (bits v 15 8) 5 100
  | _ => true

/-- A word is a valid value for a PORTn register (R109, R265 to R267, R282). -/
def portValueOk (r v : Nat) : Bool :=
  match r with
  | 0x004 => inRange (bits v 29 16) 1518 10240
  | 0x008 => inRange (bits v 9 0) 0 1000
  | 0x200 => inRange v 0 65536000
  | 0x204 => inRange v 0 65536000
  | 0x210 => within_ 32 v 65536000
  | 0x220 => within_ 4 (bits v 11 8) 4 && inRange (bits v 23 16) 2 255 && inRange (bits v 31 24) 1 255
  | _ => true

/-- α is within ±10^-2 in units of 2^-62 (R267). -/
def alphaOk (v : Nat) : Bool := decide ((signed 64 v).natAbs * 100 ≤ 2 ^ 62)

/-- A word is a valid value for a CORE register (R160). -/
def coreValueOk (r v : Nat) : Bool :=
  if r = 0x004 then inRange (bits v 16 0) 250 125000
  else if r = 0x008 then inRange (bits v 16 0) 125 125000
  else if r = 0x00C then inRange (bits v 15 0) 1 65535
  else if 0x100 ≤ r && r < 0x200 then inRange (bits v 19 0) 1 1000000
  else if 0x600 ≤ r && r < 0x740 && r % 8 == 4 then inRange (bits v 11 0) 1 4094
  else true

/-- A word is a valid value for a QUEn register (R194). -/
def queValueOk (r v : Nat) : Bool :=
  if r = 0x008 then inRange (bits v 14 4) 0 1024 && inRange (bits v 29 16) 0 12500
  else if 0x100 ≤ r && r < 0x200 then
    match r % 0x20 with
    | 0x0 => decide (-7 ≤ signed 4 v) && decide (signed 4 v ≤ 3)
    | 0x4 => inRange (bits v 15 0) 64 65535
    | 0x8 => inRange (bits v 19 0) 1 1000000
    | _ => true
  else true

/-- A word is a valid value for a TB register (R208, R244, R246). -/
def tbValueOk (d : Device) (r v : Nat) : Bool :=
  if 0x040 ≤ r && r < 0x060 then !dmapClash d ((r - 0x040) / 4) v
  else if 0x300 ≤ r && r < 0x3A0 then decide (bits v 2 0 < 5)
  else if r = 0x600 then decide (bits v 5 0 < 40)
  else true

/-- A word is a valid value for a TRLx register (R307). -/
def trlValueOk (r v : Nat) : Bool :=
  match r with
  | 0x004 => inRange (bits v 19 0) 5 1000000
  | 0x008 => inRange (bits v 19 0) 5 1000000
  | 0x00C => inRange (bits v 15 0) 10 65535 && inRange (bits v 31 16) 10 60000
  | 0x010 => inRange (bits v 9 0) 1 600
  | 0x014 => inRange (bits v 18 0) 1 500000
  | 0x018 => inRange (bits v 16 0) 60 86400
  | 0x01C => inRange (bits v 15 0) 60 65535
  | _ => true

/-- A word is a valid value for a CLK register (R328, R334, R378). -/
def clkValueOk (d : Device) (r v : Nat) : Bool :=
  if 0x104 ≤ r && r < 0x140 && r % 0x10 == 4 then outCfgOk v (fld d (0x060000 + r + 4) 29 0)
  else if 0x108 ≤ r && r < 0x140 && r % 0x10 == 8 then
    bits v 29 0 != 0 && outCfgOk (rd d (0x060000 + r - 4)) (bits v 29 0)
  else if r = 0x180 then inRange (bits v 18 0) 1 500000
  else if r = 0x184 then within_ 24 v 320000
  else if r = 0x190 then decide (bits v 2 0 < 5) && inRange (bits v 23 8) 1 65535
  else if 0x4000 ≤ r && r < 0x4500 && (r - 0x4000) % 0x40 == 0 then
    bits v 1 0 != 3 && decide (bits v 8 4 ≤ 18) && decide (bits v 29 16 ≤ 12500)
  else if r = 0x4800 then decide (bits v 4 0 < 20)
  else true

/-- A word is a valid value for a CMD register (R483, R502). -/
def cmdValueOk (r v : Nat) : Bool :=
  if r = 0x000 then decide (bits v 7 4 ≤ 6) && inRange (bits v 29 16) 100 10000
  else if 0x100 ≤ r && r < 0x180 && r % 0x20 == 0 then bits v 23 16 != 0
  else if 0x108 ≤ r && r < 0x180 && r % 0x20 == 8 then v % 16 == 0
  else if 0x114 ≤ r && r < 0x180 && r % 0x20 == 0x14 then v % 16 == 0
  else true

/-- A word is a valid value for a RED register (R583). -/
def redValueOk (r v : Nat) : Bool :=
  match r with
  | 0x004 => inRange (bits v 11 0) 0 3600 && inRange (bits v 23 16) 1 50
  | 0x008 => inRange (bits v 15 0) 10 65535 && inRange (bits v 31 16) 10 65535
  | 0x010 => within_ 32 v 65536000
  | _ => true

/-- A word is a valid value for the register at an offset. -/
def valueOk (d : Device) (a v : Nat) : Bool :=
  if a < 0x10000 then true
  else if a < 0x20000 then cmdValueOk (a - 0x10000) v
  else if a < 0x30000 then (if a = 0x20014 then inRange (bits v 13 0) 20 10000 else true)
  else if a < 0x50000 then tbValueOk d (a - 0x40000) v
  else if a < 0x60000 then trlValueOk ((a - 0x50000) % 0x8000) v
  else if a < 0x70000 then clkValueOk d (a - 0x60000) v
  else if a < 0x80000 then true
  else if a < 0x90000 then redValueOk (a - 0x80000) v
  else if a < 0x128000 then laneValueOk ((a - 0x100000) % 0x1000) v
  else if a < 0x168000 then portValueOk ((a - 0x140000) % 0x1000) v
  else if a < 0x1A0000 then coreValueOk (a - 0x180000) v
  else if a < 0x1BE000 then queValueOk ((a - 0x1A0000) % 0x800) v
  else if a = 0x1C0000 then decide (bits v 3 0 ≤ 9)
  else if a = 0x280480 then bits v 11 10 == 0
  else true

/-- The CFG_REJECT event of the block that holds an offset. -/
def rejectAt (a : Nat) : Option (Nat × Nat) :=
  if a < 0x10000 then some (Reg.GLB_EVENT, 5)
  else if a < 0x20000 then some (Reg.CMD_EVENT, 6)
  else if a < 0x30000 then some (Reg.FLT_EVENT, 7)
  else if a < 0x50000 then some (Reg.TB_EVENT, 8)
  else if a < 0x60000 then some (Reg.TRL_EVENT ((a - 0x50000) / 0x8000), 12)
  else if a < 0x64000 then some (Reg.CLK_EVENT, 10)
  else if a < 0x64800 then some (Reg.CLK_MTR_EVENT ((a - 0x64000) / 0x40), 7)
  else if a < 0x70000 then some (Reg.CLK_EVENT, 10)
  else if a < 0x80000 then none
  else if a < 0x90000 then some (Reg.RED_EVENT, 10)
  else if a < 0x128000 then
    let n := (a - 0x100000) / 0x1000
    if a % 0x1000 < 0x80 then some (Reg.LANE_EVENT n, 12) else some (Reg.LANE_PH_EVENT n, 5)
  else if a < 0x168000 then
    let n := (a - 0x140000) / 0x1000
    if a % 0x1000 < 0x200 then some (Reg.PORT_EVENT n, 8) else some (Reg.LANE_PH_EVENT n, 5)
  else if a < 0x1A0000 then some (Reg.CORE_EVENT, 11)
  else if a < 0x1BE000 then some (Reg.QUE_EVENT ((a - 0x1A0000) / 0x800), 5)
  else if a < 0x1C0000 then some (Reg.QUEG_EVENT, 1)
  else if a < 0x200000 then some (Reg.GLB_EVENT, 5)
  else if a < 0x280000 then none
  else some (Reg.PMC_EVENT, 2)

/-- A write with an invalid value is ignored and noted. -/
def reject (d : Device) (a : Nat) : Device :=
  match rejectAt a with
  | some (r, b) => event d r b
  | none => d

/-! ### Use of a meter (R355, R378, R408) -/

/-- CLASS and ID of the owner of spare meter i. -/
def mtrOwner (d : Device) (i : Nat) : Nat × Nat := (fld d (Reg.SYN_MTR_OWNER i) 2 0, fld d (Reg.SYN_MTR_OWNER i) 7 4)

/-- The entry that REFINk follows: side A's before side B's, the lowest (R355). -/
def refinEntry (d : Device) (k : Nat) : Option (Nat × Nat) :=
  firstOf (fun p => cValid d p.1 p.2 && cType d p.1 p.2 == 2 && cIndex d p.1 p.2 == k)
    ((upTo 2).map (fun x => (upTo 16).map (fun e => (x, e)))).flatten

/-- USED of CLK meter m (R378). -/
def mtrUsed (d : Device) (m : Nat) : Bool :=
  (meterOf d (40 + m)).job.isSome || (decide (m < 4) && (refinEntry d m).isSome)
    || (decide (4 ≤ m) && (mtrOwner d (m - 4)).1 != 0)

/-- The enable that RWE fields of a register follow is set, and the RWE_REFUSED event of its block (R78, R108, R193, R333, R377,
R581). -/
def rweAt (d : Device) (a : Nat) : Bool × Option (Nat × Nat) :=
  if 0x060000 ≤ a && a < 0x064000 then (flag d (Reg.CLK_OUT_CTL ((a - 0x060100) / 0x10)) 0, some (Reg.CLK_EVENT, 11))
  else if 0x064000 ≤ a && a < 0x064800 then
    let m := (a - 0x64000) / 0x40
    (mtrUsed d m, some (Reg.CLK_MTR_EVENT m, 8))
  else if 0x080000 ≤ a && a < 0x090000 then (fld d Reg.RED_GRAFT_STATUS 2 0 != 0, some (Reg.RED_EVENT, 11))
  else if 0x100000 ≤ a && a < 0x128000 then
    let n := (a - 0x100000) / 0x1000
    (flag d (Reg.LANE_CTL n) 0, some (Reg.LANE_EVENT n, 13))
  else if 0x140000 ≤ a && a < 0x168000 then
    let n := (a - 0x140000) / 0x1000
    (flag d (Reg.PORT_CTL n) 0, some (Reg.PORT_EVENT n, 9))
  else if 0x1A0000 ≤ a && a < 0x1B5000 then
    let n := (a - 0x1A0000) / 0x800
    (decide (n < 40) && flag d (Reg.PORT_CTL n) 0, some (Reg.QUE_EVENT n, 6))
  else (false, none)

end Sys2Proof.Machine
end

