-- ==== Sys2Proof/Machine/PinOps.lean ====
section
/-! DEFINITION. Sync pins and the claims of pins and spare meters (R408 to R422). Schedules are held in fifths of 2^-16 ns,
262,144 to a tick, on the pin's DOMAIN; edges at the ball in the same unit on the tick count. -/

namespace Sys2Proof.Machine

/-! ### Spare meters (R408, R412) -/

/-- The lowest-indexed free spare meter of a bed (R412). -/
def freeSpare (d : Device) (b : Nat) : Option Nat :=
  firstOf (fun i => (mtrOwner d i).1 == 0) ((upTo 4).map (fun k => 4 * b + k))

/-- The meter an XCHK entry of a side holds for a lane (R287). -/
def xchkMeter (d : Device) (x lane : Nat) : Option Nat :=
  firstOf (fun i =>
    mtrOwner d i == (3, x) && fld d (Reg.SYN_MTR_OWNER i) 10 8 == 4 && fld d (Reg.SYN_MTR_OWNER i) 15 12 == lane % 10)
    ((upTo 4).map (fun k => 4 * (lane / 10) + k))

/-- A spare meter is released (R409). -/
def freeMeter (d : Device) (i : Nat) : Device := event (wr d (Reg.SYN_MTR_OWNER i) 0) Reg.SYN_EVENT 8

/-- The pin routed to spare meter i: its own, unless an INPUT claim routed another (R412). -/
def routedPin (d : Device) (i : Nat) : Nat :=
  if (mtrOwner d i).1 = 0 || fld d (Reg.SYN_MTR_OWNER i) 10 8 ≥ 4 then i else 4 * (i / 4) + fld d (Reg.SYN_MTR_OWNER i) 10 8

/-! ### Fields of a pin (R439) -/

def pinFn (d : Device) (j : Nat) : Nat := fld d (Reg.SYN_PIN_CFG j) 2 0
def pinDom (d : Device) (j : Nat) : Nat := fld d (Reg.SYN_PIN_CFG j) 6 4
def pinOwner (d : Device) (j : Nat) : Nat × Nat := (fld d (Reg.SYN_PIN_OWNER j) 2 0, fld d (Reg.SYN_PIN_OWNER j) 7 4)
def pinShaft (d : Device) (j : Nat) : Nat := fld d (Reg.SYN_PIN_CFG j) 17 16

/-- The pin drives a schedule. -/
def pinOut (d : Device) (j : Nat) : Bool := pinFn d j == 1 || pinFn d j == 2 || pinFn d j == 3 || pinFn d j == 5

/-- SHEARED, MUTED and SUSPENDED. -/
def pinHeld (d : Device) (j : Nat) : Bool := fld d (Reg.SYN_PIN_STATUS j) 3 1 != 0

/-- The pin owned by an owner, or by nobody. -/
def pinFree (d : Device) (j : Nat) (o : Nat × Nat) : Bool := (pinOwner d j).1 == 0 || pinOwner d j == o
def mtrFree (d : Device) (i : Nat) (o : Nat × Nat) : Bool := (mtrOwner d i).1 == 0 || mtrOwner d i == o

/-! ### Drivers -/

/-- A pin's driver takes a level, or high impedance; LEVEL follows a driven level. -/
def setDrive (d : Device) (j : Nat) (l : Option Bool) : Device :=
  if (pinOf d j).drive = l then d
  else
    let d := emit (modPin d j (fun p => { p with drive := l })) (.pin j l)
    match l with
    | some b => setFlag d (Reg.SYN_PIN_STATUS j) 0 b
    | none => d

/-- One second in fifths of 2^-16 ns. -/
def secFifths : Nat := 1000000000 * 65536 * 5

/-- The n-th edge of a schedule: time and level (R415, R417, R418, R331). -/
def pinEdge (p : Pin) (fn n : Nat) : Option (Int × Bool) :=
  match fn with
  | 2 =>
    if p.count ≠ 0 ∧ p.count ≤ n / 2 then none
    else some (((p.start + n / 2 * p.period + n % 2 * p.width) * 5 : Nat), n % 2 == 0)
  | 3 => some (((n / 2 * secFifths + n % 2 * p.width * 5 : Nat) : Int) + p.offset, n % 2 == 0)
  | _ => (p.queue[n]?).map (fun e => (((e.1 * 5 : Nat) : Int), e.2))

/-- How many edges of a schedule lie at or before a time. -/
def edgesBefore (p : Pin) (fn : Nat) (t : Int) : Nat :=
  match fn with
  | 2 =>
    if t < (p.start * 5 : Nat) then 0
    else
      let x := t.toNat - p.start * 5
      let k := x / (max p.period 1 * 5)
      if p.count ≠ 0 ∧ p.count ≤ k then 2 * p.count
      else 2 * k + (if p.width * 5 ≤ x % (max p.period 1 * 5) then 2 else 1)
  | 3 =>
    if t < p.offset then 0
    else
      let x := (t - p.offset).toNat
      2 * (x / secFifths) + (if p.width * 5 ≤ x % secFifths then 2 else 1)
  | _ => (p.queue.filter (fun e => decide (((e.1 * 5 : Nat) : Int) ≤ t))).length

/-- The level a schedule gives once n of its edges have passed (log 29). -/
def levelAfter (p : Pin) (fn n : Nat) : Bool :=
  if n = 0 then p.base else match pinEdge p fn (n - 1) with | some e => e.2 | none => false

/-- A time base in fifths of 2^-16 ns. -/
def tbFifths (d : Device) (n : Nat) : Int := (tbVal d n * 5 / 2 ^ 32 : Nat)

/-- Where an edge due at a time of a domain lies on the tick count, placed at the nearest step of 1.5625 ps (R416). -/
def placeEdge (d : Device) (n : Nat) (t : Int) : Nat :=
  let back : Int := ((tbVal d n * 5 : Nat) : Int) - t * (2 ^ 32 : Nat)
  let e : Int := (d.tick * 262144 : Nat) - back * 262144 / ((max (tbIncr d n) 1 * 5 : Nat) : Int)
  ((e + 256) / 512 * 512).toNat

/-- A level change at a place on the tick count, dropped where it would make a phase shorter than 1.6 ns (R416). -/
def pinMove (d : Device) (j at_ : Nat) (l : Bool) (adj : Bool) : Device :=
  let p := pinOf d j
  if p.drive = some l || pairedOff d 2 then d
  else if (match p.moved with | some m => decide (at_ < m + 524288) | none => false) then
    event (bump d (Reg.SYN_CNT 1)) Reg.SYN_EVENT 3
  else
    let d := setDrive (modPin d j (fun p => { p with moved := some at_ })) j (some l)
    if adj then event (bump d (Reg.SYN_CNT 2)) Reg.SYN_EVENT 4 else d

/-- A pulse of a PPS pin is withheld (R331). -/
def ppsWithheld (d : Device) (n : Nat) (gated : Bool) : Bool :=
  gated && (uncertain d n || fld d (Reg.TRL_STATUS (activeSide d)) 2 0 == 0)

/-- The next schedule edge of a pin, once it is due: consumed and, unless withheld or too soon, emitted. -/
def pinNext (d : Device) (j : Nat) : Device :=
  let p := pinOf d j
  let fn := pinFn d j
  let n := pinDom d j
  match pinEdge p fn p.next with
  | none => d
  | some (t, l) =>
    if pinOut d j && tbEn d n && !pinHeld d j && decide (t ≤ tbFifths d n) then
      let d := modPin d j (fun p => { p with next := p.next + 1 })
      if fn = 3 && l && ppsWithheld d n p.gated then modPin d j (fun p => { p with next := p.next + 1 })
      else pinMove d j (placeEdge d n t) l false
    else d

/-- The pin takes the level its schedule gives for the present time; edges passed over are consumed (R420). -/
def pinRealign (d : Device) (j : Nat) : Device :=
  let n := pinDom d j
  if pinOut d j && tbEn d n && !pinHeld d j then
    let k := edgesBefore (pinOf d j) (pinFn d j) (tbFifths d n)
    let d := modPin d j (fun p => { p with next := k })
    let l := levelAfter (pinOf d j) (pinFn d j) k
    pinMove d j (d.tick * 262144) (l && !(pinFn d j == 3 && ppsWithheld d n (pinOf d j).gated)) true
  else d

/-- Every pin whose schedule runs on a time base realigns (R420). -/
def pinsMoved (d : Device) (n : Nat) : Device := each (upTo 16) d (fun d j => if pinDom d j = n then pinRealign d j else d)

/-- What a muted output pin drives: IDLE_LEVEL; high impedance where the pin is paired and the member is off or not SOLO (R574). -/
def idleDrive (d : Device) (j : Nat) : Option Bool :=
  if flag d Reg.RED_PAIR 2 && (pairedOff d 2 || fld d Reg.RED_GRAFT_STATUS 2 0 != 0) then none
  else some (flag d (Reg.SYN_PIN_CFG j) 12)

/-- Paired outputs have been turned on or off: output pins that are paired go to high impedance, or take their level (R574). -/
def pairPins (d : Device) : Device :=
  each (upTo 16) d (fun d j =>
    if !pinOut d j || fld d (Reg.SYN_PIN_STATUS j) 3 3 == 1 || flag d (Reg.SYN_PIN_STATUS j) 1 then d
    else if flag d (Reg.SYN_PIN_STATUS j) 2 then setDrive d j (idleDrive d j)
    else if pairedOff d 2 then setDrive d j none
    else pinRealign d j)

/-- No side holds a claim with health above 0: output pins drive IDLE_LEVEL, muted; or a side has it again (R420). -/
def pinsMute (d : Device) (mute : Bool) : Device :=
  each (upTo 16) d (fun d j =>
    if !pinOut d j || fld d (Reg.SYN_PIN_STATUS j) 3 3 == 1 || flag d (Reg.SYN_PIN_STATUS j) 1 then d
    else if mute then
      setDrive (setFlag d (Reg.SYN_PIN_STATUS j) 2 true) j (idleDrive d j)
    else if flag d (Reg.SYN_PIN_STATUS j) 2 then pinRealign (setFlag d (Reg.SYN_PIN_STATUS j) 2 false) j
    else d)

/-- Shears forces a pin to its safe level, an unclaimed pin to high impedance (R421). -/
def pinShear (d : Device) (j : Nat) : Device :=
  let l : Option Bool :=
    if (pinOwner d j).1 = 0 then none
    else
      match fld d (Reg.SYN_PIN_CFG j) 9 8 with
      | 0 => some false
      | 1 => some true
      | 2 => none
      | _ => (pinOf d j).drive
  setFlag (setDrive d j l) (Reg.SYN_PIN_STATUS j) 1 true

/-- The safe state is released: claimed pins stay at their safe level, suspended (R422). -/
def pinSuspend (d : Device) (j : Nat) : Device :=
  if (pinOwner d j).1 = 0 then d else setFlag d (Reg.SYN_PIN_STATUS j) 3 true

/-! ### Releases and claims (R409 to R412, R414) -/

/-- A pin is released: OFF, pending edges discarded, its routed meter free (R409, R414). -/
def releasePin (d : Device) (j : Nat) : Device :=
  if (pinOwner d j).1 = 0 then d
  else
    let o := rd d (Reg.SYN_PIN_OWNER j)
    let d := if bit o 10 then freeMeter d (4 * (j / 4) + bits o 9 8) else d
    let d := setFld (wr (wr d (Reg.SYN_PIN_CFG j) 0) (Reg.SYN_PIN_OWNER j) 0) (Reg.SYN_PIN_STATUS j) 3 2 0
    let d := modPin d j (fun p => { drive := p.drive, moved := p.moved })
    setDrive (event d Reg.SYN_EVENT 8) j none

/-- A spare meter and the pin routed to it are claimed as an input (R358, R412). -/
def claimInput (d : Device) (o : Nat × Nat) (i j : Nat) : Device :=
  let old := rd d (Reg.SYN_PIN_OWNER j)
  let d := if bit old 10 && 4 * (j / 4) + bits old 9 8 != i then freeMeter d (4 * (j / 4) + bits old 9 8) else d
  let d := wr d (Reg.SYN_MTR_OWNER i) (o.1 + 16 * o.2 + 256 * (j % 4))
  let d := wr d (Reg.SYN_PIN_OWNER j) (o.1 + 16 * o.2 + 256 * (i % 4) + 1024)
  let d := setFld (setFld d (Reg.SYN_PIN_CFG j) 2 0 4) (Reg.SYN_PIN_STATUS j) 3 1 0
  setDrive (modPin d j (fun p => { drive := p.drive, moved := p.moved })) j none

/-- Every claim of an owner on pins and meters is released (R409). -/
def releaseAll (d : Device) (o : Nat × Nat) : Device :=
  let d := each (upTo 16) d (fun d j => if pinOwner d j = o then releasePin d j else d)
  each (upTo 16) d (fun d i => if mtrOwner d i = o then freeMeter d i else d)

end Sys2Proof.Machine
end

