-- ==== Sys2Proof/Machine/CfOps.lean ====
section
/-! DEFINITION. The Cold Frame's records: notes, the audit trail, totaliser rings and result rings (R398 to R401, R405, R406). -/

namespace Sys2Proof.Machine

/-- CF_NOTE_SEQ moves and the Cold Frame's interrupt event is set (R405). -/
def cfNote (d : Device) : Device :=
  event (modCf d (fun c => { c with note := (c.note + 1) % 2 ^ 32 })) Reg.GLB_CF_EVENT 0

/-- The active parameter record (R400). -/
def cfActive (d : Device) : Option CfParam := if d.cf.bankSel then d.cf.bank1 else d.cf.bank0

/-- The partition is SEALED. -/
def cfSealed (d : Device) : Bool := d.cf.st == 2

/-- An entry's words (R398). -/
def auditWords (d : Device) (seq kind source cnt d0 d1 : Nat) (timeOk recovered : Bool) : List Word :=
  let t := tbVal d 0
  [w32 seq, w32 (kind + 2 ^ 8 * source + 2 ^ 16 * d.cf.st + 2 ^ 19 * b2n timeOk + 2 ^ 20 * b2n recovered),
   w32 (tvNs t), w32 (tvSec t), w32 (tvSec t / 2 ^ 32 % 65536), w32 cnt, w32 d0, w32 d1]

/-- TIME_VALID of an entry written at its event. -/
def auditTime (d : Device) : Bool := !uncertain d 0

/-- Write an entry into the general ring, which overwrites its oldest (R399). -/
def auditGeneral (d : Device) (kind source d0 d1 : Nat) (timeOk recovered : Bool) : Device :=
  let n := d.cf.generalN
  let e := auditWords d n kind source d.cf.eventCnt d0 d1 timeOk recovered
  cfNote (modCf d (fun c =>
    { c with general := tput (tdrop c.general (n - 1024)) n e, generalN := n + 1 }))

/-- Legal entries that can still be written. -/
def legalFree (d : Device) : Nat := 1024 - d.cf.legalN

/-- Write an entry into the legal region: the event counter goes up (R400); with the region full it goes to the general region
and AUDIT_FULL is set (R399). -/
def auditLegal (d : Device) (kind source d0 d1 : Nat) (timeOk recovered : Bool) : Device :=
  let d := modCf d (fun c => { c with eventCnt := (c.eventCnt + 1) % 2 ^ 32 })
  if legalFree d = 0 then modCf (auditGeneral d kind source d0 d1 timeOk recovered) (fun c => { c with auditFull := true })
  else
    let n := d.cf.legalN
    let e := auditWords d n kind source d.cf.eventCnt d0 d1 timeOk recovered
    cfNote (modCf d (fun c => { c with legal := tput c.legal n e, legalN := n + 1 }))

/-- Entries whose DETAIL the spec does not state, by KIND: free values (log 2). -/
def auditGeneralFree (d : Device) (kind source : Nat) (timeOk : Bool) : Device :=
  nextFree (nextFree (auditGeneral d kind source (freeVal d) (freeVal (nextFree d)) timeOk false))

/-- The same in the legal region. -/
def auditLegalFree (d : Device) (kind source : Nat) (timeOk : Bool) : Device :=
  nextFree (nextFree (auditLegal d kind source (freeVal d) (freeVal (nextFree d)) timeOk false))

/-- A LOCK_VIOLATION entry for a refused request, with its opcode and status (R398). -/
def lockViolation (d : Device) (source opcode : Nat) : Device :=
  modCf (auditGeneral d 0x10 source opcode 0x0006 (auditTime d) false) (fun c => { c with lockv := min (c.lockv + 1) (2 ^ 32 - 1) })

/-- A fault of the Cold Frame's engines (R530). -/
def cfFault (d : Device) (cause : Nat) : Device := occur d { cause := cause, unit := uCE 0 }

/-! ### Totalisers (R401) -/

def cfTotal (d : Device) (j : Nat) : CfTotal := tget (fun _ => {}) d.cf.totals j
def modTotal (d : Device) (j : Nat) (f : CfTotal → CfTotal) : Device :=
  modCf d (fun c => { c with totals := tmod (fun _ => {}) c.totals j f })

/-- POSITION of the LENGTH job that runs on channel j. -/
def cfPosition (d : Device) (j : Nat) : Int :=
  match (meterOf d (60 + 2 * j)).job with
  | some x => if x.mode = 4 then x.pos else 0
  | none => 0

/-- TOTAL of channel j, live (R394, R405). -/
def cfLive (d : Device) (j : Nat) : Int := (cfTotal d j).total + cfPosition d j

/-- Write TOTAL into the next slot of the channel's ring (R401). -/
def totalWrite (d : Device) (j : Nat) (v : Int) : Device :=
  modTotal d j (fun t =>
    { t with rseq := t.rseq + 1, ring := tset (fun _ => none) t.ring ((t.rseq + 1) % 4096) (some (v, t.rseq + 1)), at_ := d.now })

/-- Channel j is enabled in the active record (R393). -/
def chanEn (d : Device) (j : Nat) : Bool :=
  match cfActive d with
  | some p => match p.chans[j]? with | some c => c.en | none => false
  | none => false

/-! ### Result rings (R406) -/

/-- A result record of Cold Frame meter i enters its ring, with LEGAL and UNCOMMITTED; chan is whether an enabled channel's job
wrote it. -/
def cfResult (d : Device) (i : Nat) (chan : Bool) (ws : List Word) : Device :=
  let n := tget (fun _ => 0) d.cf.widx i
  let unc := chan && (cfTotal d (i / 2)).uncommitted
  let w1 := (ws.getD 1 0).toNat
  let legal := chan && cfSealed d && bits w1 9 2 == 0 && !unc
  let ws := ws.set 1 (w32 (w1 + 2 ^ 16 * b2n legal + 2 ^ 17 * b2n unc))
  let d := if unc then modTotal d (i / 2) (fun t => { t with uncommitted := false }) else d
  cfNote (modCf d (fun c =>
    { c with rings := tset (fun _ => []) c.rings (16 * i + n % 16) ws, widx := tset (fun _ => 0) c.widx i ((n + 1) % 2 ^ 32) }))

end Sys2Proof.Machine
end

