-- ==== Sys2Proof/Machine/MeterOps.lean ====
section
/-! DEFINITION. Fine interval meters: methods, accepted edges and stamps, jobs, gates and result records (R338 to R376), and
the Trellis's use of REFIN stamps (R285, R286, R355). Event times are in fifths of 2^-16 ns on the tick count, 262,144 to a
tick; stamps on a time base are in 2^-16 ns. -/

namespace Sys2Proof.Machine

/-! ### Fields of a meter -/

def modJob (d : Device) (k : Nat) (f : Job → Job) : Device := modMeter d k (fun m => { m with job := m.job.map f })

/-- The meter has a CLK window (R338). -/
def inWindow (k : Nat) : Bool := decide (40 ≤ k) && decide (k < 60)
def mtrEvent (d : Device) (k b : Nat) : Device := if inWindow k then event d (Reg.CLK_MTR_EVENT (k - 40)) b else d
def mtrBump (d : Device) (k c : Nat) : Device := if inWindow k then bump d (Reg.CLK_MTR_CNT (k - 40) c) else d

/-- PRE of a frequency (R286). -/
def preFor (freq : Nat) : Nat := max 1 ((freq + 9999999) / 10000000)

/-- PRE of a meter (R286, R355). -/
def preOf (d : Device) (k : Nat) : Nat :=
  if 40 ≤ k ∧ k < 44 then
    match refinEntry d (k - 40) with
    | some (x, e) => preFor (cw d x e 6 29 0)
    | none => match (meterOf d k).job with | some j => preFor j.fnom | none => 1
  else 1

/-- The job that a meter serves as stop meter or B input, by key. -/
def serves (d : Device) (k : Nat) : Option Nat :=
  (d.meters.find? (fun e => match e.2.job with
    | some j => (j.mode == 2 || j.mode == 4) && j.partner == some k
    | none => false)).map Prod.fst

/-- The meter decodes quadrature, as A or as B (R374). -/
def inLength (d : Device) (k : Nat) : Bool :=
  (match (meterOf d k).job with | some j => j.mode == 4 | none => false)
    || (match serves d k with
        | some q => (match (meterOf d q).job with | some j => j.mode == 4 | none => false)
        | none => false)

/-- The stored conditioning of a meter, laid out as COND (R378). -/
def condOf (d : Device) (k : Nat) : Nat :=
  if inWindow k then rd d (Reg.CLK_MTR_COND (k - 40)) else tget (fun _ => 0) d.cf.cond (k - 60)

/-- EDGE in force (R352, R355, R374). -/
def edgeOf (d : Device) (k : Nat) : Nat :=
  if inLength d k then 2
  else if 40 ≤ k ∧ k < 44 then
    match refinEntry d (k - 40) with
    | some (x, e) => cw d x e 6 31 31
    | none => bits (condOf d k) 1 0
  else bits (condOf d k) 1 0

/-! ### Arithmetic of results (R370, R373) -/

/-- The nearest whole number to a / b, halves up. -/
def nearest (a : Int) (b : Nat) : Int := (2 * a + b) / ((2 * b : Nat) : Int)

/-- Whole square root of a number below 2^600. -/
def rootBig (v : Nat) : Nat := isqrtFrom v 300 0

/-- The least whole r with r² ≥ a / b. -/
def rootUp (a b : Nat) : Nat :=
  let c := (a + b - 1) / b
  let r := rootBig c
  if r * r < c then r + 1 else r

/-- The whole number nearest to the square root of a / b. -/
def rootNear (a b : Nat) : Nat := (rootBig (4 * a / b) + 1) / 2

/-- A 64-bit value as two words, low first. -/
def int2 (x : Int) : List Word := words2 (unsigned 64 x)

/-- Words 6 to 14 of a FREQ result, with VALID and NO_UNC (R370, R372). -/
def freqWords (j : Job) (pre : Nat) : Nat × List Word :=
  let sxx := j.n * j.sxx - j.sx * j.sx
  let sxy := j.n * j.sxy - j.sx * j.sy
  let slot := j.decim * pre
  if j.n < 2 || sxx = 0 || sxy = 0 then (0, List.replicate 9 0)
  else
    let period := nearest ((sxy * 65536 : Nat) : Int) (sxx * slot)
    -- 10^9 · 2^16 / PER in Hz, as a fraction
    let fn := 1000000000 * 65536 * sxx * slot
    let freq := nearest ((fn * 2 ^ 32 : Nat) : Int) sxy
    let lim : Int := (2 ^ 63 - 1 : Nat)
    let foff := if j.fnom = 0 then 0
      else clampTo lim (nearest (((fn : Nat) - (j.fnom * sxy : Nat) : Int) * 1000000000000000) (sxy * j.fnom))
    let unc := decide (j.m ≠ 0)
    let u := if unc then rootUp (j.sdd * j.n * 10 ^ 36 * sxx) (6 * j.m * sxy * sxy) else 0
    let sg := if unc then rootUp j.sdd (6 * j.m) else 0
    (1 + 2 * b2n (!unc), int2 period ++ int2 freq ++ int2 foff ++ int2 u ++ [w32 sg])

/-- Words 6 to 14 of an INTERVAL result (R373). -/
def intervalWords (c : Carry) : Nat × List Word :=
  if c.cnt = 0 then (0, List.replicate 8 0 ++ [w32 c.unpaired])
  else
    let v := c.cnt * c.sumSq - (c.sum * c.sum).toNat
    let sd := if c.cnt < 2 then 0 else rootNear v (c.cnt * (c.cnt - 1))
    (1, int2 (nearest c.sum c.cnt) ++ int2 c.least ++ int2 c.most ++ [w32 sd, 0, w32 c.unpaired])

/-- The gate's INTERVAL sums. -/
def carryOf (j : Job) (flags start : Nat) : Carry :=
  { openAt := j.openAt, k := j.k, flags := flags, start := start, cnt := j.cnt, sum := j.sum, sumSq := j.sumSq, least := j.least,
    most := j.most, unpaired := j.unpaired, missed := j.missed }

/-- Words 6 to 14 of a LENGTH result (R368, R374, R375). -/
def lengthWords (j : Job) : Nat × List Word :=
  (1, int2 j.pos ++ int2 (j.pos - j.pos0)
    ++ [w32 (j.lastCount / 65536 % 1000000000), w32 (j.lastCount / 65536 / 1000000000), w32 j.qerrs, w32 j.revs, 0])

/-- A 16-word record (R368). -/
def recordWords (mode meter k flags domain openNs n : Nat) (mid : List Word) (missed : Nat) : List Word :=
  [w32 (mode + 2 ^ 4 * meter + 2 ^ 16 * (k % 65536)), w32 (flags + 2 ^ 13 * domain), w32 (openNs % 1000000000),
   w32 (openNs / 1000000000), w32 (openNs / 1000000000 / 2 ^ 32), w32 n] ++ mid ++ [w32 (min missed (2 ^ 32 - 1))]

/-! ### Queues (R361, R364, R368) -/

/-- A record or stamp is lost (R364, R368). -/
def mtrLost (d : Device) (k : Nat) : Device := mtrEvent (mtrBump d k 3) k 1

/-- A result record leaves for its queue, or for the Cold Frame's ring (R368, R406). -/
def pushResult (d : Device) (k : Nat) (cls : Nat) (ws : List Word) : Device :=
  if 60 ≤ k then cfResult d (k - 60) (cls == 2) ws
  else
    let m := meterOf d k
    if m.results.length ≥ 16 then mtrLost d k
    else
      let d := if m.results.isEmpty then mtrEvent d k 0 else d
      modMeter d k (fun m => { m with results := m.results ++ [ws] })

/-- A stamp record leaves for the stamp queue (R364, R367, R239). -/
def pushStamp (d : Device) (k : Nat) (t idx : Nat) : Device :=
  let m := meterOf d k
  if m.stamps.length ≥ 256 then mtrLost d k
  else
    let sec := t / 65536 / 1000000000
    let ws := [w32 (t / 65536 % 1000000000), w32 sec, w32 (sec / 2 ^ 32 % 65536 + 65536 * (t % 65536)), w32 idx]
    modMeter d k (fun m => { m with stamps := m.stamps ++ [ws] })

/-! ### Gates (R365, R366) -/

/-- The meter number of a record (R368). -/
def meterNo (k : Nat) : Nat := if k < 60 then k - 40 else k - 60

/-- Flags whose cause holds at present (R366): SLEWED, DEGRADED. -/
def holdFlags (d : Device) (k : Nat) (j : Job) : Nat :=
  let m := meterOf d k
  let bad := m.method == 1 || m.method == 3
  let badP := match j.partner with
    | some q => (j.mode == 2 || j.mode == 4) && ((meterOf d q).method == 1 || (meterOf d q).method == 3)
    | none => false
  8 * b2n (tbOf d (activeSide d) j.domain).slew.isSome + 256 * b2n (bad || badP)

/-- The record of an INTERVAL gate. -/
def pushInterval (d : Device) (k : Nat) (j : Job) (c : Carry) : Device :=
  let r := intervalWords c
  pushResult d k j.cls (recordWords 2 (meterNo k) c.k (Nat.lor c.flags r.1) j.domain c.openAt c.cnt r.2 c.missed)

/-- A carried gate is recorded with the pairs it has. -/
def flushCarry (d : Device) (k : Nat) : Device :=
  match (meterOf d k).job with
  | some j =>
    match j.carry with
    | some c => modJob (pushInterval d k j c) k (fun j => { j with carry := none })
    | none => d
  | none => d

/-- The record of the present gate, with more flags; last is whether no later gate follows, so that a waiting start ends. -/
def gateRecord (d : Device) (k more : Nat) (last : Bool) : Device :=
  match (meterOf d k).job with
  | none => d
  | some j =>
    let flags := Nat.lor (Nat.lor j.flags more) (holdFlags d k j)
    match j.mode with
    | 2 =>
      let d := flushCarry d k
      match j.start with
      | some s =>
        if last then pushInterval d k j (carryOf j flags s)
        else modJob d k (fun x => { x with carry := some (carryOf j flags s), start := none })
      | none => pushInterval d k j (carryOf j flags 0)
    | 3 =>
      let r := freqWords j (preOf d k)
      -- without two stamps every field of the mode is 0 (R372)
      let missed := if r.1 = 0 then 0 else j.missed
      pushResult d k j.cls (recordWords 3 (meterNo k) j.k (Nat.lor flags r.1) j.domain j.openAt j.n r.2 missed)
    | 4 =>
      let r := lengthWords j
      let d := if decide (60 ≤ k) && j.cls == 2 && j.pos != j.pos0 then totalWrite d ((k - 60) / 2) (cfLive d ((k - 60) / 2)) else d
      pushResult d k j.cls
        (recordWords 4 (meterNo k) j.k (Nat.lor (Nat.lor flags (4096 * b2n (decide (0 < j.qerrs)))) r.1) j.domain j.openAt j.n r.2 j.missed)
    | m => pushResult d k j.cls (recordWords m (meterNo k) j.k flags j.domain j.openAt 0 (List.replicate 9 0) j.missed)

/-- The accumulators of a fresh gate. -/
def freshGate (d : Device) (k : Nat) (j : Job) : Job :=
  { j with
    flags := holdFlags d k j, idx := 0, n := 0, sx := 0, sy := 0, sxy := 0, sxx := 0, sdd := 0, m := 0, last1 := none,
    last2 := none, start := none, cnt := 0, sum := 0, sumSq := 0, least := 0, most := 0, unpaired := 0, pos0 := j.pos, qerrs := 0,
    revs := 0, missed := 0 }

/-! ### The end of a job (R357, R358) -/

/-- Give back the claims of a sync-pin job on a meter: the meter and the pin routed to it. -/
def dropInput (d : Device) (k : Nat) : Device :=
  if 44 ≤ k ∧ k < 60 then
    let i := k - 44
    let d := releasePin d (routedPin d i)
    if (mtrOwner d i).1 = 0 then d else freeMeter d i
  else d

/-- The job ends: its claims are released and JOB_DONE is set (R357). -/
def endJob (d : Device) (k : Nat) : Device :=
  match (meterOf d k).job with
  | none => d
  | some j =>
    let d := flushCarry d k
    let d := dropInput d k
    let d := match j.partner with
      | some q => if (j.mode = 2 ∧ q ≠ k) ∨ j.mode = 4 then dropInput d q else d
      | none => d
    mtrEvent (modMeter d k (fun m => { m with job := none })) k 5

/-- The present gate closes, or ends early with flags of R366; the next begins at a time in ns (R365). -/
def closeGate (d : Device) (k more next : Nat) : Device :=
  match (meterOf d k).job with
  | none => d
  | some j =>
    let last := decide (j.gates ≠ 0) && decide (j.gates ≤ j.k + 1)
    let d := gateRecord d k more last
    if last then endJob d k
    else modJob d k (fun j => { freshGate d k j with openAt := next, k := j.k + 1 })

/-- The first window of the job whose open is at or after a time in ns (R365, R366). -/
def windowFrom (j : Job) (ns : Nat) : Nat :=
  if ns ≤ j.first then j.first else j.first + (ns - j.first + j.gate - 1) / max j.gate 1 * j.gate

/-- A job's domain time in ns, and the same rounded up. -/
def domNs (d : Device) (n : Nat) : Nat := tbVal d n / nsUnit
def domNsUp (d : Device) (n : Nat) : Nat := (tbVal d n + nsUnit - 1) / nsUnit

/-- A job whose mode has gates. -/
def gated (j : Job) : Bool := decide (1 ≤ j.mode) && decide (j.mode ≤ 4)

/-- A gate of the job is in progress, before a time in ns. -/
def gateRuns (j : Job) (ns : Nat) : Bool := gated j && !j.stopped && decide (j.openAt ≤ ns)

/-- Close every gate that ends at or before a time, at most n. -/
def rollGates (k ns : Nat) : Nat → Device → Device
  | 0, d => d
  | n + 1, d =>
    match (meterOf d k).job with
    | some j =>
      if gated j && !j.stopped && decide (j.openAt + j.gate ≤ ns) then rollGates k ns n (closeGate d k 0 (j.openAt + j.gate)) else d
    | none => d

/-- How many gates of a meter's job end at or before a time. -/
def gatesDue (d : Device) (k ns : Nat) : Nat :=
  match (meterOf d k).job with
  | some j => (ns - j.openAt) / max j.gate 1
  | none => 0

/-- Gates that have ended by a time are recorded. -/
def gatesTo (d : Device) (k ns : Nat) : Device := rollGates k ns (gatesDue d k ns) d

/-- A set, step or restore of a domain ends the gates that run on it; the next are the first windows at or after the new time
(R366). before is the domain time in ns without the change. -/
def cutJob (d : Device) (k flagBit before : Nat) : Device :=
  let d := gatesTo d k before
  match (meterOf d k).job with
  | some j =>
    if !gated j || j.stopped then d
    else
      let next := windowFrom j (domNsUp d j.domain)
      if gateRuns j before then closeGate d k (2 ^ flagBit) next
      else modJob d k (fun j => { j with openAt := next })
  | none => d

/-- Gates of a job stop: the running one ends with a flag (R366). -/
def stopJobGates (d : Device) (k flagBit : Nat) : Device :=
  match (meterOf d k).job with
  | some j =>
    if !gated j || j.stopped then d
    else
      let now := domNs d j.domain
      let d := gatesTo d k now
      let d := match (meterOf d k).job with
        | some j => if gateRuns j now then closeGate d k (2 ^ flagBit) (j.openAt + j.gate) else d
        | none => d
      modJob d k (fun j => { j with stopped := true })
  | none => d

/-- Gates of a job go on at the first window at or after the present time (R366). -/
def goJobGates (d : Device) (k : Nat) : Device :=
  modJob d k (fun j => if j.stopped then { j with stopped := false, openAt := windowFrom j (domNsUp d j.domain) } else j)

/-- Keys of the meters whose jobs run on a domain. -/
def jobsOn (d : Device) (n : Nat) : List Nat :=
  d.meters.filterMap (fun e => match e.2.job with | some j => if j.domain = n then some e.1 else none | none => none)

/-- Keys of the meters with a job. -/
def jobKeys (d : Device) : List Nat := d.meters.filterMap (fun e => if e.2.job.isSome then some e.1 else none)

/-- Set a flag bit in the gates that run on a domain. -/
def flagJobs (d : Device) (ks : List Nat) (b : Nat) : Device :=
  each ks d (fun d k => modJob d k (fun j =>
    if gateRuns j (domNs d j.domain) then { j with flags := Nat.lor j.flags (2 ^ b) } else j))

/-- What a change of a time base means to jobs (R366). -/
def metersMoved (d : Device) (m : Moved) : Device :=
  if m.step then
    each (jobsOn d m.n) d (fun d k => cutJob d k 2 (((tbVal d m.n : Int) - m.by_).toNat / nsUnit))
  else flagJobs d (jobsOn d m.n) (if m.by_ = 0 then 4 else 3)

/-! ### Methods (R346, R350) -/

/-- LANEn_PH_STATUS.VERNIER follows the method of a lane meter (R258). -/
def vernierBit (d : Device) (k : Nat) : Device :=
  if k < 40 then setFlag d (Reg.LANE_PH_STATUS k) 1 ((meterOf d k).method == 1 || (meterOf d k).method == 3) else d

/-- A meter enters a method: its mirror, the DEGRADED flag of gates it serves, and the faults' conditions (R346, R350, R530). -/
def setMethod (d : Device) (k m : Nat) : Device :=
  let u := uMeter k
  let d := vernierBit (modMeter d k (fun x => { x with method := m, extreme := 0, pairs := 0, ringAt := d.dev })) k
  let ks := match serves d k with | some q => [k, q] | none => [k]
  let d := if m = 1 || m = 3 then flagJobs d ks 8 else d
  let d := if m = 3 then d else condEnds d 0x11 u 0
  let d := if m = 4 then d else condEnds d 0x12 u 0
  if m = 3 then
    let d := condBegins (mtrEvent d k 2) { cause := 0x11, unit := u }
    if 60 ≤ k then auditGeneralFree d 0x12 (8 + (k - 60)) (auditTime d) else d
  else if m = 4 then
    let d := condBegins (mtrEvent d k 3) { cause := 0x12, unit := u }
    let d := if 60 ≤ k then auditGeneralFree d 0x12 (8 + (k - 60)) (auditTime d) else d
    match (meterOf d k).job with
    | some j =>
      let d := if gateRuns j (domNs d j.domain) then gateRecord (gatesTo d k (domNs d j.domain)) k 512 true else d
      endJob d k
    | none => d
  else d

/-- A ring passes: measured within 1.0 ps of its nominal period, in 10^-16 s (R345). -/
def ringOk (p nominal : Nat) : Bool := decide (((p : Int) - nominal).natAbs ≤ 10000)

/-- Both rings pass. -/
def ringsOk (pStart pStop : Nat) : Bool := ringOk pStart 4000000 && ringOk pStop 3984375

/-! ### Edges (R341 to R344, R352 to R354) -/

/-- What a conversion gives in fifths of 2^-16 ns: the event on the tick count and the dead time after it (R340 to R344). -/
def convert (d : Device) (m : Meter) : Conv → Option (Nat × Nat)
  | .cap code =>
    if m.method = 2 then
      let tau := clampTo 52428 (max 0 ((Config.tCal m.cal.table code : Int) + m.cal.offs))
      some ((((d.tick + 1) * 262144 : Nat) - 5 * tau).toNat, 1638400)
    else none
  | .vern n rising =>
    if m.method = 1 || m.method = 3 then
      let tau : Nat := n * (m.cal.pStart - m.cal.pStop) * 512 / 15625
      let edge : Nat := if rising then (d.tick + 1) * 262144 else d.tick * 262144 + 131072
      some (edge - tau, n * m.cal.pStart * 512 / 15625 + 524288)
    else none

/-- The stamp of an event on a time base, truncated to 2^-16 ns (R229, R339). -/
def stampOn (d : Device) (n ev : Nat) : Nat :=
  let f : Int := (ev : Int) - (d.tick * 262144 : Nat)
  let rate := if tbEn d n then tbIncr d n else 0
  (((tbVal d n : Int) + f * rate / 262144) / (2 ^ 32 : Nat)).toNat

/-- The FIFO takes a stamp, or loses it (R363). -/
def fifoTake (d : Device) (k : Nat) : Device × Bool :=
  let m := meterOf d k
  let left := m.fifo - (d.tick / 25 - m.fifoAt / 25)
  if left ≥ 64 then (mtrLost d k, false)
  else (modMeter d k (fun m => { m with fifo := left + 1, fifoAt := d.tick }), true)

/-- A FREQ stamp (R369). -/
def freqStamp (j : Job) (t idx : Nat) : Job :=
  if idx % j.decim ≠ 0 then j
  else if j.n ≥ 2 ^ 32 - 1 then { j with flags := Nat.lor j.flags 2048 }
  else
    let x := idx / j.decim
    let y := t - j.openAt * 65536
    let res : Option Nat :=
      match j.last1, j.last2 with
      | some (x1, y1), some (x2, y2) =>
        if x = x1 + 1 ∧ x1 = x2 + 1 then some (((y : Int) - 2 * y1 + y2) * ((y : Int) - 2 * y1 + y2)).toNat else none
      | _, _ => none
    { j with
      n := j.n + 1, sx := j.sx + x, sy := j.sy + y, sxy := j.sxy + x * y, sxx := j.sxx + x * x,
      sdd := j.sdd + res.getD 0, m := j.m + b2n res.isSome, last1 := some (x, y), last2 := j.last1 }

/-- A stop at a time for a waiting start. -/
def pairUp (start t cnt : Nat) (sum : Int) (sumSq : Nat) (least most : Int) : Nat × Int × Nat × Int × Int :=
  let v : Int := (t : Int) - start
  (cnt + 1, sum + v, sumSq + (v * v).toNat, if cnt = 0 then v else min least v, if cnt = 0 then v else max most v)

/-- A stop stamp of an INTERVAL job: the waiting start, of this gate or of the one before, is paired (R373). -/
def intervalStop (d : Device) (k t : Nat) : Device :=
  match (meterOf d k).job with
  | none => d
  | some j =>
    match j.carry with
    | some c =>
      if t < c.start then d
      else
        let r := pairUp c.start t c.cnt c.sum c.sumSq c.least c.most
        let d := pushInterval d k j { c with cnt := r.1, sum := r.2.1, sumSq := r.2.2.1, least := r.2.2.2.1, most := r.2.2.2.2 }
        modJob d k (fun j => { j with carry := none })
    | none =>
      match j.start with
      | some s =>
        if t < s then d
        else
          let r := pairUp s t j.cnt j.sum j.sumSq j.least j.most
          modJob d k (fun j =>
            { j with start := none, cnt := r.1, sum := r.2.1, sumSq := r.2.2.1, least := r.2.2.2.1, most := r.2.2.2.2 })
      | none => d

/-- A start stamp of an INTERVAL job (R373). -/
def intervalStart (d : Device) (k t idx : Nat) : Device :=
  match (meterOf d k).job with
  | none => d
  | some j =>
    if idx % j.decim ≠ 0 then d
    else
      let d := match j.carry with
        | some c => modJob (pushInterval d k j { c with unpaired := c.unpaired + 1 }) k (fun j => { j with carry := none })
        | none => d
      modJob d k (fun j => { j with unpaired := j.unpaired + b2n j.start.isSome, start := some t })

/-- What a gate counts, where one is in progress: outside one POSITION alone moves (R365, R368, R376). -/
def inGateOnly (inGate : Bool) (j x : Job) : Job :=
  if inGate then x else { x with n := j.n, revs := j.revs, qerrs := j.qerrs, pos0 := x.pos }

/-- A quadrature error (R375): the last count is taken back where its edge was one of the two. -/
def quadError (d : Device) (k : Nat) (undo inGate : Bool) (a b : Bool) : Device :=
  let d := mtrEvent d k 6
  let d := if 60 ≤ k then modTotal d ((k - 60) / 2) (fun t => { t with qerrs := min (t.qerrs + 1) (2 ^ 32 - 1) }) else d
  modJob d k (fun j => inGateOnly inGate j
    { j with
      qerrs := j.qerrs + 1, qst := some (a, b),
      pos := if undo then j.pos - j.lastStep else j.pos,
      n := if undo && j.lastStep != 0 then j.n - 1 else j.n,
      revs := if undo && j.lastRev then j.revs - 1 else j.revs,
      lastStep := 0, lastRev := false })

/-- An accepted edge of A or B of a LENGTH job (R374, R375): its level after it, its event time and its stamp. -/
def quadEdge (d : Device) (k : Nat) (isA rising : Bool) (ev t : Nat) : Device :=
  match (meterOf d k).job with
  | none => d
  | some j =>
    let la := (meterOf d k).level
    let lb := match j.partner with | some q => (meterOf d q).level | none => false
    let st := j.qst.getD (la, lb)
    let exp : Bool × Bool := if isA then (rising, st.2) else (st.1, rising)
    let other := if isA then j.lastB else j.lastA
    let near := match other with
      | some o => decide ((((ev : Int) - o).natAbs) < j.qsep * 262144) || o == ev
      | none => false
    let bad := near || (if isA then st.1 == rising else st.2 == rising) || exp != (la, lb)
    let d := modJob d k (fun j => if isA then { j with lastA := some ev } else { j with lastB := some ev })
    let inGate := gateRuns j (t / 65536)
    if bad then quadError d k near inGate la lb
    else
      let fwd := if isA then exp.1 != exp.2 else exp.1 == exp.2
      let up := fwd != j.swap
      let rev := match j.dir with | some x => x != up | none => false
      modJob d k (fun j => inGateOnly inGate j
        { j with
          qst := some exp, dir := some up, pos := j.pos + (if up then 1 else -1), n := j.n + 1, revs := j.revs + b2n rev,
          lastStep := if up then 1 else -1, lastRev := rev, lastCount := t })

/-- A stamp reaches the job of its own meter (R363 to R376). -/
def ownStamp (d : Device) (k t idx ev : Nat) (rising : Bool) : Device :=
  match (meterOf d k).job with
  | none => d
  | some j =>
    match j.mode with
    | 1 => if idx % j.decim = 0 then pushStamp d k t (idx * preOf d k) else d
    | 2 =>
      let d := if j.partner = some k then intervalStop d k t else d
      intervalStart d k t idx
    | 3 => modJob d k (fun j => freqStamp j t idx)
    | 4 => quadEdge d k true rising ev t
    | _ => d

/-- An accepted edge at the job of its meter: the index advances, and a stamp goes to the job (R354, R363, R365). -/
def jobEdge (d : Device) (k ev : Nat) (rising conv : Bool) : Device :=
  match (meterOf d k).job with
  | none => d
  | some j =>
    let t := stampOn d j.domain ev
    let d := gatesTo d k (t / 65536)
    match (meterOf d k).job with
    | none => d
    | some j =>
      if !gateRuns j (t / 65536) then (if j.mode = 4 && conv then quadEdge d k true rising ev t else d)
      else
        let idx := j.idx
        let d := modJob d k (fun j => { j with idx := idx + 1, missed := j.missed + b2n (!conv) })
        if !conv then d
        else
          let r := fifoTake d k
          if r.2 then ownStamp r.1 k t idx ev rising
          else modJob r.1 k (fun j => { j with flags := Nat.lor j.flags 1024 })

/-- An accepted edge at the job that the meter serves as stop or B (R373, R374). -/
def servedEdge (d : Device) (k ev : Nat) (rising : Bool) : Device :=
  match serves d k with
  | none => d
  | some q =>
    if q = k then d
    else
      match (meterOf d q).job with
      | none => d
      | some j =>
        let t := stampOn d j.domain ev
        let d := gatesTo d q (t / 65536)
        let r := fifoTake d k
        if !r.2 then modJob r.1 q (fun j => { j with flags := Nat.lor j.flags 1024 })
        else if j.mode = 2 then intervalStop r.1 q t
        else quadEdge r.1 q false rising ev t

/-- A missed edge of a stop meter or of B counts in the gate of the job it serves (R354, R368). -/
def servedMissed (d : Device) (k ev : Nat) : Device :=
  match serves d k with
  | none => d
  | some q =>
    if q = k then d
    else
      match (meterOf d q).job with
      | none => d
      | some j =>
        let t := stampOn d j.domain ev
        modJob (gatesTo d q (t / 65536)) q (fun j => { j with missed := j.missed + b2n (gateRuns j (t / 65536)) })

/-! ### REFIN stamps at the Trellis (R283 to R286) -/

/-- Least-squares slope of values over ticks, as a fraction per tick; 0 for fewer than two. -/
def slopeTicks (l : List (Nat × Int)) : Q :=
  let n : Int := l.length
  let t0 : Nat := match l.getLast? with | some p => p.1 | none => 0
  let sx := l.foldl (fun a p => a + ((p.1 - t0 : Nat) : Int)) 0
  let sy := l.foldl (fun a p => a + p.2) 0
  let sxy := l.foldl (fun a p => a + ((p.1 - t0 : Nat) : Int) * p.2) 0
  let sxx := l.foldl (fun a p => a + ((p.1 - t0 : Nat) : Int) * ((p.1 - t0 : Nat) : Int)) 0
  frac (n * sxy - sx * sy) (n * sxx - sx * sx)

/-- f of a candidate from the slope of its TE, in 2^-48 ns per tick, on the active tick (R284). -/
def fFromSlope (d : Device) (s : Q) : Int :=
  dcoWord d (activeSide d) - rdiv d (s.num * 5000000000000000) (s.den * 4 * 2 ^ 48)

/-- A stamp of REFINk on TB0 at one entry that names it. -/
def refinAt (d : Device) (x e stamp : Nat) : Device :=
  let freq := max (cw d x e 6 29 0) 1
  let c := candOf d x e
  let c := if within d c.seenAt (refinGap d x e) then c else { c with stamp0 := none, offs := [], k := 0 }
  let s0 := c.stamp0.getD stamp
  let k := if c.stamp0.isSome then c.k + 1 else 0
  let dly := signed 24 (cw d x e 7 23 0) * 256
  let sec : Int := 1000000000 * 65536
  let te16 : Int :=
    if freq = 1 && cTime d x e then
      let v : Int := (stamp : Int) - dly
      v - (2 * v + sec) / (2 * sec) * sec
    else (stamp : Int) - s0 - ((k * preFor freq * 1000000000 * 65536 / freq : Nat) : Int)
  let te := te16 * (2 ^ 32 : Nat)
  let span := if freq = 1 then 16 * secTicks else secTicks
  let due := match c.offs with | p :: _ => decide (p.1 + secTicks / 2048 ≤ d.tick) | [] => true
  let offs := if due then (d.tick, te) :: c.offs.filter (fun p => decide (d.tick ≤ p.1 + span)) else c.offs
  let c := { c with stamp0 := some s0, k := k, seenAt := some d.now, offs := offs }
  let d := modCand d x e (fun _ => c)
  let d := presenceOf d true x e
  if due && decide (2 ≤ offs.length) && (candOf d x e).present then
    nextFree (measured d x e te (fFromSlope d (slopeTicks offs)))
  else d

/-- A stamp of REFINk reaches every Trellis entry that names it. -/
def refinStamp (d : Device) (k ev : Nat) : Device :=
  let t := stampOn d 0 ev
  each (upTo 2) d (fun d x => each (upTo 16) d (fun d e =>
    if cValid d x e && cType d x e == 2 && cIndex d x e == k then refinAt d x e t else d))

/-! ### An edge (R349 to R354) -/

/-- The self-test's look at an accepted event in CAPACITOR: shadow pairs, and codes at an end of the range (R349, R350). -/
def shadow (d : Device) (k : Nat) : Conv → Device
  | .cap code =>
    let m := meterOf d k
    let take_ := match m.shadowAt with | some t => decide (t + 1024 ≤ d.tick) | none => true
    let ext := if code = 0 || code = 1023 then m.extreme + 1 else 0
    let d := modMeter d k (fun m =>
      { m with extreme := ext, pairs := if take_ then m.pairs + 1 else m.pairs,
               shadowAt := if take_ then some d.tick else m.shadowAt })
    if ext ≥ 64 then setMethod d k 3 else d
  | .vern _ _ => d

/-- The input of a meter changes level; INPUT pins show it (R415, R439). -/
def inputLevel (d : Device) (k : Nat) (rising : Bool) : Device :=
  let d := modMeter d k (fun m => { m with level := rising })
  if 44 ≤ k ∧ k < 60 then
    let j := routedPin d (k - 44)
    if pinFn d j = 4 then setFlag d (Reg.SYN_PIN_STATUS j) 0 rising else d
  else d

/-- An edge of a meter's input: rejected, missed, or stamped (R352 to R354). -/
def meterEdge (d : Device) (k : Nat) (rising : Bool) (c : Conv) : Device :=
  let d := inputLevel d k rising
  let m := meterOf d k
  match convert d m c with
  | none => d
  | some (ev, dead) =>
    let cond := if 40 ≤ k then condOf d k else 0
    let held := match m.lastAt with
      | some a => decide (40 ≤ k) && decide (ev < a + bits cond 29 16 * 262144)
      | none => false
    if held then mtrBump d k 1
    else
      let e := if 40 ≤ k then edgeOf d k else 2
      if (e = 0 && !rising) || (e = 1 && rising) then d
      else
        let d := mtrBump (modMeter d k (fun m => { m with lastAt := some ev })) k 0
        let conv := decide (m.deadTo ≤ ev)
        let d := if conv then shadow (modMeter d k (fun m => { m with deadTo := ev + dead })) k c else mtrBump d k 2
        let d := if 40 ≤ k ∧ k < 44 ∧ conv then refinStamp d (k - 40) ev else d
        let d := jobEdge d k ev rising conv
        if conv then servedEdge d k ev rising else servedMissed d k ev

end Sys2Proof.Machine
end

