-- ==== Sys2Proof/Machine/OpsMeas.lean ====
section
/-! DEFINITION. Measurement commands and the events of a meter's method (R345 to R351, R356 to R362, R377, R497). -/

namespace Sys2Proof.Machine

/-! ### MEAS_JOB_START (R356, R360) -/

/-- Word k of a request. -/
def wordOf (ws : List Word) (k : Nat) : Nat := (ws.getD k 0).toNat

/-- The stop meter or B input that a request names, where it may (R362, R374). -/
def partnerOf (k mode : Nat) (ws : List Word) : Option Nat :=
  match keyOfMeter (bits (wordOf ws 0) 31 16) with
  | none => none
  | some q =>
    if mode = 2 then (if (inWindow k && inWindow q) || (decide (60 ≤ k) && decide (60 ≤ q)) then some q else none)
    else if k % 2 = 0 && q == k + 1 && ((decide (44 ≤ k) && decide (k < 60)) || decide (60 ≤ k)) then some q
    else none

/-- The first word of a request that breaks R356, R362 or R374. -/
def measBad (d : Device) (k : Nat) (ws : List Word) : Option Nat :=
  let mode := bits (wordOf ws 0) 3 0
  let w (i : Nat) : Nat := wordOf ws i
  let gate := w 6 + 2 ^ 32 * w 7
  if 5 < mode || (decide (k < 40) && mode != 5) then some 0
  else if mode = 0 || mode = 5 then none
  else if mode = 4 && decide (40 ≤ k) && decide (k < 44) then some 0
  else if (mode = 2 || mode = 4) && (partnerOf k mode ws).isNone then some 0
  else if bits (w 1) 1 0 = 3 || decide (18 < bits (w 1) 8 4) || decide (12500 < bits (w 1) 29 16) then some 1
  else if !tbEn d (bits (w 2) 2 0) || (mode = 4 && decide (12500 < bits (w 2) 29 16)) then some 2
  else if 999999999 < w 3 then some 3
  else if !inRange gate 100000 1000000000000 then some 6
  else if !inRange (bits (w 9) 16 0) 1 65536 then some 9
  else if 800000000 < bits (w 10) 29 0 then some 10
  else none

/-- The meters a job of a request needs. -/
def measKeys (k : Nat) (ws : List Word) : List Nat :=
  let mode := bits (wordOf ws 0) 3 0
  match (if mode = 2 || mode = 4 then partnerOf k mode ws else none) with
  | some q => if q = k then [k] else [k, q]
  | none => [k]

/-- The first meter or pin that another owner holds: its owner and unit (R358, R410). -/
def measHeld (d : Device) (o : Nat × Nat) (ks : List Nat) : Option (Nat × Nat × Nat) :=
  ks.foldl (fun (r : Option (Nat × Nat × Nat)) k =>
    if r.isSome || !(decide (44 ≤ k) && decide (k < 60)) then r
    else
      let i := k - 44
      let j := routedPin d i
      if !mtrFree d i o then some ((mtrOwner d i).1, (mtrOwner d i).2, uSpare i)
      else if !pinFree d j o then some ((pinOwner d j).1, (pinOwner d j).2, uPin j)
      else none) none

/-- Conditioning is written, but for a REFIN that a Trellis entry holds (R356, R358). -/
def writeCond (v : Nat) (d : Device) (k : Nat) : Device :=
  let v := Nat.land v 0x3FFF01F3
  if 60 ≤ k then modCf d (fun c => { c with cond := tset (fun _ => 0) c.cond (k - 60) v })
  else if 44 ≤ k || (refinEntry d (k - 40)).isNone then wr d (Reg.CLK_MTR_COND (k - 40)) v
  else d

/-- The job of a request (R356, R365). -/
def jobOf (d : Device) (k : Nat) (ws : List Word) (o : Nat × Nat) : Job :=
  let w (i : Nat) : Nat := wordOf ws i
  let n := bits (w 2) 2 0
  let mode := bits (w 0) 3 0
  let secs := w 4 + 2 ^ 32 * w 5
  let open_ := if w 3 = 0 && secs = 0 then (tvSec (tbVal d n) + 1) * 1000000000 else secs * 1000000000 + w 3
  let gate := w 6 + 2 ^ 32 * w 7
  let q := if mode = 2 || mode = 4 then partnerOf k mode ws else none
  let j : Job :=
    { mode := mode, partner := q, domain := n, gate := gate, gates := w 8, decim := bits (w 9) 16 0, fnom := bits (w 10) 29 0,
      qsep := bits (w 2) 29 16, swap := bit (w 2) 3, edge := bits (w 1) 1 0, cls := o.1, id := o.2, first := open_,
      qst := some ((meterOf d k).level, match q with | some q => (meterOf d q).level | none => false) }
  { j with openAt := windowFrom j (domNsUp d n + 10000) }

/-- A job is armed: claims, conditioning, cleared queues (R357, R358, R360). -/
def armJob (d : Device) (k : Nat) (ws : List Word) (o : Nat × Nat) (cmd : Option Nat) : Device :=
  let mode := bits (wordOf ws 0) 3 0
  let d := each (measKeys k ws) d (fun d k => if 44 ≤ k ∧ k < 60 then claimInput d o (k - 44) (routedPin d (k - 44)) else d)
  let d := if mode = 5 then d else each (measKeys k ws) d (writeCond (wordOf ws 1))
  if mode = 5 then
    let m := meterOf d k
    let d := modMeter d k (fun m =>
      { m with job := some { mode := 5, cls := o.1, id := o.2, cmd := cmd }, results := [], stamps := [] })
    setMethod (modMeter d k (fun x => { x with before := some (m.method, m.cal) })) k 1
  else
    let j := jobOf d k ws o
    modMeter d k (fun m => { m with job := some j, results := [], stamps := [], fifo := 0, fifoAt := d.tick })

/-- An aborted calibration: the state before the job, with the previous calibration (R346 row 1 (d)). -/
def calAbort (d : Device) (k : Nat) : Device :=
  match (meterOf d k).before with
  | none => endJob d k
  | some (m, cal) =>
    let d := endJob d k
    setMethod (modMeter d k (fun x => { x with cal := cal, before := none })) k m

/-- MEAS_JOB_START on a meter outside the Cold Frame (R360). -/
def opMeasJobStart (d : Device) (c : InFlight) : Device :=
  match keyOfMeter (tgt c) with
  | none => badHeader d c
  | some k =>
    let ws := c.pkt.words
    let mode := pf c 0 3 0
    let o := ownerOf c.origin
    match measBad d k ws with
    | some i => bad d c i
    | none =>
      match measHeld d o (measKeys k ws) with
      | some (cls, id, u) => owned d c cls id u
      | none =>
        let job := (meterOf d k).job
        if mode ≠ 0 && (job.isSome || (mode == 5 && decide (k < 40) && refSelected d (laneOwner d k))) then fail d c stBusy
        else if mode = 0 then
          match job with
          | none => ok d c
          | some j =>
            let d := match j.cmd with | some q => complete (calAbort d k) q stAborted [0] | none => endJob d k
            ok d c
        else if mode = 5 then armJob (toWork d c []) k ws o (some c.seq)
        else ok (armJob d k ws o none) c

/-- ABORT of a calibration (R360). -/
def abortMeasJob (d : Device) (c : InFlight) : Device :=
  match keyOfMeter (tgt c) with
  | none => d
  | some k => complete (calAbort d k) c.seq stAborted [0]

/-! ### MEAS_RESULT and the read window (R361, R377) -/

/-- Records of a queue: 0 results, 1 stamps. -/
def mtrQueue (d : Device) (k : Nat) (stamps : Bool) : List (List Word) :=
  if stamps then (meterOf d k).stamps else (meterOf d k).results

/-- Remove the n oldest records of a queue. -/
def mtrTake (d : Device) (k : Nat) (stamps : Bool) (n : Nat) : Device :=
  modMeter d k (fun m => if stamps then { m with stamps := m.stamps.drop n } else { m with results := m.results.drop n })

/-- MEAS_RESULT (R361). -/
def opMeasResult (d : Device) (c : InFlight) : Device :=
  match keyOfMeter (tgt c) with
  | none => badHeader d c
  | some k =>
    let st := pb c 0 0
    let most := pf c 0 8 4
    if most = 0 || 16 < most then bad d c 0
    else
      let l := (mtrQueue d k st).take most
      okWith (mtrTake d k st l.length) c (w32 l.length :: l.flatten)

/-! ### Calibration and self-test (R345 to R350) -/

/-- The tick is first delivered after reset: every meter calibrates (R346). -/
def calStart (d : Device) : Device :=
  each (upTo 68) d (fun d k =>
    if (meterOf d k).method = 0 && (d.fuse.ma || decide (k < 60)) then
      setMethod d k 1
    else d)

/-- The method a calibration ends in (R346, R347). -/
def calMethod (r : CalResult) : Nat :=
  if !ringsOk r.pStart r.pStop then 4
  else if r.histOk && decide (r.rms ≤ 40000) then 2
  else 3

/-- A calibration ends (R346, R347, R360). -/
def calEnd (d : Device) (k : Nat) (r : CalResult) : Device :=
  if (meterOf d k).method ≠ 1 then d
  else
    let m := calMethod r
    let cmd := match (meterOf d k).job with | some j => j.cmd | none => none
    let isCal := match (meterOf d k).job with | some j => j.mode == 5 | none => false
    let d := modMeter d k (fun x =>
      { x with before := none, cal := { table := r.table, pStart := r.pStart, pStop := r.pStop, offs := 0 }, shadowAt := none })
    let d := mtrEvent (setMethod d k m) k 4
    let d := if isCal && m != 4 then endJob d k else d
    match cmd with
    | none => d
    | some q =>
      let st := if m = 2 then stOk else stNoResource
      if 60 ≤ k then cfNote (modCf d (fun c => { c with replies := c.replies ++ [(q, st, if m = 2 then [] else [0])] }))
      else complete d q st (if m = 2 then [] else [0])

/-- A shadow block of 4,096 pairs ends (R349, R350): mean and rms in 2^-16 ns. A lane meter's edges come without commands. -/
def shadowEnd (d : Device) (k : Nat) (mean : Int) (rms : Nat) : Device :=
  if (meterOf d k).method ≠ 2 || (decide (40 ≤ k) && decide ((meterOf d k).pairs < 4096)) then d
  else
    let d := if inWindow k then wr d (Reg.CLK_MTR_SELFTEST (k - 40)) (unsigned 16 mean + 65536 * min rms 65535) else d
    let d := modMeter d k (fun m => { m with pairs := 0, cal := { m.cal with offs := m.cal.offs + clampTo 16 mean } })
    if mean.natAbs * 1000 > 196608 || rms * 1000 > 393216 then setMethod d k 3 else d

/-- The ring periods are measured once a second in STANDIN (R346 row 3). -/
def ringCheck (d : Device) (k pStart pStop : Nat) : Device :=
  let m := meterOf d k
  if m.method ≠ 3 || d.dev < m.ringAt + secTicks then d
  else
    let d := modMeter d k (fun m => { m with ringAt := d.dev })
    if ringsOk pStart pStop then d else setMethod d k 4

end Sys2Proof.Machine
end

