-- ==== Sys2Proof/Machine/FlashOps.lean ====
section
/-! DEFINITION. The boot flash: slots, image pieces, boot-select records and the choice of the main image (R500, R594,
R604 to R606). -/

namespace Sys2Proof.Machine

/-! ### Layout (R604) -/

/-- Flash offset of a slot. -/
def slotBase (s : Nat) : Nat :=
  match s with
  | 0 => 0x100000
  | 1 => 0x500000
  | 2 => 0x020000
  | _ => 0x010000

/-- Size of a slot in bytes. -/
def slotSize (s : Nat) : Nat :=
  match s with
  | 0 => 0x400000
  | 1 => 0x400000
  | 2 => 0x080000
  | _ => 0x001000

/-- An erased byte (log 13). -/
def flashDflt : Nat → Byte := fun _ => 0xFF

def flashAt (d : Device) (a : Nat) : Byte := tget flashDflt d.pwr.flash a

/-- Program bytes from an address on. -/
def flashPut (d : Device) (a : Nat) : List Byte → Device
  | [] => d
  | b :: t => flashPut (modPwr d (fun p => { p with flash := tset flashDflt p.flash a b })) (a + 1) t

/-- Erase a range. -/
def flashErase (d : Device) (a n : Nat) : Device :=
  modPwr d (fun p => { p with flash := p.flash.filter (fun e => decide (e.1 < a) || decide (a + n ≤ e.1)) })

/-- The bytes of a slot up to its last byte that is not erased (log 17). -/
def slotImage (d : Device) (s : Nat) : List Byte :=
  let a := slotBase s
  let top := d.pwr.flash.foldl (fun (m : Nat) e => if a ≤ e.1 ∧ e.1 < a + slotSize s then max m (e.1 + 1 - a) else m) 0
  (upTo top).map (fun i => flashAt d (a + i))

def slotMarked (d : Device) (s : Nat) : Bool := d.pwr.slotBad.contains s

/-- Mark a slot invalid. -/
def markBad (d : Device) (s : Nat) : Device :=
  if slotMarked d s then d else modPwr d (fun p => { p with slotBad := s :: p.slotBad })

def unmarkBad (d : Device) (s : Nat) : Device :=
  modPwr d (fun p => { p with slotBad := p.slotBad.filter (fun x => x != s) })

/-! ### Boot-select records (R605); their byte layout is the model's (log 17) -/

/-- Bytes of record r: sequence number, slot and CRC-32 of both, least significant byte first. -/
def bootBytes (seq slot : Nat) : List Byte :=
  let b := wordBytes seq ++ wordBytes slot
  b ++ wordBytes (crc32 b)

/-- Record r: its sequence number and slot, where its CRC and its slot number are good. -/
def bootRec (d : Device) (r : Nat) : Option (Nat × Nat) :=
  let b := (upTo 12).map (fun i => flashAt d (0x1000 * r + i))
  let seq := byteAt b 0 + 2 ^ 8 * byteAt b 1 + 2 ^ 16 * byteAt b 2 + 2 ^ 24 * byteAt b 3
  let slot := byteAt b 4 + 2 ^ 8 * byteAt b 5 + 2 ^ 16 * byteAt b 6 + 2 ^ 24 * byteAt b 7
  if decide (b = bootBytes seq slot) && decide (slot ≤ 1) then some (seq, slot) else none

/-- The boot slot by the records: that of the valid record with the higher sequence, slot 0 if none is valid (R606). -/
def bootSlot (d : Device) : Nat :=
  match bootRec d 0, bootRec d 1 with
  | some a, some b => if a.1 < b.1 then b.2 else a.2
  | some a, none => a.2
  | none, some b => b.2
  | none, none => 0

/-- The record with the lower sequence number, an invalid one before a valid one, takes the other's number plus 1 (R605). -/
def bootWrite (d : Device) (slot : Nat) : Device :=
  let r : Nat := match bootRec d 0, bootRec d 1 with
    | some a, some b => if a.1 ≤ b.1 then 0 else 1
    | some _, none => 1
    | _, _ => 0
  let other : Nat := match bootRec d (1 - r) with | some a => a.1 | none => 0
  flashPut (flashErase d (0x1000 * r) 0x1000) (0x1000 * r) (bootBytes ((other + 1) % 2 ^ 32) slot)

/-! ### IMAGE_WRITE (R500, R594) -/

/-- Data of a piece. -/
def pieceBytes (c : InFlight) : List Byte := (bytesOf (c.pkt.words.drop 3)).take (pf c 2 12 0)

/-- The first word of an IMAGE_WRITE that is out of range: the slot, or a piece that does not lie within it. -/
def imageBad (c : InFlight) : Option Nat :=
  let s := pf c 0 2 0
  if 3 < s then some 0
  else if slotSize s < pw c 1 + pf c 2 12 0 then some 1
  else none

/-- Erasing and programming begin; a piece at OFFSET 0 marks the slot invalid and erases it. The work is marked 1 in aux. -/
def imageBegin (d : Device) (c : InFlight) : Device :=
  let s := pf c 0 2 0
  let d := if pw c 1 = 0 then flashErase (markBad d s) (slotBase s) (slotSize s) else d
  modInflight d c.seq (fun c => { c with stage := .work, aux := [1] })

/-- The piece is programmed. -/
def imageProgram (d : Device) (c : InFlight) : Device := flashPut d (slotBase (pf c 0 2 0) + pw c 1) (pieceBytes c)

/-- n free values as bytes (log 2). -/
def freeBytes (d : Device) : Nat → Device × List Byte
  | 0 => (d, [])
  | n + 1 =>
    let b := BitVec.ofNat 8 (freeVal d)
    let (d, l) := freeBytes (nextFree d) n
    (d, b :: l)

/-- An IMAGE_WRITE stopped in work leaves its slot marked invalid (R478); what the piece's bytes then hold is open (log 31). -/
def imageStopped (d : Device) (c : InFlight) : Device :=
  let (d, l) := freeBytes d (pf c 2 12 0)
  flashPut (markBad d (pf c 0 2 0)) (slotBase (pf c 0 2 0) + pw c 1) l

/-- The slot the running firmware booted from; none in recovery or before the boot (R594). -/
def runningSlot (d : Device) : Option Nat :=
  if d.pwr.imageDone && !flag d Reg.GLB_PWR_STATUS 1 then some (fld d Reg.GLB_BOOT_STATUS 0 0) else none

/-- IMAGE_WRITE of a main slot. -/
def opImageWrite (d : Device) (c : InFlight) : Device :=
  match imageBad c with
  | some k => bad d c k
  | none => if runningSlot d = some (pf c 0 2 0) then fail d c stBusy else imageBegin d c

/-- IMAGE_ACTIVATE of a main slot (R594, R605, R479). -/
def opImageActivate (d : Device) (c : InFlight) : Device :=
  let s := pf c 0 2 0
  if 3 < s then bad d c 0
  else if Config.signatureOk s (slotImage d s) then ok (bootWrite (unmarkBad d s) s) c
  else bad (markBad d s) c 0

/-! ### The choice of the main image (R606) -/

/-- Why a slot does not boot: 1 header or length, 2 signature, 3 read error; 0 where it does. -/
def bootFail (d : Device) (s : Nat) (readErr : Bool) : Nat :=
  let b := slotImage d s
  if readErr then 3
  else if slotMarked d s || !Config.headerOk s b then 1
  else if !Config.signatureOk s b then 2
  else 0

/-- Slots the boot ROM tries, in order. -/
def bootOrder (d : Device) : List Nat :=
  match fld d Reg.GLB_STRAPS 5 4 with
  | 0 => [bootSlot d, 1 - bootSlot d]
  | 1 => [0]
  | 2 => [1]
  | _ => []

end Sys2Proof.Machine
end

