-- ==== Sys2Proof/Machine/ColdFrameOps.lean ====
section
/-! DEFINITION. The Cold Frame's engines: start of the image, channels, requests, tamper, lockstep and power loss (R384 to R406,
R497). -/

namespace Sys2Proof.Machine

/-! ### State and channels (R392 to R394) -/

/-- The partition changes state (R392, R405). -/
def cfSetSt (d : Device) (st reason : Nat) : Device :=
  cfNote (modCf d (fun c => { c with st := st, haltReason := reason }))

/-- The partition halts: the state before is recorded (R392). -/
def cfHalt (d : Device) (reason : Nat) : Device :=
  if d.cf.st = 4 then d else cfSetSt (modCf d (fun c => { c with stBefore := c.st })) 4 reason

def cfHalted (d : Device) : Bool := d.cf.st == 4

/-- Bits [255:224] of a digest: a checksum (R390). -/
def cfCheck (digest : Nat) : Nat := bits digest 255 224

/-- The parameter checksum; 0 where no record is active. -/
def paramCheck (d : Device) : Nat := match cfActive d with | some p => cfCheck p.check | none => 0

/-- Jobs of the Cold Frame's meters stop, without a record. -/
def cfStopJobs (d : Device) : Device :=
  each (upTo 8) d (fun d i =>
    let d := if (meterOf d (60 + i)).before.isSome then calAbort d (60 + i) else d
    modMeter d (60 + i) (fun m => { m with job := none }))

/-- The channel's record in the active parameters. -/
def chanOf (d : Device) (j : Nat) : CfChan :=
  match cfActive d with
  | some p => p.chans.getD j {}
  | none => {}

/-- Channel j's LENGTH job starts: DOMAIN 0, GATE = TOT_PERIOD (R394). -/
def armChan (d : Device) (j : Nat) : Device :=
  let ch := chanOf d j
  let k := 60 + 2 * j
  let cond := 16 * ch.hyst + 2 ^ 16 * ch.holdoff
  let d := modCf d (fun c =>
    { c with cond := tset (fun _ => 0) (tset (fun _ => 0) c.cond (2 * j) cond) (2 * j + 1) cond })
  let open_ := (tvSec (tbVal d 0) + 1) * 1000000000
  let job : Job :=
    { mode := 4, partner := some (k + 1), domain := 0, gate := ch.totPeriod * 1000000, gates := 0, qsep := ch.qsep,
      swap := ch.swap, cls := 2, id := 0, first := open_, openAt := open_,
      qst := some ((meterOf d k).level, (meterOf d (k + 1)).level) }
  modMeter d k (fun m => { m with job := some job, results := [], stamps := [], fifo := 0, fifoAt := d.tick })

/-- Every enabled channel starts; a job that a request had started on its meters ends. -/
def armChans (d : Device) : Device :=
  each (upTo 4) d (fun d j =>
    if chanEn d j then
      let d := modMeter d (60 + 2 * j) (fun m => { m with job := none })
      armChan (modMeter d (61 + 2 * j) (fun m => { m with job := none })) j
    else d)

/-- The committed record of a channel: the highest RSEQ of its ring (R401). -/
def committed (t : CfTotal) : Int × Nat :=
  t.ring.foldl (fun (b : Int × Nat) e => match e.2 with | some r => if b.2 < r.2 then r else b | none => b) (0, 0)

/-- Every enabled channel writes its TOTAL as a final record (R403, R611). -/
def cfFinal (d : Device) : Device :=
  if d.cf.up && !cfHalted d then
    each (upTo 4) d (fun d j => if chanEn d j then totalWrite d j (cfLive d j) else d)
  else d

/-! ### Tamper (R396, R397) -/

/-- An entry for a tamper that was held in the latch: with the dormant seconds where main power was absent (R397); what DETAIL
holds otherwise is free (log 2). -/
def lateEntry (d : Device) (put : Device → Nat → Nat → Device) (kind : Nat) : Device :=
  nextFree (nextFree (put d (if 16 ≤ kind then d.cf.dormSec else freeVal (nextFree d)) (freeVal d)))

/-- The seal is broken by a kind (SOURCE code): BROKEN, the entry, a class-M fault on CE0. -/
def cfUnseal (d : Device) (kind : Nat) (late : Bool) : Device :=
  let d := modCf (cfSetSt d 3 0) (fun c => { c with sealImg := none, sealParam := none })
  let d := if late then lateEntry d (fun d d0 d1 => auditLegal d 0x02 (kind % 16) d0 d1 false (decide (16 ≤ kind))) kind
    else auditLegalFree d 0x02 kind (auditTime d)
  cfFault d 0x14

/-- A declared tamper that the image acts on. -/
def cfTamper (d : Device) (kind : Nat) (late : Bool) : Device :=
  if d.cf.st = 2 then cfUnseal d kind late
  else if d.cf.st = 1 || d.cf.st = 3 then
    if late then lateEntry d (fun d d0 d1 => auditGeneral d 0x15 (kind % 16) d0 d1 false (decide (16 ≤ kind))) kind
    else auditGeneralFree d 0x15 kind (auditTime d)
  else d

/-- The image runs and can act on what happens. -/
def cfRuns (d : Device) : Bool := d.fuse.ma && running d && d.cf.up && !cfHalted d

/-- A tamper is declared: acted on while the image runs, held in the latch otherwise (R392, R396). -/
def cfDeclare (d : Device) (kind : Nat) : Device :=
  if cfRuns d then cfTamper d kind false
  else
    let k := if d.pwr.vdd33 then kind else kind + 16
    modCf d (fun c => { c with latch := if c.latch.contains k then c.latch else c.latch ++ [k] })

/-- The run of open samples of an input, saturating. -/
def openRun (n : Nat) (isOpen : Bool) : Nat := if isOpen then min (n + 1) 2 else 0

/-- A sample of both loops (R396). -/
def cfSample (d : Device) (o0 o1 : Bool) : Device :=
  if !d.fuse.ma then d
  else
    let a := openRun d.cf.run0 o0
    let b := openRun d.cf.run1 o1
    let n0 := a == 2 && d.cf.run0 == 1
    let n1 := b == 2 && d.cf.run1 == 1
    let d := modCf d (fun c => { c with run0 := a, run1 := b })
    let d := if n0 then cfDeclare d 1 else d
    if n1 then cfDeclare d 2 else d

/-- VBAT falls below 1.6 V: with VDD33 an entry and nothing more, without it a tamper of kind VBAT_LOST (R396, R397); the
retention contents are no longer valid (R619). -/
def cfVbatLow (d : Device) : Device :=
  let d := modPwr d (fun p => { p with vbatOk := false })
  if !d.fuse.ma then d
  else
    let d := modCf d (fun c => { c with vbatOk := false })
    if d.pwr.vdd33 then (if cfRuns d then auditGeneralFree d 0x16 3 (auditTime d) else d)
    else cfDeclare d 3

/-- VDD33 falls below 3.10 V (R403). -/
def cfPowerFail (d : Device) : Device :=
  if d.fuse.ma && d.pwr.vdd33 then modCf (cfFinal d) (fun c => { c with failAt := some d.now }) else d

/-! ### Start of the image (R388 to R392, R397, R400, R401, R403) -/

/-- The latched tampers are acted on. -/
def cfActLatch (d : Device) : Device :=
  let l := d.cf.latch
  each l (modCf d (fun c => { c with latch := [] })) (fun d k => cfTamper d k true)

/-- EVENT_CNT of the last legal entry. -/
def lastLegalCnt (d : Device) : Nat :=
  match d.cf.legal.getLast? with
  | some e => (e.2.getD 5 0).toNat
  | none => 0

/-- A missing PARAM_CHANGE entry is written with RECOVERED (R400). -/
def cfRecover (d : Device) : Device :=
  match cfActive d with
  | some p =>
    if lastLegalCnt d < p.eventCnt then
      let d := modCf d (fun c => { c with eventCnt := c.eventCnt - 1 })
      nextFree (auditLegal d 0x03 0 (freeVal d) (cfCheck p.check) false true)
    else d
  | none => d

/-- The totals of the channels at a start: the committed record, and UNCOMMITTED where it lies too far before the power loss. -/
def cfTotals (d : Device) : Device :=
  let d := each (upTo 4) d (fun d j =>
    let t := cfTotal d j
    let r := committed t
    let unc := match d.cf.failAt with
      | some f => chanEn d j && decide (0 < r.2) && decide (t.at_ + (chanOf d j).totPeriod * msTicks < f)
      | none => false
    let d := modTotal d j (fun t => { t with total := r.1, rseq := r.2, qerrs := 0, uncommitted := unc })
    if unc then auditGeneralFree d 0x14 0 (auditTime d) else d)
  modCf d (fun c => { c with failAt := none })

/-- The verified image runs: entries due, totals, channels, and the reply of an activation. -/
def cfRun (d : Device) (img : List Byte) : Device :=
  let dig := (Config.sha384 img).toNat
  let d := modCf d (fun c => { c with up := true, imgDigest := dig, imgVer := (Config.imageVersion img).toNat })
  let d := if d.cf.rejectDue then modCf (auditGeneralFree d 0x17 0 (auditTime d)) (fun c => { c with rejectDue := false }) else d
  let d := nextFree (auditGeneral d 0x13 0 d.cf.dormSec (freeVal d) (auditTime d) false)
  let d := modCf d (fun c => { c with dormSec := 0 })
  armChans (cfTotals d)

/-- An activation that waits for the restart is answered. -/
def cfAnswer (d : Device) : Device :=
  match d.cf.actReply with
  | none => d
  | some q => modCf d (fun c => { c with actReply := none, replies := c.replies ++ [(q, stOk, [])] })

/-- The image in the Cold Frame slot verifies. -/
def cfImageOk (d : Device) : Bool :=
  let b := slotImage d 2
  !slotMarked d 2 && Config.headerOk 2 b && Config.signatureOk 2 b

/-- A start of the Cold Frame: the boot ROM, then the image, or HALTED (R389, R391, R392). -/
def cfStart (d : Device) : Device :=
  if !(d.fuse.ma && ticking d) || d.cf.up then d
  else if cfHalted d && !d.cf.coldStart then cfAnswer (modCf d (fun c => { c with up := true }))
  else
    let d := modCf (if cfHalted d then cfSetSt d d.cf.stBefore 0 else d) (fun c => { c with coldStart := false })
    let img := slotImage d 2
    -- without an image to run, the latch is kept (R392)
    if !cfImageOk d then cfAnswer (modCf (cfHalt d 1) (fun c => { c with up := true }))
    else
    let d := cfActLatch (cfRecover d)
    if d.cf.st = 2 && d.cf.sealImg != some (Config.sha384 img).toNat then
      cfAnswer (modCf (cfHalt d 2) (fun c => { c with up := true, rejectDue := true }))
    else cfAnswer (cfRun d img)

/-- A lockstep mismatch (R387). -/
def cfLockstep (d : Device) : Device :=
  if !(d.fuse.ma && running d && d.cf.up) then d
  else
    let l := d.now :: d.cf.mism.filter (fun t => decide (d.now < t + 3600 * secTicks))
    let d := modCf d (fun c => { c with mism := l, mismCount := (c.mismCount + 1) % 2 ^ 32, up := false })
    let d := cfStopJobs (cfFault d 0x13)
    let d := if 3 ≤ l.length then cfHalt d 3 else d
    auditGeneralFree d 0x11 0 (auditTime d)

/-! ### The result window's words (R405, R404, R497) -/

/-- CF_STATE. -/
def cfStateWord (d : Device) : Nat :=
  let en (j : Nat) : Nat := if chanEn d j then 2 ^ (8 + j) else 0
  d.cf.st + 16 * b2n (d.cf.run0 == 0) + 32 * b2n (d.cf.run1 == 0) + 64 * b2n d.cf.vbatOk + 128 * b2n d.cf.auditFull
    + en 0 + en 1 + en 2 + en 3 + 2 ^ 12 * d.cf.haltReason

/-- Word w of the image digest, most significant first. -/
def digestWord (d : Device) (w : Nat) : Nat := bits d.cf.imgDigest (383 - 32 * w) (352 - 32 * w)

def instrId (d : Device) : Nat := match cfActive d with | some p => p.instr | none => 0

/-- LEN_UM of channel j (R394). -/
def cfLen (d : Device) (j : Nat) : Int :=
  let ch := chanOf d j
  Int.tdiv (cfLive d j * (ch.umPer : Int)) (ch.cntPer : Int)

/-- The reply of CF_IDENTITY (R497). -/
def identityWords (d : Device) : List Word :=
  [w32 (cfStateWord d), w32 d.cf.eventCnt] ++ words2 (instrId d) ++ [w32 d.cf.imgVer]
    ++ (upTo 12).map (fun w => w32 (digestWord d w)) ++ [w32 (cfCheck d.cf.imgDigest), w32 (paramCheck d)]

/-! ### Requests (R384, R385, R404) -/

/-- SOURCE of a transport (R398, R490). -/
def cfSource : Origin → Nat
  | .ring _ => 4
  | .spi => 5
  | .inband _ _ => 6
  | .brely => 7
  | .applet _ => 0
  | .firmware => 0

/-- A command with PART 2 goes to the request FIFO (R382, R384). -/
def toCf (d : Device) (c : InFlight) : Device :=
  let d := modInflight d c.seq (fun c => { c with stage := .work, aux := [] })
  modCf d (fun f => { f with reqs := f.reqs ++ [⟨c.seq, c.opcode, tgt c, c.pkt.words, cfSource c.origin⟩] })

/-- The request of a command has not been decided. -/
def cfUndecided (d : Device) (c : InFlight) : Bool := d.cf.reqs.any (fun r => r.seq == c.seq)

/-- A request that has not been decided leaves the FIFO (R404). -/
def cfWithdraw (d : Device) (c : InFlight) : Device :=
  modCf d (fun f => { f with reqs := f.reqs.filter (fun r => r.seq != c.seq) })

/-- A reply enters the reply FIFO (R385). -/
def cfReply (d : Device) (c : InFlight) (st : Nat) (ws : List Word) : Device :=
  modCf d (fun f => { f with replies := f.replies ++ [(c.seq, st, ws)] })
def cfBad (d : Device) (c : InFlight) (k : Nat) : Device := cfReply d c stBadParam [w32 k]
def cfNoRes (d : Device) (c : InFlight) : Device := cfReply d c stNoResource [0]

/-- Refused with SEALED and its entry (R404). -/
def cfSealedReply (d : Device) (c : InFlight) : Device :=
  cfReply (lockViolation d (cfSource c.origin) c.opcode) c stSealed [0]

/-- CF_AUDIT_READ (R404). -/
def cfAuditRead (d : Device) (c : InFlight) : Device :=
  let n := pf c 0 8 4
  let s := pw c 1
  let general := pb c 0 0
  let written := if general then d.cf.generalN else d.cf.legalN
  if n = 0 || 16 < n then cfBad d c 0
  else if written ≤ s then cfBad d c 1
  else
    let t := if general then d.cf.general else d.cf.legal
    let l := (t.filter (fun e => decide (s ≤ e.1))).take n
    cfReply d c stOk (w32 l.length :: (l.map Prod.snd).flatten)

/-- A channel's fields in range (R393). -/
def chanOk (ch : CfChan) : Bool :=
  inRange ch.cntPer 1 (2 ^ 32 - 1) && inRange ch.umPer 1 (2 ^ 32 - 1) && decide (ch.qsep ≤ 12500) && decide (ch.hyst ≤ 18)
    && decide (ch.holdoff ≤ 12500) && inRange ch.totPeriod 10 60000

/-- The record of the parameter slot, where it is well formed and in range: INSTRUMENT_ID, eight fields a channel, TOT_CLEAR
(R393; log 17). -/
def slotParams (d : Device) : Option CfParam :=
  let b := slotImage d 3
  match Config.paramFields b with
  | none => none
  | some l =>
    let f (i : Nat) : Nat := l.getD i 0
    let ch (j : Nat) : CfChan :=
      let o := 1 + 8 * j
      { en := f o == 1, cntPer := f (o + 1), umPer := f (o + 2), swap := f (o + 3) == 1, qsep := f (o + 4), hyst := f (o + 5),
        holdoff := f (o + 6), totPeriod := f (o + 7) }
    let chs := (upTo 4).map ch
    let flags := (upTo 4).all (fun j => decide (f (1 + 8 * j) ≤ 1) && decide (f (4 + 8 * j) ≤ 1))
    if l.length == 34 && inRange (f 0) 1 (2 ^ 64 - 1) && flags && chs.all chanOk && decide (f 33 < 16) then
      some { instr := f 0, chans := chs, totClear := f 33, check := (Config.sha384 b).toNat, eventCnt := 0 }
    else none

/-- A parameter record is activated (R392, R400, R404): the other bank, the select word, the entries; the channels run on with
their totals, cleared ones from 0. -/
def cfActivateParams (d : Device) (p : CfParam) : Device :=
  let old := paramCheck d
  let lives := (upTo 4).map (cfLive d)
  let p := { p with eventCnt := (d.cf.eventCnt + 1) % 2 ^ 32 }
  let d := cfStopJobs d
  let d := modCf d (fun c =>
    if c.bankSel then { c with bank0 := some p, bankSel := false } else { c with bank1 := some p, bankSel := true })
  let d := cfSetSt d 1 0
  let d := auditLegal d 0x03 0 old (cfCheck p.check) (auditTime d) false
  let d := each (upTo 4) d (fun d j => modTotal d j (fun t => { t with total := lives.getD j 0 }))
  let d := each (upTo 4) d (fun d j =>
    if bit p.totClear j then
      auditLegalFree (totalWrite (modTotal d j (fun t => { t with total := 0 })) j 0) 0x05 0 (auditTime d)
    else d)
  armChans d

/-- The conditions of R395 beside the room in the legal region; which word of the request names the one not met. -/
def sealBad (d : Device) (c : InFlight) : Option Nat :=
  if !(d.cf.st == 1 || d.cf.st == 3) || d.cf.run0 != 0 || d.cf.run1 != 0 || !d.cf.latch.isEmpty then some 0
  else if pw c 1 ≠ paramCheck d then some 1
  else none

/-- A seal is accepted (R395). -/
def cfSeal (d : Device) : Device :=
  let d := modCf (cfSetSt d 2 0) (fun c =>
    { c with sealImg := some c.imgDigest, sealParam := (if c.bankSel then c.bank1 else c.bank0).map CfParam.check })
  auditLegalFree d 0x01 0 (auditTime d)

/-- IMAGE_ACTIVATE of the parameter slot (R404). -/
def cfActivate3 (d : Device) (c : InFlight) : Device :=
  if cfSealed d then cfSealedReply d c
  else
    match slotParams d with
    | none => cfBad d c 0
    | some p =>
      if legalFree d < 17 then cfNoRes d c
      else if pb c 0 8 then
        match sealBad d c with
        | some k => cfBad d c k
        | none => cfReply (cfSeal d) c stOk []
      else cfReply (cfActivateParams (unmarkBad d 3) p) c stOk []

/-- IMAGE_ACTIVATE of the image slot (R389, R392, R404). -/
def cfActivate2 (d : Device) (c : InFlight) : Device :=
  let img := slotImage d 2
  if cfSealed d || (cfHalted d && d.cf.haltReason == 2) then cfSealedReply d c
  else if !Config.signatureOk 2 img then cfBad (markBad d 2) c 0
  else if legalFree d < 17 then cfNoRes d c
  else
    let dig := (Config.sha384 img).toNat
    let old := cfCheck d.cf.imgDigest
    let d := unmarkBad d 2
    let stays := cfHalted d && d.cf.haltReason == 3
    let d := if cfHalted d && !stays then cfSetSt d d.cf.stBefore 0 else d
    let d := auditLegal d 0x04 0 old (cfCheck dig) (auditTime d) false
    if stays then cfReply d c stOk []
    else
      modCf (cfStopJobs d) (fun f => { f with up := false, actReply := some c.seq })

/-- IMAGE_WRITE of a Cold Frame slot. -/
def cfImageWrite (d : Device) (c : InFlight) : Device :=
  if cfSealed d || (cfHalted d && d.cf.haltReason == 2) then cfSealedReply d c
  else
    match imageBad c with
    | some k => cfBad d c k
    | none => imageBegin d c

/-- MEAS_JOB_START on a Cold Frame meter (R360, R404). -/
def cfMeasStart (d : Device) (c : InFlight) (k : Nat) : Device :=
  let ws := c.pkt.words
  let mode := pf c 0 3 0
  let taken := (measKeys k ws).find? (fun q => chanEn d ((q - 60) / 2))
  match taken with
  | some q => cfReply d c stOwned [w32 (2 + 2 ^ 16 * uMeter q)]
  | none =>
    if mode = 1 then cfBad d c 0
    else
      match measBad d k ws with
      | some i => cfBad d c i
      | none =>
        let job := (meterOf d k).job
        if mode ≠ 0 && job.isSome then cfReply d c stBusy [0]
        else if mode = 0 then
          match job with
          | none => cfReply d c stOk []
          | some j =>
            let d := match j.cmd with
              | some q => modCf (calAbort d k) (fun f => { f with replies := f.replies ++ [(q, stAborted, [0])] })
              | none => endJob d k
            cfReply d c stOk []
        else if mode = 5 then armJob d k ws (6, 0) (some c.seq)
        else cfReply (armJob d k ws (6, 0) none) c stOk []

/-- MEAS_RESULT of a Cold Frame meter, through ME0's cursor (R406). -/
def cfMeasResult (d : Device) (c : InFlight) (i : Nat) : Device :=
  let most := pf c 0 8 4
  if most = 0 || 16 < most then cfBad d c 0
  else if pb c 0 0 then cfReply d c stOk [0]
  else
    let w := tget (fun _ => 0) d.cf.widx i
    let cur := tget (fun _ => 0) d.cf.cursor i
    let behind := (w + 2 ^ 32 - cur) % 2 ^ 32
    let left := min behind 16
    let n := min most left
    let from_ := (w + 2 ^ 32 - left) % 2 ^ 32
    let recs := (upTo n).map (fun r => tget (fun _ => []) d.cf.rings (16 * i + (from_ + r) % 16))
    let d := modCf d (fun f => { f with cursor := tset (fun _ => 0) f.cursor i ((from_ + n) % 2 ^ 32) })
    cfReply d c stOk (w32 n :: recs.flatten)

/-- The image, or in HALTED the boot ROM, decides a request (R389, R404). -/
def cfDecide (d : Device) (c : InFlight) : Device :=
  let s := pf c 0 2 0
  if cfHalted d then
    if (c.opcode = 0x0D00 || c.opcode = 0x0D01) && s == 2 then
      if c.opcode = 0x0D00 then cfImageWrite d c else cfActivate2 d c
    else cfNoRes d c
  else
    match c.opcode with
    | 0x0702 => cfReply d c stOk (identityWords d)
    | 0x0703 => cfAuditRead d c
    | 0x0D00 => cfImageWrite d c
    | 0x0D01 => if s = 2 then cfActivate2 d c else if s = 3 then cfActivate3 d c else cfBad d c 0
    | 0x0700 =>
      if cfSealed d then cfSealedReply d c
      else match keyOfMeter (tgt c) with | some k => cfMeasStart d c k | none => cfBad d c 0xFFF
    | 0x0701 => match keyOfMeter (tgt c) with | some k => cfMeasResult d c (k - 60) | none => cfBad d c 0xFFF
    | _ => cfNoRes d c

/-- CE0 and CE1 take the oldest request and decide it (R384, R385). -/
def cfTake (d : Device) : Device :=
  if d.fuse.ma && running d && d.cf.up && decide (d.cf.replies.length < 16) then
    match d.cf.reqs with
    | [] => d
    | r :: rest =>
      let d := modCf d (fun f => { f with reqs := rest })
      match inflightOf d r.seq with
      | some c => cfDecide d c
      | none => d
  else d

/-- ME0 reads the oldest reply, and the command completes (R385). -/
def cfRead (d : Device) : Device :=
  if d.fuse.ma && running d then
    match d.cf.replies with
    | [] => d
    | (q, st, ws) :: rest => abortWaiters (complete (modCf d (fun f => { f with replies := rest })) q st ws) q st
  else d

/-! ### The end of programming (R476) -/

/-- The oldest piece in programming is written, and its command completes; one of a Cold Frame slot through the reply FIFO. -/
def flashDone (d : Device) : Device :=
  match (working d 0x0D00).find? (fun c => c.aux == [1]) with
  | none => d
  | some c =>
    let d := imageProgram d c
    if 2 ≤ pf c 0 2 0 then cfReply (modInflight d c.seq (fun c => { c with aux := [2] })) c stOk []
    else ok d c

end Sys2Proof.Machine
end

