-- ==== Sys2Proof/Machine/OpsFwd.lean ====
section
/-! DEFINITION. Forwarding commands (R117 to R119, R188 to R191, R493, R647): the VLAN, FDB, multicast, classification and
stream tables. -/

namespace Sys2Proof.Machine

/-! ### The FDB (R119, R120) -/

/-- The bucket of (FID, MAC). -/
def fdbBucket (fid mac : Nat) : Nat := crc32 (beBytes 2 fid ++ beBytes 6 mac) % 16384

def fdbAt (d : Device) (bucket way : Nat) : Option FdbEntry := tget (fun _ => none) d.fwd.fdb (4 * bucket + way)
def setFdb (d : Device) (bucket way : Nat) (e : Option FdbEntry) : Device :=
  modFwd d (fun f => { f with fdb := tset (fun _ => none) f.fdb (4 * bucket + way) e })

/-- The way of a bucket that holds (FID, MAC). -/
def fdbFind (d : Device) (fid mac : Nat) : Option Nat :=
  firstOf (fun w => match fdbAt d (fdbBucket fid mac) w with
    | some e => e.fid == fid && e.mac == mac
    | none => false) (upTo 4)

/-- The lowest free way of a bucket. -/
def fdbFree (d : Device) (b : Nat) : Option Nat := firstOf (fun w => (fdbAt d b w).isNone) (upTo 4)

/-- The dynamic entry of a bucket longest without a refresh, the lower way on a tie. -/
def fdbOldest (d : Device) (b : Nat) : Option Nat :=
  ((upTo 4).foldl (fun (m : Option (Nat × Nat)) w =>
    match fdbAt d b w with
    | some e =>
      if e.static_ then m
      else
        match m with
        | some (_, t) => if e.fresh < t then some (w, e.fresh) else m
        | none => some (w, e.fresh)
    | none => m) none).map Prod.fst

/-- The way a new entry takes: in place, free, or displaced for a static entry (R119). -/
def fdbWay (d : Device) (fid mac : Nat) (isStatic : Bool) : Option Nat :=
  match fdbFind d fid mac with
  | some w => some w
  | none =>
    match fdbFree d (fdbBucket fid mac) with
    | some w => some w
    | none => if isStatic then fdbOldest d (fdbBucket fid mac) else none

/-- FDB_WRITE, SEL 0. -/
def fdbWrite0 (d : Device) (c : InFlight) : Device :=
  let fid := pf c 1 11 0
  let mac := pf c 1 31 16 * 2 ^ 32 + pw c 2
  if pb c 0 2 then
    match fdbFind d fid mac with
    | some w => ok (setFdb d (fdbBucket fid mac) w none) c
    | none => ok d c
  else
    let group := pb c 3 16
    if (if group then 8191 else 41) < pf c 3 12 0 then bad d c 3
    else
      match fdbWay d fid mac (pb c 3 17) with
      | some w =>
        ok (setFdb d (fdbBucket fid mac) w
          (some { fid := fid, mac := mac, dest := pf c 3 12 0, group := group, static_ := pb c 3 17, fresh := d.dev })) c
      | none => fail d c stNoResource

/-- FDB_WRITE, SEL 1 (R647). -/
def fdbWrite1 (d : Device) (c : InFlight) : Device :=
  let vid := pf c 1 11 0
  if vid = 0 || vid = 4095 then bad d c 1
  else
    let v : Vlan :=
      if pb c 0 2 then {}
      else
        { valid := pb c 2 0, learn := pb c 2 1, fid := pf c 2 27 16,
          members := pw c 3 + 2 ^ 32 * pf c 4 9 0, untag := pw c 5 + 2 ^ 32 * pf c 6 7 0, flood := pf c 7 12 0 }
    ok (modFwd d (fun f => { f with vlan := tset (fun _ => {}) f.vlan vid v })) c

/-- Key of an entry in the tables of R522. -/
def entryKey (table i : Nat) : Nat := table * 65536 + i

/-- The words of an entry that is not valid are kept to be read (R521). -/
def setStale (d : Device) (table i : Nat) (ws : List Word) : Device :=
  modFwd d (fun f => { f with stale := tset (fun _ => []) f.stale (entryKey table i) ws })

/-- FDB_WRITE, SEL 2. -/
def fdbWrite2 (d : Device) (c : InFlight) : Device :=
  let i := pf c 1 11 0
  let put (d : Device) (ws stale : List Word) : Device :=
    modFwd (setStale d 2 i stale) (fun f => { f with rules := tset (fun _ => []) f.rules i ws })
  if pb c 0 2 then ok (put d [] []) c
  else if pb c 16 7 && !pb c 16 8 && decide (41 < pf c 17 12 0) then bad d c 17
  else
    let ws := (c.pkt.words.drop 2).take 16
    ok (if pb c 16 0 then put d ws [] else put d [] ws) c

/-- FDB_WRITE (R119, R493). -/
def opFdbWrite (d : Device) (c : InFlight) : Device :=
  match pf c 0 1 0 with
  | 0 => fdbWrite0 d c
  | 1 => fdbWrite1 d c
  | _ => fdbWrite2 d c

/-- The words of an FDB entry from W1 in the FDB_READ layout; zeros where there is none. -/
def fdbWords (e : Option FdbEntry) : List Word :=
  match e with
  | some e =>
    [w32 (e.fid + 2 ^ 16 * (e.mac / 2 ^ 32)), w32 e.mac,
     w32 (e.dest + 2 ^ 16 * b2n e.group + 2 ^ 17 * b2n e.static_ + 2 ^ 18 * b2n (!e.static_))]
  | none => [0, 0, 0]

/-- The words of a VLAN entry from W1. -/
def vlanWords (i : Nat) (v : Vlan) : List Word :=
  [w32 i, w32 (b2n v.valid + 2 * b2n v.learn + 2 ^ 16 * v.fid), w32 v.members, w32 (v.members / 2 ^ 32),
   w32 v.untag, w32 (v.untag / 2 ^ 32), w32 v.flood]

/-- The words of a rule from W1. -/
def ruleWords (d : Device) (i : Nat) : List Word :=
  let ws := tget (fun _ => []) d.fwd.rules i
  let ws := if ws.isEmpty then tget (fun _ => []) d.fwd.stale (entryKey 2 i) else ws
  w32 i :: (ws ++ List.replicate (16 - ws.length) 0)

/-- FDB_READ (R493). -/
def opFdbRead (d : Device) (c : InFlight) : Device :=
  let i := pw c 1
  let valid (b : Bool) : Word := w32 (2 ^ 31 * b2n b)
  match pf c 0 1 0 with
  | 0 =>
    if 65535 < i then bad d c 1
    else
      let e := fdbAt d (i / 4) (i % 4)
      okWith d c (valid e.isSome :: fdbWords e)
  | 1 =>
    if 4095 < i then bad d c 1
    else
      let v := tget (fun _ => {}) d.fwd.vlan i
      okWith d c (valid v.valid :: vlanWords i v)
  | 2 =>
    if 4095 < i then bad d c 1
    else okWith d c (valid (!(tget (fun _ => []) d.fwd.rules i).isEmpty) :: ruleWords d i)
  | _ => bad d c 0

/-- MCAST_GROUP_WRITE (R493). -/
def opMcastGroupWrite (d : Device) (c : InFlight) : Device :=
  ok (modFwd d (fun f => { f with mcast := tset (fun _ => 0) f.mcast (pf c 0 12 0) (pw c 1 + 2 ^ 32 * pf c 2 9 0) })) c

/-! ### Stream identification, filters, gates, meters, generation and recovery (R188 to R191, R493) -/

/-- Highest index of a selector; the lowest is 0 for identification, else 1. -/
def streamIndexOk (sel i : Nat) : Bool :=
  match sel with
  | 0 => true
  | 2 => inRange i 1 512
  | _ => inRange i 1 4096

/-- The first parameter word of a STREAM_ID_WRITE that holds an invalid value. -/
def streamBad (c : InFlight) : Option Nat :=
  let sel := pf c 0 2 0
  if 5 < sel || !streamIndexOk sel (pf c 0 30 17) then some 0
  else
    match sel with
    | 0 =>
      if !pb c 3 13 && decide (41 < pf c 3 12 0) then some 3
      else if 4096 < pf c 4 12 0 || 4096 < pf c 4 28 16 then some 4
      else if 4096 < pf c 5 12 0 then some 5
      else none
    | 1 => if 512 < pf c 2 9 0 || 4096 < pf c 2 28 16 then some 2 else none
    | 2 =>
      if 999999999 < pw c 1 then some 1
      else if !inRange (pw c 4) 1250 1250000000 then some 4
      else if !inRange (pf c 5 22 16) 1 64 then some 5
      else firstOf (fun k => !inRange (pw c k) 1 1250000000) ((upTo (pf c 5 22 16)).map (fun i => 6 + 2 * i))
    | 3 =>
      if 200000000 < pw c 1 then some 1
      else if 200000000 < pw c 2 then some 2
      else if 16777216 < pw c 3 then some 3
      else if 16777216 < pw c 4 then some 4
      else none
    | 4 => none
    | _ => if 41 < pf c 1 5 0 then some 1 else if !inRange (pf c 2 5 0) 2 32 || !inRange (pf c 2 25 16) 1 1000 then some 2 else none

/-- STREAM_ID_WRITE (R188 to R191, R493). A flow meter starts with full buckets, and a recovery instance takes any number first. -/
def opStreamIdWrite (d : Device) (c : InFlight) : Device :=
  match streamBad c with
  | some k => bad d c k
  | none =>
    let i := pf c 0 30 17
    let valid := pb c 0 16
    let ws := c.pkt.words.drop 1
    let now (w : List Word) : List Word := if valid then w else []
    let sel := pf c 0 2 0
    let d := if sel = 4 then d else setStale d (if sel < 4 then 3 + sel else 9) i (if valid then [] else ws)
    ok (modFwd d (fun f =>
      match sel with
      | 0 => { f with streams := tset (fun _ => []) f.streams i (now ws) }
      | 1 => { f with filters := tset (fun _ => []) f.filters i (now ws) }
      | 2 => { f with gates := tset (fun _ => []) f.gates i (now ws) }
      | 3 => { f with meters := tset (fun _ => []) f.meters i (now ws), tokens := tset (fun _ => none) f.tokens i none }
      | 4 => { f with gen := tmod (fun _ => 0) f.gen i (fun v => (if pb c 1 0 then 0 else v / 2 * 2) + b2n valid) }
      | _ =>
        { f with
          recov := tset (fun _ => []) f.recov i (now ws), recovSt := tset (fun _ => none) f.recovSt i none,
          recovAt := tset (fun _ => 0) f.recovAt i 0 })) c

end Sys2Proof.Machine
end

