-- ==== Sys2Proof/Machine/Ingress.lean ====
section
/-! DEFINITION. The receive stamp, the receive MAC and the ingress pipeline, and frames of the host, the Brely link and the
applets (R34, R61, R94, R95, R113 to R126, R177, R188 to R191, R223 to R232, R237, R646). -/

namespace Sys2Proof.Machine

/-! ### The receive stamp (R224, R225, R229) -/

/-- Line symbol rate of a lane by port mode, in 10 kHz (R91). -/
def symbolRate (mode : Nat) : Nat :=
  match mode with
  | 0 => 125000
  | 1 => 1031250
  | 2 => 2578125
  | 5 => 2578125
  | _ => 2656250

/-- The receive time of the stamp point in 2^-16 ns on the tick count, times 5 and rounded down (R225). -/
def rxTime (d : Device) (p : Nat) (f : RxFrame) : Nat :=
  let mode := modeCur d p
  let l : Nat := f.lane
  let x : Int := ((d.tick - f.ago) * 262144 + 5 * f.phi + f.b * 32768000000 / symbolRate mode : Nat)
    - 5 * (Config.dRx mode f.pos + signed 32 (rd d (Reg.LANE_KRX_CUR l)) + signed 32 (rd d (Reg.LANE_SKEW_RX l)))
  x.toNat

/-- ARR_TICK and ARR_FINE (R224). -/
def arrival (t : Nat) : Nat × Nat := (t / 262144, t % 262144 / 5)

/-- A stamp on time base n in 2^-48 ns, before truncation (R229); the tick is on the device's count. -/
def stampVal (d : Device) (n tick fine : Nat) : Nat :=
  tbAtTick d n tick + (if tbEn d n then fine * 5 * tbIncr d n / 262144 else 0)

/-! ### Parse (R114) -/

/-- What Parse finds in a frame. -/
structure Parsed where
  bytes : List Byte
  len : Nat
  vb : Nat
  etype : Nat
  da : Nat
  sa : Nat
  /-- Outer tag: PCP and VID, where there is one. -/
  tag : Option (Nat × Nat)
  /-- IP: protocol and DSCP. -/
  ip : Option (Nat × Nat)
  /-- UDP or TCP: offset of the transport header. -/
  l4 : Option Nat
  frag : Bool

/-- Parse a frame (R114). The ports of a fragment are not known (log 32). -/
def parse (f : List Byte) : Parsed :=
  let vb := vlanBytes f
  let et := etherType f
  let h := 14 + vb
  let v4 := et == 0x0800
  let v6 := et == 0x86DD
  let proto := if v4 then byteAt f (h + 9) else byteAt f (h + 6)
  let frag := v4 && beAt f (h + 6) 2 % 16384 != 0
  let off := if v4 then h + 4 * (byteAt f h % 16) else h + 40
  { bytes := f, len := f.length, vb := vb, etype := et, da := beAt f 0 6, sa := beAt f 6 6,
    tag := if vb = 0 then none else some (byteAt f 14 / 32, beAt f 14 2 % 4096),
    ip := if v4 then some (proto, byteAt f (h + 1) / 4)
      else if v6 then some (proto, beAt f h 2 / 64 % 64) else none,
    l4 := if (v4 || v6) && (proto == 6 || proto == 17) && !frag then some off else none,
    frag := frag }

/-- The VID (R116). -/
def vidOf (d : Device) (p : Nat) (x : Parsed) : Nat :=
  match x.tag with
  | some (_, v) => if v = 0 then fld d (Reg.CORE_PVID p) 11 0 else v
  | none => fld d (Reg.CORE_PVID p) 11 0

/-- The PCP (R118, R123). -/
def pcpOf (d : Device) (p : Nat) (x : Parsed) : Nat :=
  match x.tag with
  | some (c, _) => c
  | none => fld d (Reg.CORE_PMAP p) 26 24

/-! ### PTP messages (R208, R230 to R232, R237) -/

/-- Offset of the PTP header of a PTP message, and the offset of its UDP header (R230). -/
def ptpAt (x : Parsed) : Option (Nat × Option Nat) :=
  let ok (h : Nat) : Bool := byteAt x.bytes (h + 1) % 16 == 2 && decide (h + 34 ≤ x.len - 4)
  if x.etype = 0x88F7 then (if ok (14 + x.vb) then some (14 + x.vb, none) else none)
  else
    match x.ip, x.l4 with
    | some (17, _), some u =>
      let port := beAt x.bytes (u + 2) 2
      let sum := x.etype != 0x86DD || beAt x.bytes (u + 6) 2 != 0
      if (port = 319 || port = 320) && sum && ok (u + 8) then some (u + 8, some u) else none
    | _, _ => none

/-- The time base whose domain map entry a message matches (R208). -/
def ptpDomain (d : Device) (x : Parsed) (h : Nat) (udp : Bool) : Option Nat :=
  firstOf (fun n =>
    let v := rd d (Reg.TB_DMAP n)
    bit v 0 && bits v 7 4 == byteAt x.bytes h / 16 && bits v 15 8 == byteAt x.bytes (h + 4) && !(bit v 1 && udp)) (upTo 8)

/-- CSUM_KIND and CSUM_OFF of a forwarded message (R237; log 32). -/
def ptpCsum (d : Device) (p : Nat) (x : Parsed) (h : Nat) (udp : Option Nat) : Nat × Nat :=
  match udp with
  | none => (0, 0)
  | some u =>
    if x.etype = 0x0800 then (if beAt x.bytes (u + 6) 2 = 0 then (0, 0) else (1, u + 6))
    else
      let ml := beAt x.bytes (h + 2) 2
      if flag d (Reg.TB_PTP p) 4 && decide (ml + 2 ≤ beAt x.bytes (u + 4) 2 - 8) && decide (h + ml ≤ 255) then (2, h + ml)
      else (1, u + 6)

/-! ### Frames to the CPU and to engines -/

/-- A frame that Divert sends to a CPU queue, outside any VLAN (R115, R231). -/
def toCpu (d : Device) (t : Tag) (f : List Byte) : Device :=
  sendFrame d
    { bytes := f, tag := { t with destKind := 0, dest := 40 }, cells := [], copies := 0, dests := [], mcast := false, recov := 0,
      rtag := none, gen := false, sender := none, noVlan := true } [40]

/-! ### Rules, FDB and streams (R118 to R122, R649) -/

/-- The key of a frame and the bits of it that the frame does not have (R118, R493). -/
def ruleKey (d : Device) (p : Nat) (x : Parsed) : List Nat × List Nat :=
  let ip := x.ip.getD (0, 0)
  let pt (o : Nat) : Nat := match x.l4 with | some u => beAt x.bytes (u + o) 2 | none => 0
  ([p + 2 ^ 8 * vidOf d p x + 2 ^ 20 * pcpOf d p x + 2 ^ 24 * ip.1, x.etype + 2 ^ 16 * ip.2, x.da % 2 ^ 32, x.da / 2 ^ 32,
    x.sa % 2 ^ 32, x.sa / 2 ^ 32, pt 0 + 2 ^ 16 * pt 2],
   [if x.ip.isSome then 0 else 0xFF000000, if x.ip.isSome then 0 else 0x3F0000, 0, 0, 0, 0,
    if x.l4.isSome then 0 else 0xFFFFFFFF])

/-- A rule's words match a key: each compared bit is equal, and none is one the frame lacks. -/
def ruleMatches (k : List Nat × List Nat) (ws : List Word) : Bool :=
  (upTo 7).all (fun i =>
    let m := (ws.getD (7 + i) 0).toNat
    Nat.land (Nat.xor (k.1.getD i 0) (ws.getD i 0).toNat) m == 0 && Nat.land (k.2.getD i 0) m == 0)

/-- The rule that takes effect: its W16 and W17 (R118). -/
def ruleOf (d : Device) (p : Nat) (x : Parsed) : Option (Nat × Nat) :=
  match d.fwd.rules.find? (fun e => ruleMatches (ruleKey d p x) e.2) with
  | some e => some ((e.2.getD 14 0).toNat, (e.2.getD 15 0).toNat)
  | none => none

/-- The pipeline learns a source address (R120). -/
def learn (d : Device) (p fid mac : Nat) : Device :=
  let b := fdbBucket fid mac
  match fdbFind d fid mac with
  | some w =>
    match fdbAt d b w with
    | some e => if e.static_ then d else setFdb d b w (some { e with dest := p, group := false, fresh := d.dev })
    | none => d
  | none =>
    match fdbFree d b with
    | some w => setFdb d b w (some ⟨fid, mac, p, false, false, d.dev⟩)
    | none => event (bump d (Reg.CORE_CNT 13)) Reg.CORE_EVENT 9

/-- The entry for (FID, DA): destination and whether a group (R121). -/
def lookup (d : Device) (fid mac : Nat) : Option (Nat × Bool) :=
  match fdbFind d fid mac with
  | some w => (fdbAt d (fdbBucket fid mac) w).map (fun e => (e.dest, e.group))
  | none => none

/-- The matching stream-identification entry: index and words W1 to W5 (R649). -/
def streamMatch (d : Device) (x : Parsed) (vid : Nat) : Option (Nat × List Word) :=
  d.fwd.streams.find? (fun e =>
    let w (i : Nat) : Nat := (e.2.getD i 0).toNat
    let mac := w 0 + 2 ^ 32 * bits (w 1) 15 0
    bits (w 1) 27 16 == vid && mac == (if bit (w 1) 28 then x.sa else x.da))

/-! ### Stream filters (R188, R189) -/

/-- Count in an entry's counters, which saturate (R522). -/
def countEntry (d : Device) (table i k : Nat) : Device :=
  modFwd d (fun f =>
    { f with counts := tmod (fun _ => 0) f.counts (entryKey table i * 8 + k) (fun n => min (n + 1) (2 ^ 64 - 1)) })

/-- The stream gate is open at an arrival (R170, R173, R188). -/
def streamGateOpen (d : Device) (g tick fine : Nat) : Bool :=
  match tget (fun _ => []) d.fwd.gates g with
  | [] => true
  | ws =>
    let w (i : Nat) : Nat := (ws.getD i 0).toNat
    let base := (w 1 + 2 ^ 32 * w 2) * 1000000000 + w 0
    let n := bits (w 4) 22 16
    let l : GateList := ⟨base, w 3, (upTo n).map (fun i => (w (5 + 2 * i), w (6 + 2 * i)))⟩
    bit (gatesAt (some l) (stampVal d (bits (w 4) 2 0) tick fine / 2 ^ 32 * 2 ^ 32 * 25)) 0

/-- The flow meter meets a frame: 0 green, 1 yellow, 2 red (R188). Buckets in 8 × 10^-7 bit. -/
def flowMeter (d : Device) (m len tick : Nat) : Device × Nat :=
  match tget (fun _ => []) d.fwd.meters m with
  | [] => (d, 0)
  | ws =>
    let w (i : Nat) : Nat := (ws.getD i 0).toNat
    let cb := w 2 * 10000000
    let eb := w 3 * 10000000
    let b := match tget (fun _ => none) d.fwd.tokens m with
      | some (c, e, t) =>
        let c1 := c + w 0 * (tick - t)
        let burst := if bit (w 4) 1 then c1 - cb else 0
        (min c1 cb, min (e + w 1 * (tick - t) + burst) eb, max tick t)
      | none => (cb, eb, tick)
    let cost := len * 10000000
    let r : (Nat × Nat × Nat) × Nat :=
      if cost ≤ b.1 then ((b.1 - cost, b.2.1, b.2.2), 0)
      else if cost ≤ b.2.1 then ((b.1, b.2.1 - cost, b.2.2), 1)
      else (b, 2)
    (modFwd d (fun f => { f with tokens := tset (fun _ => none) f.tokens m (some r.1) }), r.2)

/-- The filter of a stream acts: none where the frame is dropped, else whether it is policed (R188). -/
def streamFilter (d : Device) (fi len tick fine : Nat) : Device × Option Bool :=
  match tget (fun _ => []) d.fwd.filters fi with
  | [] => (d, some false)
  | ws =>
    let w (i : Nat) : Nat := (ws.getD i 0).toNat
    let d := countEntry d 4 fi 0
    if 0 < bits (w 0) 13 0 && bits (w 0) 13 0 < len then (countEntry d 4 fi 2, none)
    else if 0 < bits (w 1) 9 0 && !streamGateOpen d (bits (w 1) 9 0) tick fine then (countEntry d 4 fi 3, none)
    else
      let m := bits (w 1) 28 16
      let r := if m = 0 then (d, 0) else flowMeter d m len tick
      let dropY := match tget (fun _ => []) d.fwd.meters m with | [] => false | l => bit (l.getD 4 0).toNat 0
      if r.2 = 2 || (r.2 = 1 && dropY) then (countEntry r.1 4 fi 4, none)
      else if r.2 = 1 then (countEntry (countEntry r.1 4 fi 5) 4 fi 1, some true)
      else (countEntry r.1 4 fi 1, some false)

/-! ### Launch rules (R177) -/

/-- The launch fields that a rule gives a tag. -/
def applyLaunch (d : Device) (r : Nat) (tick : Nat) (t : Tag) : Tag :=
  let mode := fld d (Reg.QUEG_LR_CTL r) 1 0
  if r = 0 || mode = 0 || mode = 3 then t
  else
    let n := fld d (Reg.QUEG_LR_CTL r) 4 2
    let v := stampVal d n tick t.arrFine / 2 ^ 32
    let a := (v + 65535) / 65536 + fld d (Reg.QUEG_LR_DELAY r) 29 0
    let cyc : Nat := max 1 (fld d (Reg.QUEG_LR_CYCLE r) 29 0)
    let off := fld d (Reg.QUEG_LR_OFFSET r) 29 0
    let l := if mode = 1 then a else (((a : Int) - off + cyc - 1) / (cyc : Int) * cyc + off).toNat
    { t with domain := n, launchNs := l % 1000000000, launchSec := l / 1000000000 % 65536, launchValid := true }

/-! ### The pipeline from step 3 (R113) -/

/-- Steps 3 to 8 of a frame on port p. The tag carries what Divert gave it. -/
def pipeline (d : Device) (p : Nat) (x : Parsed) (t : Tag) (tick : Nat) : Device :=
  let vid := vidOf d p x
  let v : Vlan := tget (fun _ => {}) d.fwd.vlan vid
  if !v.valid || !bit v.members p then bump d (Reg.CORE_CNT 14)
  else
    let rule := ruleOf d p x
    let act := (rule.getD (0, 0)).1
    let d := if rule.isSome then pulse d (uPipe (p / 10)) 0x12 1 else d
    if bit act 1 then bump d (Reg.CORE_CNT 15)
    else
      let hit := lookup d v.fid x.da
      let d := if hit.isNone then pulse d (uPipe (p / 10)) 0x11 1 else d
      let d := if v.learn && !bit x.sa 40 then learn d p v.fid x.sa else d
      let st := streamMatch d x vid
      let d := if st.isSome then pulse d (uPipe (p / 10)) 0x13 1 else d
      let sw (i : Nat) : Nat := match st with | some e => (e.2.getD i 0).toNat | none => 0
      let cls7 := st.isSome && bit (sw 2) 19 && bits (sw 2) 18 16 == 7
      let r := if st.isSome && bits (sw 3) 12 0 != 0 then streamFilter d (bits (sw 3) 12 0) x.len tick t.arrFine
        else (d, some false)
      let d := if cls7 && r.2 != some false then modCore r.1 (fun c => { c with budget := true }) else r.1
      match r.2 with
      | none => d
      | some policed =>
        let gi := if st.isSome then bits (sw 3) 28 16 else 0
        let gv := tget (fun _ => 0) d.fwd.gen gi
        let gen := decide (0 < gi) && bit gv 0
        if gen && decide (10240 < x.len + 6) then bump d (Reg.CORE_CNT 15)
        else
          let seq := gv / 2
          let d := if gen then
              modFwd d (fun f => { f with gen := tset (fun _ => 0) f.gen gi (2 * ((seq + 1) % 65536) + 1) })
            else d
          let at_ := 12 + x.vb
          let bytes := if gen then
              let b := insertAt (body x.bytes) at_ (beBytes 2 0xF1C1 ++ beBytes 2 0 ++ beBytes 2 seq)
              b ++ fcsBytes b
            else x.bytes
          let rtag := if gen then some (at_, seq)
            else if x.etype = 0xF1C1 then some (at_, beAt x.bytes (at_ + 4) 2) else none
          -- class (R123)
          let pcp := pcpOf d p x
          let c0 := if bit act 2 then bits act 6 4 else bits (fld d (Reg.CORE_PMAP p) 23 0) (3 * pcp + 2) (3 * pcp)
          let fromStream := st.isSome && bit (sw 2) 19
          let d := if !fromStream && c0 == 7 then bump d (Reg.CORE_CNT 17) else d
          let tc := if fromStream then bits (sw 2) 18 16 else min c0 6
          -- destination (R122)
          let redirect := bit act 7
          let dst : Bool × Nat :=
            if redirect then (bit act 8, bits (rule.getD (0, 0)).2 12 0)
            else if st.isSome then (bit (sw 2) 13, bits (sw 2) 12 0)
            else match hit with | some (o, g) => (g, o) | none => (true, v.flood)
          let d := if !redirect && st.isNone && hit.isNone then bump d (Reg.CORE_CNT 12) else d
          let t : Tag :=
            { t with
              tc := tc, ageIdx := bits act 15 12, destKind := b2n dst.1, dest := dst.2, cpuCopy := bit act 9,
              len := bytes.length, stream := match st with | some e => e.1 | none => 0, streamValid := st.isSome,
              policed := policed, vid := vid,
              ptpOff := if gen && t.ptpOff != 0 then t.ptpOff + 6 else t.ptpOff,
              csumOff := if gen && t.csumKind != 0 then t.csumOff + 6 else t.csumOff }
          let t := applyLaunch d (bits act 23 16) tick t
          let outs := copyOuts d t (redirect && !dst.1) (some v.members)
          sendFrame outs.1
            { bytes := bytes, tag := t, cells := [], copies := 0, dests := [], mcast := dst.1,
              recov := if st.isSome then bits (sw 4) 12 0 else 0, rtag := rtag, gen := gen, sender := none, noVlan := false }
            outs.2

/-! ### Divert (R115, R231) -/

/-- A message goes to the runtime engine of the port's bed. -/
def toEngine (d : Device) (p n tick : Nat) (t : Tag) (f : List Byte) : Device :=
  emit (bump d (Reg.TB_CNT 5)) (.engine (p / 10) (stampVal d n tick t.arrFine / 2 ^ 32) f)

/-- A frame addressed to the link-local range: to the CPU or dropped. -/
def linkLocal (d : Device) (t : Tag) (f : List Byte) : Device :=
  if flag d Reg.CORE_CFG 0 then toCpu d { t with tc := 0 } f else bump d (Reg.CORE_CNT 16)

/-- Data: the link-local range, then the pipeline. -/
def dataFrame (d : Device) (p : Nat) (x : Parsed) (t : Tag) (tick : Nat) : Device :=
  if x.da / 16 = 0x0180C200000 then linkLocal d t x.bytes else pipeline d p x t tick

/-- A PTP message by the mode of its port (R231). -/
def ptpFrame (d : Device) (p : Nat) (x : Parsed) (t : Tag) (tick h : Nat) (udp : Option Nat) : Device :=
  let mode := fld d (Reg.TB_PTP p) 2 0
  let ty := byteAt x.bytes h % 16
  let dom := ptpDomain d x h udp.isSome
  let n := dom.getD 0
  let cs := ptpCsum d p x h udp
  let t1 : Tag := { t with ptpOff := h, csumKind := cs.1, csumOff := cs.2, domain := n }
  match mode with
  | 1 =>
    match dom with
    | some n => toEngine d p n tick t x.bytes
    | none => bump (bump d (Reg.TB_CNT 6)) (Reg.TB_CNT 7)
  | 2 => pipeline d p x { t1 with tsOp := if ty < 4 then 2 else 0 } tick
  | 3 =>
    if ty = 0 then pipeline d p x { t1 with tsOp := 3 } tick
    else if ty = 2 || ty = 3 || ty = 0xA then toEngine d p n tick t x.bytes
    else if ty = 1 || ty = 9 then bump d (Reg.TB_CNT 7)
    else pipeline d p x t1 tick
  | 4 => toCpu (bump d (Reg.TB_CNT 5)) { t with tc := 6, ptpOff := h, domain := n } x.bytes
  | _ => dataFrame d p x t tick

/-! ### Ladder messages and command frames (R58, R61, R487) -/

/-- The packet of a frame behind its tags: header words and parameters, where the frame holds it whole. -/
def packetAt (f : List Byte) (at_ : Nat) : Option (List Word) :=
  let room := f.length - 4 - at_
  let n := bits ((wordsOf 4 (f.drop at_)).getD 2 0).toNat 10 0
  if room < 16 || 1024 < n || room < 16 + 4 * n then none else some (wordsOf (4 + n) (f.drop at_))

/-- A frame meets R58. -/
def meetsR58 (f : List Byte) : Bool :=
  f.length == 66 && beAt f 0 6 == 0x0180C200000E && beAt f 12 2 == 0x88B5 &&
    (match packetAt f 14 with
     | some ws =>
       bits (ws.getD 0 0).toNat 15 0 == 0x0204 && bits (ws.getD 1 0).toNat 5 0 == 0 && bits (ws.getD 1 0).toNat 31 16 == 0xE000
         && bits (ws.getD 2 0).toNat 10 0 == 8
     | none => false)

/-- The fields of a ladder message (R59, R60). -/
def ladderOfWords (ws : List Word) : LadderMsg :=
  let w (i : Nat) : Nat := (ws.getD i 0).toNat
  { tag := BitVec.ofNat 10 (bits (w 0) 25 16), lane := bits (w 4) 23 16, width := bits (w 4) 31 24,
    serial := BitVec.ofNat 64 (w 6 + 2 ^ 32 * w 5), rung := bits (w 7) 1 0, rateMax := bits (w 7) 9 8,
    foms := [bits (w 8) 7 0, bits (w 8) 15 8, bits (w 8) 23 16, bits (w 8) 31 24], reason := bits (w 9) 7 0 }

/-- A frame that meets R58 reaches ME0 (R61). -/
def ladderFrame (d : Device) (p : Nat) (f : List Byte) : Device :=
  let ws := (packetAt f 14).getD []
  let w := (ws.getD 4 0).toNat
  let kind := bits w 7 0
  if bits w 15 8 = 1 && inRange kind 1 7 then ladderRx d p kind (ladderOfWords ws)
  else event d (Reg.LANE_EVENT p) 14

/-- A command frame is discarded (R487). -/
def inbDrop (d : Device) : Device := event (bump d (Reg.CMD_CNT 4)) Reg.CMD_EVENT 3

/-- What an 0x88B5 frame that is no ladder message holds: source address, tags and packet words, where it is accepted. -/
def inbandOf (d : Device) (p : Nat) (x : Parsed) : Option (Nat × List Word × List Word) :=
  if x.da = portMac d p && bit (rd d Reg.CMD_INB_EN_LO + 2 ^ 32 * rd d Reg.CMD_INB_EN_HI) p
      && decide (4138 ≤ fld d (Reg.PORT_CFG p) 29 16) && !flag d Reg.GLB_PWR_STATUS 1 then
    match packetAt x.bytes (14 + x.vb) with
    | some ws => some (x.sa, (upTo (x.vb / 4)).map (fun i => w32 (beAt x.bytes (12 + 4 * i) 4)), ws)
    | none => none
  else none

/-! ### The receive MAC (R94, R95, R646) -/

/-- What the receive MAC leaves to be done: nothing more, or a command frame: source address, tags, packet words. -/
abbrev Inband := Option (Nat × List Word × List Word)

/-- A frame passes step 1 of the pipeline, with its stamp. -/
def ingress (d : Device) (p : Nat) (f : RxFrame) : Device × Inband :=
  let d := pulse d (uPipe (p / 10)) 0x10 1
  let x := parse f.bytes
  let a := arrival (rxTime d p f)
  let t : Tag := { src := p, len := x.len, arrTick := a.1 % 2 ^ 40, arrFine := a.2, vid := vidOf d p x }
  if x.etype = 0x88B5 then
    match inbandOf d p x with
    | some c => (d, some c)
    | none => (inbDrop d, none)
  else
    match ptpAt x with
    | some (h, udp) => (ptpFrame d p x t a.1 h udp, none)
    | none => (dataFrame d p x t a.1, none)

/-- A frame ends on the wire of a port (R646). -/
def receive (d : Device) (p : Nat) (f : RxFrame) : Device × Inband :=
  let n := f.bytes.length
  if !(ticking d && coreReady d) || absorbed d p then (d, none)
  else if n < 64 || fld d (Reg.PORT_CFG p) 29 16 < n then (bump d (Reg.PORT_CNT p 3), none)
  else if !fcsGood f.bytes then (bump d (Reg.PORT_CNT p 2), none)
  else
    let d := count (bump d (Reg.PORT_CNT p 0)) (Reg.PORT_CNT p 1) n
    let up := portSt d p == 2
    let control := beAt f.bytes 12 2 == 0x8808
    if meetsR58 f.bytes && portSt d p != 0 then (ladderFrame d p f.bytes, none)
    else
      -- a control frame on a port that is not UP is dropped by both rules, and counted by both (R95, R646)
      let d := if control then bump d (Reg.PORT_CNT p 4) else d
      if !up then (bump d (Reg.PORT_CNT p 19), none)
      else if control then (d, none)
      else ingress d p f

/-! ### Host frames and frames of the Brely receiver (R34, R126) -/

/-- A tag from its eight words (R125). -/
def tagOfWords (ws : List Word) : Tag :=
  let w (i : Nat) : Nat := (ws.getD i 0).toNat
  { src := bits (w 0) 5 0, tc := bits (w 0) 8 6, domain := bits (w 0) 11 9, ageIdx := bits (w 0) 15 12, seq := bits (w 0) 27 16,
    destKind := bits (w 0) 29 28, dest := bits (w 1) 12 0, cpuCopy := bit (w 1) 15, len := bits (w 1) 29 16,
    arrTick := w 2 + 2 ^ 32 * bits (w 3) 7 0, arrFine := bits (w 3) 23 8, launchNs := bits (w 4) 29 0,
    launchValid := bit (w 4) 31, launchSec := bits (w 5) 15 0, stream := bits (w 5) 29 16, streamValid := bit (w 5) 30,
    tsOp := bits (w 6) 2 0, ptpOff := bits (w 6) 10 3, csumKind := bits (w 6) 12 11, csumOff := bits (w 6) 20 13,
    capId := bits (w 6) 30 21, ecn := bit (w 7) 0, dei := bit (w 7) 1, late := bit (w 7) 2, policed := bit (w 7) 3,
    vid := bits (w 7) 15 4 }

/-- A host frame with its tag enters at stage 4 (R34, R126); sender is the applet that sent it. The frame's bytes hold its FCS. -/
def hostFrame (d : Device) (t : Tag) (bytes : List Byte) (sender : Option Nat) : Device :=
  let freed (d : Device) : Device := match sender with
    | some e => modApplet d e (fun a => { a with outstanding := a.outstanding - 1 })
    | none => d
  if 2 ≤ t.destKind || (t.destKind = 0 && decide (41 < t.dest)) then freed (bump d (Reg.CORE_CNT 15))
  else
    let vb := vlanBytes bytes
    let vid := if vb = 0 then 0 else beAt bytes 14 2 % 4096
    let t : Tag :=
      { t with
        src := 40, seq := 0, arrTick := tickcnt d, arrFine := 0, len := bytes.length, stream := 0, streamValid := false,
        vid := vid, ecn := false, dei := false, late := false, policed := false }
    let v : Vlan := tget (fun _ => {}) d.fwd.vlan vid
    let members : Option Nat := if vid = 0 then none else some (if v.valid then v.members else 0)
    let outs := copyOuts d t (t.destKind == 0 && t.dest == 40) members
    sendFrame outs.1
      { bytes := bytes, tag := t, cells := [], copies := 0, dests := [], mcast := t.destKind == 1, recov := 0, rtag := none,
        gen := false, sender := sender, noVlan := vid == 0 } outs.2

end Sys2Proof.Machine
end

