-- ==== Sys2Proof/Machine/ShaftOps.lean ====
section
/-! DEFINITION. Line shafts: the master's profile, slave axes, cycles, setpoint frames, POSITION triggers, and halt frames
(R419, R423 to R437). -/

namespace Sys2Proof.Machine

/-! ### The master's profile (R427, R428) -/

/-- An integer of 2^-16 units. -/
def q16 (n : Int) : Q := frac n 65536
/-- An integer of 2^-32 units. -/
def q32 (n : Int) : Q := frac n 4294967296

/-- Master and slave positions wrap modulo 2^32 revolutions. -/
def wrapM (m : Q) : Q := qSub m (qOf (qFloor (qDiv m (qOf 4294967296)) * 4294967296))

/-- A position in units of 2^-32 revolutions, rounded once (R427). -/
def units32 (x : Q) : Int := qRound (qMul x (qOf 4294967296))

/-- t seconds with a constant jerk. -/
def integ (x : Master) (j t : Q) : Master :=
  let t2 := qMul t t
  { x with
    m := qAdd (qAdd x.m (qMul x.v t)) (qAdd (qMul x.a (qDiv t2 (qOf 2))) (qMul j (qDiv (qMul t2 t) (qOf 6)))),
    v := qAdd (qAdd x.v (qMul x.a t)) (qMul j (qDiv t2 (qOf 2))),
    a := qAdd x.a (qMul j t) }

/-- t seconds of the profile: its pieces in order, and behind them the final velocity with no acceleration. -/
def runMaster (x : Master) : List (Q × Q) → Q → Master
  | [], t => { x with m := qAdd x.m (qMul x.v t), segs := [] }
  | (s, j) :: l, t =>
    if qLt t s then { integ x j t with segs := (qSub s t, j) :: l }
    else
      let y := integ x j s
      runMaster (if l.isEmpty then { y with v := x.vt, a := {} } else y) l (qSub t s)

/-- What is left of the profile, in seconds. -/
def profileLeft (l : List (Q × Q)) : Q := l.foldl (fun t s => qAdd t s.1) {}

/-- The profile of R428 from the present state to vt with limits lim and j. A piece without length is left out. -/
def plan (x : Master) (vt lim j : Q) : Master :=
  let two := qOf 2
  let s := qSign (qSub vt (qAdd x.v (qDiv (qMul x.a (qAbs x.a)) (qMul two j))))
  let under := qAdd (qMul (qOf s) (qMul j (qSub vt x.v))) (qDiv (qMul x.a x.a) two)
  let root := isqrt (qFloor (qMul under (qOf 4294967296))).toNat
  let ap := q16 (s * min (qTrunc (qMul lim (qOf 65536))) root)
  let t1 := qDiv (qAbs (qSub ap x.a)) j
  let t3 := qDiv (qAbs ap) j
  let dv := qSub (qSub (qSub vt x.v) (qDiv (qMul (qAdd x.a ap) t1) two)) (qDiv (qMul ap t3) two)
  let t2 := if ap.num = 0 then {} else qDiv dv ap
  let l : List (Q × Q) :=
    [(t1, qMul (qOf (qSign (qSub ap x.a))) j), (if t2.num < 0 then {} else t2, {}), (t3, qMul (qOf (-(qSign ap))) j)]
  let l := l.filter (fun p => decide (p.1.num ≠ 0))
  if l.isEmpty then { x with v := vt, a := {}, vt := vt, segs := [] } else { x with vt := vt, segs := l }

/-! ### Slave axes (R430, R431) -/

def axisOf (h : Shaft) (i : Nat) : Axis := tget (fun _ => {}) h.axes i
def camOf (h : Shaft) (c : Nat) : Cam := tget (fun _ => {}) h.cams c
def modAxis (h : Shaft) (i : Nat) (f : Axis → Axis) : Shaft := { h with axes := tmod (fun _ => {}) h.axes i f }

/-- A whole number into ±2^31 revolutions: the signed difference modulo 2^64 units. -/
def signedRev (x : Q) : Q :=
  let y := wrapM x
  if qLe (qOf 2147483648) y then qSub y (qOf 4294967296) else y

/-- A cam table's value over its period, with LIFT per whole period. -/
def camValue (c : Cam) (q : Q) : Q :=
  let w := qFloor (qDiv q c.per)
  let u := qDiv (qMul (qSub q (qMul (qOf w) c.per)) (qOf c.n)) c.per
  let i := (qFloor u).toNat
  let t := qSub u (qOf i)
  let pt (k : Nat) : Q × Q := tget (fun _ => ({}, {})) c.pts k
  let y0 := (pt i).1
  let y1 := if i + 1 < c.n then (pt (i + 1)).1 else qAdd (pt 0).1 c.lift
  let m0 := qDiv (qMul (pt i).2 c.per) (qOf c.n)
  let m1 := qDiv (qMul (pt ((i + 1) % max c.n 1)).2 c.per) (qOf c.n)
  let t2 := qMul t t
  let t3 := qMul t2 t
  let h00 := qAdd (qSub (qMul (qOf 2) t3) (qMul (qOf 3) t2)) (qOf 1)
  let h10 := qAdd (qSub t3 (qMul (qOf 2) t2)) t
  let h01 := qSub (qMul (qOf 3) t2) (qMul (qOf 2) t3)
  let h11 := qSub t3 t2
  qAdd (qMul (qOf w) c.lift)
    (qAdd (qAdd (qMul h00 y0) (qMul h10 m0)) (qAdd (qMul h01 y1) (qMul h11 m1)))

/-- What an axis's MODE makes of D. -/
def axisMove (h : Shaft) (x : Axis) (diff : Q) : Q :=
  if x.mode = 2 then camValue (camOf h x.cam) (qAdd diff x.phase)
  else qDiv (qMul (qOf x.num) diff) (qOf x.den)

/-- S of an axis at the apply instant that `now_` describes (R430, R433). -/
def axisS (h : Shaft) (x : Axis) : Q :=
  if x.engaged then qAdd (qAdd x.b x.off) (axisMove h x (signedRev (qSub h.now_.m x.me))) else x.held

/-- OFF moves for t seconds toward the target of a running trim. -/
def trimFor (t : Q) (x : Axis) : Axis :=
  match x.trim with
  | none => x
  | some (goal, rate) =>
    let left := qSub goal x.off
    if qLe (qAbs left) (qMul rate t) then { x with off := goal, trim := none }
    else { x with off := qAdd x.off (qMul (qMul rate t) (qOf (qSign left))) }

/-! ### Status of a shaft (R440) -/

def shSt (d : Device) (s : Nat) : Nat := fld d (Reg.SYN_SH_STATUS s) 2 0
def setShSt (d : Device) (s st : Nat) : Device := setFld d (Reg.SYN_SH_STATUS s) 2 0 st
/-- The shaft runs a profile that a QUICK_STOP began. -/
def quick (d : Device) (s : Nat) : Bool := flag d (Reg.SYN_SH_STATUS s) 4

/-- Engaged axes of a shaft. -/
def engagedAxes (h : Shaft) : Nat := (h.axes.filter (fun e => e.2.engaged)).length

/-- PROFILE and ENGAGED follow. -/
def shStatus (d : Device) (s : Nat) : Device :=
  let h := shaftOf d s
  let run := !h.now_.segs.isEmpty
  let d := setFlag (setFld d (Reg.SYN_SH_STATUS s) 16 8 (engagedAxes h)) (Reg.SYN_SH_STATUS s) 3 run
  if run then d else setFlag d (Reg.SYN_SH_STATUS s) 4 false

/-! ### Cycles (R423, R426) -/

/-- First injection time of a cycle, and an apply instant, in ns. -/
def injAt (h : Shaft) (k f : Nat) : Int := (h.base + k * h.cycle + ((h.frames[f]?).map (·.offset)).getD 0 : Nat) - (h.lead : Int)
def applyAt (h : Shaft) (k : Nat) : Nat := h.base + k * h.cycle + h.delay

/-- TB0 in ns, rounded down. -/
def tb0Ns (d : Device) : Nat := tbVal d 0 / nsUnit

/-- The least cycle whose first injection time is at or after a time in ns. -/
def cycleFrom (h : Shaft) (t : Int) : Nat := ((t - injAt h 0 0 + h.cycle - 1) / (max h.cycle 1 : Nat)).toNat

/-- The first cycle whose computation begins after the present time: its predecessor's first injection lies ahead (R425, R428). -/
def firstApply (d : Device) (s : Nat) : Nat :=
  let h := shaftOf d s
  max h.low (cycleFrom h ((tb0Ns d + 1 + h.cycle : Nat) : Int))

/-! ### The engine's computation (R425 to R431) -/

/-- The master has reached the end of its profile at an apply instant: MOTION_DONE falls due then, and the state follows (R428,
R434). -/
def profileEnd (d : Device) (s k : Nat) : Device :=
  let at_ := applyAt (shaftOf d s) k
  let d := modShaft d s (fun h => { h with doneAt := h.doneAt ++ [at_] })
  if shSt d s = 3 || (shSt d s == 2 && (shaftOf d s).now_.vt.num == 0) then setShSt d s 1 else d

/-- The shaft's state moves on to the apply instant of cycle k, without a motion in between. -/
def shaftRun (d : Device) (s k : Nat) : Device :=
  let h := shaftOf d s
  if k ≤ h.kc then d
  else
    let t := frac ((k - h.kc) * h.cycle : Nat) 1000000000
    let left := profileLeft h.now_.segs
    let ended := !h.now_.segs.isEmpty && qLe left t
    let n := ((qMul left (qOf 1000000000)).num + (((qMul left (qOf 1000000000)).den * h.cycle : Nat) : Int) - 1)
      / (max ((qMul left (qOf 1000000000)).den * h.cycle) 1 : Nat)
    let x := runMaster h.now_ h.now_.segs t
    let d := modShaft d s (fun h => { h with kc := k, now_ := { x with m := wrapM x.m }, axes := tmap (fun _ => {}) (trimFor t) h.axes })
    shStatus (if ended then profileEnd d s (h.kc + n.toNat) else d) s

/-- A configured maximum where a limit is given as 0 (R429). -/
def limitOr (w : Nat) (most : Int) : Q := if w = 0 then q16 most else q16 w

/-- A profile begins at the present apply instant (R428). -/
def startProfile (d : Device) (s : Nat) (vt lim j : Q) : Device :=
  let d := modShaft d s (fun h => { h with now_ := plan h.now_ vt lim j })
  let h := shaftOf d s
  if h.now_.segs.isEmpty then profileEnd d s h.kc else d

/-- The used axes that a motion names. -/
def namedAxes (ws : List Word) : List Nat :=
  (upTo (bits (wordOf ws 4) 24 16)).map (fun i => bits (wordOf ws 4) 8 0 + i)

/-- One axis engages: it continues from H (R430). -/
def engageAxis (h : Shaft) (i : Nat) : Shaft :=
  let x := axisOf h i
  if x.engaged then h
  else
    modAxis h i (fun x => { x with engaged := true, me := h.now_.m, b := qSub (qSub x.held x.off) (axisMove h x {}) })

/-- One axis holds its last S (R429, R430). -/
def disengageAxis (last : List (Nat × Q)) (h : Shaft) (i : Nat) : Shaft :=
  let x := axisOf h i
  if !x.engaged then h
  else
    let p := match last.find? (fun e => e.1 == i) with | some e => e.2 | none => axisS h x
    modAxis h i (fun x => { x with engaged := false, held := p })

/-- A motion applies at the present apply instant (R429, R431, R434). -/
def applyMotion (d : Device) (s : Nat) (last : List (Nat × Q)) (m : Motion) : Device :=
  let h := shaftOf d s
  let w (i : Nat) : Nat := wordOf m.words i
  let d :=
    match m.op with
    | 0 =>
      let vt := q16 (signed 32 (w 1))
      let st := shSt d s
      let d := setFlag (if vt.num ≠ 0 || st ≠ 1 then setShSt d s 2 else d) (Reg.SYN_SH_STATUS s) 4 false
      startProfile d s vt (limitOr (w 2) h.aMax) (limitOr (w 3) h.jMax)
    | 1 =>
      let d := setFlag (if shSt d s = 2 then setShSt d s 3 else d) (Reg.SYN_SH_STATUS s) 4 false
      startProfile d s {} (q16 h.aMax) (q16 h.jMax)
    | 2 =>
      let d := setFlag (if shSt d s = 2 then setShSt d s 3 else d) (Reg.SYN_SH_STATUS s) 4 true
      startProfile d s {} (q16 h.aQs) (q16 h.jQs)
    | 3 => modShaft d s (fun h => (namedAxes m.words).foldl engageAxis h)
    | 4 => modShaft d s (fun h => (namedAxes m.words).foldl (disengageAxis last) h)
    | 5 =>
      let by_ := q32 (signed 64 (w 5 + 2 ^ 32 * w 6))
      modShaft d s (fun h => (namedAxes m.words).foldl (fun h i =>
        modAxis h i (fun x => { x with trim := if by_.num = 0 then none else some (qAdd x.off by_, q16 (w 7)) })) h)
    | 7 =>
      let p := q32 (w 5 + 2 ^ 32 * w 6 : Nat)
      modShaft d s (fun h =>
        let by_ := qSub p h.now_.m
        { h with
          now_ := { h.now_ with m := p },
          axes := tmap (fun _ => {}) (fun x => if x.engaged then { x with me := wrapM (qAdd x.me by_) } else x) h.axes })
    | _ => d
  shStatus d s

/-- Every engaged axis's S. -/
def allS (h : Shaft) : List (Nat × Q) :=
  h.axes.filterMap (fun e => if e.2.engaged then some (e.1, axisS h e.2) else none)

/-- The motions due by cycle k are applied in order, each at its cycle; last is what the axes had one cycle before. -/
def applyMotions (s k : Nat) : List Motion → List (Nat × Q) → Device → Device
  | [], _, d => d
  | m :: l, last, d =>
    if k < m.k then d
    else
      let late := decide ((shaftOf d s).kc < m.k)
      let d1 := if late then shaftRun d s (m.k - 1) else d
      let last := if late then allS (shaftOf d1 s) else last
      let d2 := applyMotion (shaftRun d1 s m.k) s last m
      applyMotions s k l last d2

/-- Cycle k is computed: motions and profile up to its apply instant; its values are published (R427). -/
def shaftTo (d : Device) (s k : Nat) : Device :=
  let ms := (shaftOf d s).motions
  let d := applyMotions s k ms [] d
  let d := shaftRun (modShaft d s (fun h => { h with motions := h.motions.filter (fun m => decide (k < m.k)) })) s k
  let h := shaftOf d s
  let p := (applyAt h k, unsigned 64 (units32 h.now_.m), unsigned 64 (units32 h.now_.v), unsigned 64 (units32 h.now_.a))
  let now := tb0Ns d
  let ahead := h.pubs.filter (fun e => decide (now < e.1))
  let past := (h.pubs.filter (fun e => decide (e.1 ≤ now))).take 1
  modShaft d s (fun h => { h with pubs := p :: (ahead ++ past) })

/-- M, v and a at the last apply instant that TB0 has reached, as published (R438). -/
def published (d : Device) (s : Nat) : Nat × Nat × Nat :=
  match firstOf (fun (e : Nat × Nat × Nat × Nat) => decide (e.1 ≤ tb0Ns d)) (shaftOf d s).pubs with
  | some e => e.2
  | none => (0, 0, 0)

/-! ### Setpoint frames (R424, R432, R433) -/

/-- The 8 bytes of an axis's entry. -/
def entryBytes (h : Shaft) (i : Nat) : List Byte :=
  let x := axisOf h i
  [BitVec.ofNat 8 i, BitVec.ofNat 8 (b2n x.engaged + 2 * b2n (x.mode == 2) + 4 * b2n x.trim.isSome)]
    ++ beBytes 6 (unsigned 48 (units32 (axisS h x)))

/-- Addresses, tag and EtherType of a setpoint frame. -/
def setpointHead (h : Shaft) (g : SFrame) : List Byte :=
  beBytes 6 g.da ++ beBytes 6 h.sa ++ (if g.vid = 0 then [] else beBytes 2 0x8100 ++ beBytes 2 (g.pcp * 8192 + g.vid))
    ++ beBytes 2 0x88B6

/-- A setpoint frame with its FCS. -/
def setpointFrame (s : Nat) (h : Shaft) (f : Nat) (g : SFrame) : List Byte :=
  let a := applyAt h h.k
  let b := setpointHead h g
    ++ [1, BitVec.ofNat 8 s, BitVec.ofNat 8 f, BitVec.ofNat 8 h.frames.length] ++ beBytes 4 h.k
    ++ beBytes 6 (a / 1000000000) ++ beBytes 4 (a % 1000000000)
    ++ beBytes 8 (unsigned 64 (units32 h.now_.m)) ++ beBytes 4 (unsigned 32 (qRound (qMul h.now_.v (qOf 65536))))
    ++ beBytes 2 h.flags ++ beBytes 2 g.first ++ beBytes 2 g.entries ++ [0, 0, 0, 0]
    ++ ((upTo g.entries).map (fun i => entryBytes h (g.first + i))).flatten
  let b := b ++ List.replicate (g.len - 4 - b.length) 0
  b ++ fcsBytes b

/-- FLAGS of the cycle under injection (R432). -/
def cycleFlags (d : Device) (s : Nat) : Nat :=
  let st := shSt d s
  b2n (st == 2 || st == 3) + 2 * b2n (st == 3) + 4 * b2n (sideSt d (activeSide d) != 1) + 8 * b2n (uncertain d 0)
    + 16 * b2n (shaftOf d s).skipped

/-- The tag of a setpoint frame (R424). -/
def setpointTag (g : SFrame) (launch : Nat) : Tag :=
  { src := 40, tc := 7, destKind := 1, dest := g.group, launchValid := true, launchNs := launch % 1000000000,
    launchSec := launch / 1000000000 % 65536 }

/-! ### POSITION triggers (R419) -/

/-- Pieces of the master's course over t seconds from a state: (start in s, duration, state, jerk). -/
def pieces (x : Master) : List (Q × Q) → Q → Q → List (Q × Q × Master × Q)
  | [], t0, t => if t.num ≤ 0 then [] else [(t0, t, x, {})]
  | (s, j) :: l, t0, t =>
    if t.num ≤ 0 then []
    else if qLt t s then [(t0, t, x, j)]
    else
      let y := integ x j s
      (t0, s, x, j) :: pieces (if l.isEmpty then { y with v := x.vt, a := {} } else y) l (qAdd t0 s) (qSub t s)

/-- Time of 2^-16 ns units in seconds. -/
def gridSec (n : Nat) : Q := frac n 65536000000000

/-- The least of the first 2^n grid units after lo at which a condition that stays holds once it holds. -/
def leastGrid (p : Nat → Bool) : Nat → Nat → Nat
  | 0, lo => lo
  | n + 1, lo => if p (lo + 2 ^ n) then leastGrid p n lo else leastGrid p n (lo + 2 ^ n)

/-- A piece cut where its acceleration is 0, so that v is monotone in each part. -/
def cutAccel (p : Q × Q × Master × Q) : List (Q × Q × Master × Q) :=
  let (t0, t, x, j) := p
  let z := qDiv (qNeg x.a) j
  if j.num ≠ 0 ∧ 0 < z.num ∧ qLt z t then [(t0, z, x, j), (qAdd t0 z, qSub t z, integ x j z, j)] else [p]

/-- A part with monotone v cut at the grid unit where v changes sign, so that M is monotone in each. -/
def cutSpeed (p : Q × Q × Master × Q) : List (Q × Q × Master × Q) :=
  let (t0, t, x, j) := p
  let e := integ x j t
  if qSign x.v * qSign e.v < 0 then
    let z := gridSec (leastGrid (fun n => qLe t (gridSec n) || decide (qSign (integ x j (gridSec n)).v ≠ qSign x.v)) 41 0 + 1)
    if qLt z t then [(t0, z, x, j), (qAdd t0 z, qSub t z, integ x j z, j)] else [p]
  else [p]

/-- Times in 2^-16 ns after A_k at which a monotone part reaches the trigger positions of a pin. -/
def triggers (pos per : Q) (both : Bool) (p : Q × Q × Master × Q) : List Nat :=
  let (t0, t, x, j) := p
  let e := integ x j t
  let u0 := qFloor (qMul t0 (qOf 65536000000000))
  let reach (fwd : Bool) (q : Q) : Nat :=
    let ok (n : Nat) : Bool :=
      let y := (integ x j (gridSec n)).m
      qLe t (gridSec n) || (if fwd then qLe q y else qLe y q)
    if ok 0 then u0.toNat else u0.toNat + leastGrid ok 41 0 + 1
  let at_ (n : Int) : Q := qAdd pos (qMul (qOf n) per)
  let rank (q : Q) : Q := qDiv (qSub q pos) per
  let up (q : Q) : Int := -(qFloor (qNeg q))
  if qLt x.m e.m then
    let lo := up (rank x.m)
    let hi := up (rank e.m)
    (upTo (hi - lo).toNat).map (fun (i : Nat) => reach true (at_ (lo + (i : Int))))
  else if qLt e.m x.m && both then
    let hi := qFloor (rank x.m)
    let lo := qFloor (rank e.m)
    (upTo (hi - lo).toNat).map (fun (i : Nat) => reach false (at_ (hi - (i : Int))))
  else []

/-- Insert an edge behind those not later. -/
def edgeInsert (e : Nat × Bool) : List (Nat × Bool) → List (Nat × Bool)
  | [] => [e]
  | x :: l => if e.1 < x.1 then e :: x :: l else x :: edgeInsert e l

/-- The edges of a POSITION pin for the interval that begins at the present apply instant. -/
def positionPin (s : Nat) (d : Device) (j : Nat) : Device :=
  if pinFn d j ≠ 5 || pinShaft d j ≠ s || flag d (Reg.SYN_PIN_STATUS j) 1 || flag d (Reg.SYN_PIN_STATUS j) 3 then d
  else
    let h := shaftOf d s
    let p := pinOf d j
    let t := frac h.cycle 1000000000
    let ps := (((pieces h.now_ h.now_.segs {} t).map cutAccel).flatten.map cutSpeed).flatten
    let us := (ps.map (triggers (q32 (p.pos : Nat)) (q32 (p.per : Nat)) p.both)).flatten
    let at_ := applyAt h h.kc * 65536
    modPin d j (fun p =>
      { p with queue := us.foldl (fun l u => edgeInsert (at_ + u + p.width, false) (edgeInsert (at_ + u, true) l)) p.queue })

/-! ### Injection (R424, R426) -/

/-- The first frame of a cycle: the cycle is computed, its triggers scheduled, its FLAGS fixed. -/
def cycleBegin (d : Device) (s : Nat) : Device :=
  let k := (shaftOf d s).k
  let d := shaftTo d s k
  let d := if shSt d s = 2 || shSt d s = 3 then each (upTo 16) d (positionPin s) else d
  let fl := cycleFlags d s
  modShaft d s (fun h => { h with flags := fl, skipped := false, nextK := k + 1, low := max h.low (k + 2) })

/-- The cycle k of a shaft is computed but not injected: the member is off, or has taken over less than 10 µs before it (R574). -/
def shaftQuiet (d : Device) (h : Shaft) (k : Nat) : Bool :=
  pairedOff d 3 || (flag d Reg.RED_PAIR 3 && (match d.red.takenNs with
    | some t => decide (injAt h k 0 < (t + 10000 : Nat))
    | none => false))

/-- A frame of a shaft is injected at its time (R424). -/
def injectFrame (d : Device) (s : Nat) : Device :=
  let h := shaftOf d s
  let f := h.f
  if !(shSt d s == 1 || shSt d s == 2 || shSt d s == 3) || decide ((tb0Ns d : Int) < injAt h h.k f) then d
  else
    let d := if f = 0 then cycleBegin d s else d
    let h := shaftOf d s
    match h.frames[f]? with
    | none => d
    | some g =>
      let launch := h.base + h.k * h.cycle + g.offset
      let fid := d.core.nextFrame
      let send (d : Device) : Device :=
        let d := hostFrame d (setpointTag g launch) (setpointFrame s h f g) none
        let d := modShaft d s (fun h => { h with sent := fid :: h.sent.filter (fun i => (frameOf d i).isSome) })
        bump (wr d (Reg.SYN_SH_SEQ s) h.k) (Reg.SYN_CNT (6 + s))
      let d := if shaftQuiet d h h.k then d else send d
      modShaft d s (fun h => if f + 1 < h.frames.length then { h with f := f + 1 } else { h with f := 0, k := h.nextK })

/-- A forward change of TB0: cycles whose first injection time has passed are skipped (R426). -/
def shaftSkip (d : Device) (s : Nat) : Device :=
  let h := shaftOf d s
  let st := shSt d s
  if !(st == 1 || st == 2 || st == 3) then d
  else
    let from_ := if h.f = 0 then h.k else h.nextK
    let upto := cycleFrom h (tb0Ns d)
    if upto ≤ from_ then d
    else
      let d := event (count d (Reg.SYN_CNT (10 + s)) (upto - from_)) Reg.SYN_EVENT 6
      let d := modShaft d s (fun h =>
        { h with skipped := true, low := max h.low (upto + 1), k := if h.f = 0 then upto else h.k, nextK := upto })
      if h.f = 0 then shaftTo d s (upto - 1) else d

/-- MOTION_DONE of the profiles whose end TB0 has reached. -/
def motionsDone (d : Device) (s : Nat) : Device :=
  let h := shaftOf d s
  let now := tb0Ns d
  if h.doneAt.any (fun t => decide (t ≤ now)) then
    event (modShaft d s (fun h => { h with doneAt := h.doneAt.filter (fun t => decide (now < t)) })) Reg.SYN_EVENT 5
  else d

/-! ### Shears on shafts and ports (R434, R437) -/

/-- A shaft halts: it holds M and every S. -/
def shaftHalt (d : Device) (s : Nat) : Device :=
  if shSt d s = 0 || shSt d s = 4 then d
  else
    let h := shaftOf d s
    let p := (0, unsigned 64 (units32 h.now_.m), 0, 0)
    let d := modShaft d s (fun h =>
      { h with
        now_ := { m := h.now_.m }, motions := [], pubs := [p], doneAt := [], f := 0,
        axes := tmap (fun _ => {}) (fun x => { x with trim := none }) h.axes })
    shStatus (setShSt d s 4) s

def haltOf (d : Device) (h : Nat) : HaltSlot := tget (fun _ => {}) d.syn.halts h
def haltValid (d : Device) (h : Nat) : Bool := flag d (Reg.SYN_HALT_CTL h) 0

/-- The valid slots that name a port, in order. -/
def haltSlots (d : Device) (p : Nat) : List Nat := (upTo 16).filter (fun h => haltValid d h && bit (haltOf d h).ports p)

/-- A halt frame of a port starts. -/
def haltStart (d : Device) (p h : Nat) : Device :=
  let mode := modeCur d p
  let n := (haltOf d h).bytes.length + 4
  let d := modSyn d (fun y =>
    { y with haltEnd := tset (fun _ => 0) y.haltEnd p (startPos d mode + (n + 8) * byteTime mode) })
  modOut d p (fun x => { x with wireFree := d.tick * 80 + occupancy mode n })

/-- Shears acts at a port: its frame on the wire is cut, and its halt frames start (R437). -/
def portHalt (d : Device) (p : Nat) : Device :=
  let l := haltSlots d p
  if portSt d p ≠ 2 || absorbed d p || l.isEmpty then d
  else
    let d := match (outOf d p).wire with
      | some x =>
        let b := cutBytes d p x
        let d := bump (modOut d p (fun y => { y with wire := none })) (Reg.SYN_CNT 4)
        endCopy (capture (emit d (.frame p b true)) p x.copy.tag x.depart x.departEn true) x.copy
      | none => d
    let d := modSyn d (fun y => { y with haltDue := tset (fun _ => []) y.haltDue p l })
    haltStart d p (l.headD 0)

/-- Every queued copy of a setpoint frame is dropped. -/
def dropSetpoints (d : Device) : Device :=
  let fids := (d.syn.shafts.map (fun e => e.2.sent)).flatten
  if fids.isEmpty then d
  else
    each (upTo 42) d (fun d o =>
      let mine (c : Copy) : Bool := fids.contains c.fid
      let l := copiesOf (outOf d o) mine
      each l (modOut d o (fun x => without x mine)) (fun d c => dropCopy (bump d (Reg.SYN_CNT 5)) c))

/-- Halt frames are due or on a wire: SYN_STATUS.HALT_BUSY. -/
def anyHalt (d : Device) : Bool := d.syn.haltDue.any (fun e => !e.2.isEmpty)

/-- Shears acts on pins, shafts and ports (R421, R434, R437). -/
def shearsAct (d : Device) : Device :=
  let d := each (upTo 4) (each (upTo 16) d pinShear) shaftHalt
  let d := each (upTo 40) (dropSetpoints d) portHalt
  event d Reg.SYN_EVENT 0

/-- The halt frame on a port's wire ends; the next slot follows (R437). -/
def haltDone (d : Device) (p : Nat) : Device :=
  match tget (fun _ => []) d.syn.haltDue p with
  | [] => d
  | h :: l =>
    if d.tick * 80 < tget (fun _ => 0) d.syn.haltEnd p then d
    else
      let b := (haltOf d h).bytes
      let d := bump (emit d (.frame p (b ++ fcsBytes b) false)) (Reg.SYN_CNT 3)
      let d := modSyn d (fun y => { y with haltDue := tset (fun _ => []) y.haltDue p l })
      match l with
      | h' :: _ => haltStart d p h'
      | [] => if anyHalt d then d else event d Reg.SYN_EVENT 1

end Sys2Proof.Machine
end

