-- ==== Sys2Proof/Machine/Faults.lean ====
section
/-! DEFINITION. The reaction logic: records, repeats, escalation, reactions, FAULT_N, Shears, fault injection, and the fault
commands (R525 to R556). -/

namespace Sys2Proof.Machine

/-! ### Records (R532, R537) -/

/-- A record as eight words. -/
def faultWords (d : Device) (r : FaultRec) : List Word :=
  [w32 (r.unit + 2 ^ 16 * r.cls + 2 ^ 19 * r.level + 2 ^ 21 * b2n (recActive d r) + 2 ^ 22 * b2n r.acked
      + 2 ^ 23 * b2n (recPresent d r) + 2 ^ 24 * r.cause),
   w32 r.seq, w32 (r.time % 1000000000), w32 (r.time / 1000000000),
   w32 (r.time / 1000000000 / 2 ^ 32 % 2 ^ 16 + 2 ^ 16 * r.count), w32 r.addr,
   w32 (r.master + 2 ^ 8 * r.access + 2 ^ 11 * b2n r.timeValid + 2 ^ 12 * b2n r.injected + 2 ^ 13 * b2n r.escalated
      + 2 ^ 16 * r.react),
   w32 r.lastTick]

/-- TB0 of the active side stands for a record: not UNCERTAIN, and that side's health is above 0. -/
def timeStands (d : Device) : Bool := !uncertain d 0 && fld d (Reg.RED_SIDE_HEALTH (activeSide d)) 1 0 != 0

/-- The unacknowledged record that an occurrence repeats: of its unit and cause at unit level, for CFG_PARITY also of its class;
of its class and bed, or of its class for the device, above (R532). -/
def repeats (o : Occ) (c l unit : Nat) (r : FaultRec) : Bool :=
  !r.acked && r.level == l && r.unit == unit
    && (if l = 0 then r.cause == o.cause && (o.cause != 0x08 || r.cls == c) else r.cls == c)

/-- Reactions of a class at a level, with bit 7 for a unit whose audit entry the Cold Frame writes itself (R537, R539). -/
def reactOf (d : Device) (c l unit : Nat) : Nat := fld d (Reg.FLT_REACT c l) 6 0 + (if unitInCf unit then 128 else 0)

/-- The record an occurrence makes. -/
def newRec (d : Device) (o : Occ) (c l unit : Nat) (esc : Bool) : FaultRec :=
  { unit := unit, cls := c, level := l, cause := o.cause, seq := d.flt.nextSeq % 2 ^ 32, time := tbVal d 0 / nsUnit,
    timeValid := timeStands d, addr := o.addr, master := o.master, access := o.access, injected := o.injected, escalated := esc,
    react := reactOf d c l unit, lastTick := tickcnt d % 2 ^ 32 }

/-- The first-error capture takes a record while it is armed (R538). -/
def capturesFirst (d : Device) (r : FaultRec) : Device :=
  if d.flt.fecArmed && flag d Reg.FLT_FEC_CTL r.cls then
    let ws := faultWords d r
    let d := each (upTo 8) d (fun d k => wr d (Reg.FLT_FEC_W k) (ws.getD k 0).toNat)
    modFlt (setFlag d Reg.FLT_FEC_CTL 8 true) (fun s => { s with fecArmed := false })
  else d

/-! ### Reactions (R539, R543) -/

/-- FAULT_N is pulsed for WIDTH × 0.1 µs, rounded up to whole LOCAL_OSC periods; a later pulse starts the width again. -/
def pulseStart (d : Device) : Device :=
  let q := keeperQuarters d
  let n := (fld d Reg.FLT_PULSE 13 0 * 500 + q - 1) / q
  setFlag (modFlt d (fun s => { s with pulseEnd := some (d.now + (n * q + 3) / 4) })) Reg.FLT_STATUS 2 true

/-- PORT_DOWN of a port at once: UP and HOLD go to DOWN with the flush, whatever DOWN_HOLD. -/
def portDownNow (d : Device) (p : Nat) : Device :=
  if portSt d p = 2 || portSt d p = 3 then linkOkUpdate (setLinkState (flushPort (attemptBegin d p) p) p 4) p
  else linkEval d p

/-- PORT_DOWN of a record. -/
def portsDown (d : Device) (r : FaultRec) : Device :=
  each (upTo 40) d (fun d p =>
    if !absorbed d p && concernsPort r p (fld d (Reg.PORT_STATUS p) 10 8) then portDownNow d p else d)

/-- BANK_RETIRE of a record; a refusal keeps the cause present (R156, R539). -/
def bankReact (d : Device) (r : FaultRec) : Device :=
  if (r.cause = 0x02 || r.cause = 0x03 || r.cause = 0x04) && unitType r.unit = 9 && unitBed r.unit = 4 then
    match bankRetire d (unitIdx r.unit) with
    | some d => d
    | none =>
      let p := (r.unit, r.cause, 0)
      event (modFlt d (fun s => if s.present.contains p then s else { s with present := p :: s.present })) Reg.CORE_EVENT 8
  else d

/-- Shears is due, while it is not in force (R544). -/
def shearsDue (d : Device) : Device :=
  if shears d then d else modFlt d (fun s => { s with shearsDue := some (s.shearsDue.getD d.dev) })

/-- The reactions a new record takes. CLAIM_DROP acts through the claims (R558, R567). -/
def takeReactions (d : Device) (r : FaultRec) : Device :=
  let d := if bit r.react 5 then shearsDue d else d
  let d := eventIf (bit r.react 1) d Reg.FLT_EVENT 0
  let d := if bit r.react 2 then pulseStart d else d
  let d := if bit r.react 3 then portsDown d r else d
  if bit r.react 6 then bankReact d r else d

/-- An occurrence at a level: a repeat, a new record, or, where 256 are held, an unstored one (R532, R534, R536). -/
def recordAt (d : Device) (o : Occ) (c l unit : Nat) (esc : Bool) : Device :=
  if d.flt.records.any (repeats o c l unit) then
    let d := modFlt d (fun s =>
      { s with records := s.records.map (fun r =>
          if repeats o c l unit r then { r with count := min (r.count + 1) 0xFFFF, lastTick := tickcnt d % 2 ^ 32 } else r) })
    if c = 3 then shearsDue d else d
  else
    let r := newRec d o c l unit esc
    if d.flt.records.length < 256 then
      let d := modFlt d (fun s => { s with records := s.records ++ [r], nextSeq := s.nextSeq + 1 })
      takeReactions (capturesFirst d r) r
    else
      let d := event (bump d (Reg.FLT_CNT 7)) Reg.FLT_EVENT 5
      let d := if 0 < c then setFlag d Reg.FLT_STATUS 4 true else d
      let d := modFlt d (fun s =>
        if s.unstored.any (fun x => x.unit == r.unit && x.cause == r.cause && x.cls == r.cls && x.level == r.level) then s
        else { s with unstored := s.unstored ++ [r] })
      takeReactions d r

/-- An occurrence at unit level escalates (R533). -/
def escalates (d : Device) (o : Occ) (c : Nat) : Bool :=
  d.flt.records.any (fun r =>
    !r.acked && r.level == 0 && r.cls == c && unitBed r.unit == unitBed o.unit && (r.unit != o.unit || r.cause != o.cause))

/-- One occurrence of a cause (R532 to R536). -/
def handleOcc (d : Device) (o : Occ) : Device :=
  let c := causeClass o
  let l := unitLevel o.unit
  let d := recordAt (bump d (Reg.FLT_CNT c)) o c l o.unit false
  if l = 0 && escalates d o c then
    recordAt (event (bump d (Reg.FLT_CNT 5)) Reg.FLT_EVENT 1) o c 1 (bedOf o.unit) true
  else d

/-- Occurrences of one cycle in ascending unit reference, those of one unit in their order (R552). -/
def occInsert (o : Occ) : List Occ → List Occ
  | [] => [o]
  | x :: t => if o.unit < x.unit then o :: x :: t else x :: occInsert o t

/-- The noted occurrences are handled. -/
def handleOccs (d : Device) : Device :=
  let l := d.occs.foldl (fun l o => occInsert o l) []
  each l { d with occs := [] } handleOcc

/-- Records that are acknowledged and not active leave the store, and ports that they held down are looked at again (R535,
R539). -/
def fltSettle (d : Device) : Device :=
  let gone := (d.flt.records ++ d.flt.unstored).filter (fun r => !recActive d r)
  let d := fltPrune d
  if gone.any (fun r => bit r.react 3) then each (upTo 40) d (fun d p => if absorbed d p then d else linkEval d p) else d

/-! ### FAULT_N (R541 to R543) -/

/-- FAULT_N is driven low (R541, R607). -/
def faultNLow (d : Device) : Bool :=
  d.pwr.resetHeld || !d.flt.checkPassed || d.clk.gated || shears d || d.flt.pulseEnd.isSome || flag d Reg.FLT_PIN 0
    || flag d Reg.GLB_BOOT_STATUS 3

/-- FLT_STATUS as read. -/
def fltStatus (d : Device) : Nat :=
  let v := withBits (rd d Reg.FLT_STATUS) 1 1 (b2n (faultNLow d))
  let v := withBits v 3 3 (b2n (decide (256 ≤ d.flt.records.length)))
  let v := (upTo 5).foldl (fun v c => withBits v (8 + c) (8 + c) (b2n (classActive d c))) v
  withBits v 24 16 d.flt.records.length

/-- A pulse has run its width; a write of FLT_PIN that waited takes effect (R542, R543). -/
def pulseDone (d : Device) : Device :=
  match d.flt.pulseEnd with
  | some t =>
    if t ≤ d.now then
      let d := setFlag (modFlt d (fun s => { s with pulseEnd := none })) Reg.FLT_STATUS 2 false
      match d.flt.pinWait with
      | some v => modFlt (setFld d Reg.FLT_PIN 0 0 v) (fun s => { s with pinWait := none })
      | none => d
    else d
  | none => d

/-- A write of FLT_PIN by ME1; during a pulse it waits for the end of the pulse (R542). -/
def pinWrite (d : Device) (v : Nat) : Device :=
  if d.flt.pulseEnd.isSome then modFlt d (fun s => { s with pinWait := some (v % 2) }) else setFld d Reg.FLT_PIN 0 0 v

/-! ### Shears (R544, R546) -/

/-- Shears comes into force, where it is due. -/
def shearsEnter (d : Device) : Device :=
  if d.flt.shearsDue.isSome && !shears d then
    let d := modFlt d (fun s => { s with shearsDue := none })
    let d := event (setFlag d Reg.FLT_STATUS 0 true) Reg.FLT_EVENT 2
    shearsAct (bump (setFlag d Reg.SYN_STATUS 0 true) (Reg.FLT_CNT 6))
  else d

/-- Shears that has been due for 100 ns is in force (R540, R545). -/
def shearsBound (d : Device) : Device :=
  match d.flt.shearsDue with
  | some t => if t + 125 ≤ d.dev then shearsEnter d else d
  | none => d

/-- A write of FLT_SHEARS_REQ with its key. -/
def shearsRequest (d : Device) (master : Nat) : Device :=
  occur d { cause := 0x20, unit := uService 6, addr := 0x28, master := master, access := 2 }

/-- A write of FLT_SHEARS_REL with its key: refused while a class-S record is active, or an occurrence of the class waits. -/
def shearsRelease (d : Device) : Device :=
  if classActive d 3 || d.flt.shearsDue.isSome || d.occs.any (fun o => causeClass o == 3) then event d Reg.FLT_EVENT 4
  else if !shears d then d
  else
    let d := event (setFlag (setFlag d Reg.FLT_STATUS 0 false) Reg.SYN_STATUS 0 false) Reg.FLT_EVENT 3
    each (upTo 16) d pinSuspend

/-! ### First-error capture and injection (R538, R547 to R550) -/

/-- REARM. -/
def fecRearm (d : Device) : Device := modFlt (setFlag d Reg.FLT_FEC_CTL 8 false) (fun s => { s with fecArmed := true })

/-- A unit of the table of R516. -/
def parityCharged (u : Nat) : Bool :=
  unitValid u && !unitInCf u &&
    (u == uService 0 || u == uService 6 || u == uService 7 || u == uRoot || unitType u == 0xC || unitType u == 0x7
      || unitType u == 0x8 || unitType u == 0x4 || unitType u == 0x5 || (unitType u == 0x1 && unitBed u != 4)
      || (unitType u == 0x2 && unitBed u != 4) || unitType u == 0x9 || unitType u == 0x3 || unitType u == 0xE)

/-- Largest MODE of a checker; none where R547 has no such checker. -/
def largestMode (u k : Nat) : Option Nat :=
  if k = 0 then (if parityCharged u then some 1 else none)
  else if !unitValid u then none
  else if unitBed u = 4 && unitType u = 9 then (if k = 1 then some 5 else if k = 2 then some 2 else none)
  else if unitBed u = 4 && unitType u = 0xA then (if k ≤ 2 then some 2 else none)
  else if u = uService 6 && k = 1 then some 1
  else none

/-- The comparison of the two copies of the reaction logic, made in every cycle, meets an armed injection (R525, R547). -/
def selfcheckInjected (d : Device) : Device :=
  if injMode d (uService 6) 1 1 = 0 then d
  else occur (injFire d) { cause := 0x21, unit := uService 6, injected := true }

/-- The view that GLB_PAR_ADDR shows for the MASTER of a check: a reading view, or 3 for a use or the scan (R524). -/
def parityView (master : Nat) : Nat := if 0x70 ≤ master ∧ master ≤ 0x72 then master - 0x70 else 3

/-- The configuration parity of a register is checked; a mismatch is noted and raised once while it lasts (R516, R547). -/
def parityCheck (d : Device) (a master access : Nat) : Device :=
  let inj := match regInfo a with
    | some i => i.par && injMode d (parityUnit a).1 0 1 != 0
    | none => false
  let new := inj && !d.parityBad.contains a
  let d := if inj then injFire d else d
  let d := if new then { d with parityBad := a :: d.parityBad } else d
  if d.parityBad.contains a then
    let d := event (setFlag (wr d Reg.GLB_PAR_ADDR (a + 2 ^ 24 * parityView master + 2 ^ 31)) Reg.GLB_STATUS 1 true) Reg.GLB_EVENT 3
    if d.flt.present.contains ((parityUnit a).1, 0x08, a) then d
    else condBegins d { cause := 0x08, unit := (parityUnit a).1, addr := a, master := master, access := access, injected := inj }
  else d

/-- Writes have restored parity: the causes end, and PARITY_BAD clears when no register mismatches (R516). -/
def parityEval (d : Device) : Device :=
  let gone := d.flt.present.filter (fun p => p.2.1 == 0x08 && !d.parityBad.contains p.2.2)
  let d := each gone d (fun d p => condEnds d 0x08 p.1 p.2.2)
  if d.parityBad.isEmpty && flag d Reg.GLB_STATUS 1 then setFlag d Reg.GLB_STATUS 1 false else d

/-- Factory mode ends after 1,000 ms, or by MODE 0 (R549). -/
def factoryStop (d : Device) : Device :=
  modFlt (setFld (setFlag d Reg.FLT_STATUS 6 false) Reg.FLT_INJ_STATUS 27 24 0) (fun s => { s with factoryEnd := none })

/-! ### Commands (R551) -/

/-- FAULT_READ. -/
def opFaultRead (d : Device) (c : InFlight) : Device :=
  let u := pf c 0 15 0
  let n := pf c 0 29 24
  if n = 0 || 32 < n || pf c 0 20 16 = 0 || !(u == 0xFFFF || unitValid u) then bad d c 0
  else
    let l := (d.flt.records.filter (fun r => (u == 0xFFFF || r.unit == u) && pb c 0 (16 + r.cls) && decide (pw c 1 ≤ r.seq))).take n
    okWith d c (w32 l.length :: (l.map (faultWords d)).flatten)

/-- FAULT_ACK. -/
def opFaultAck (d : Device) (c : InFlight) : Device :=
  if pb c 0 24 then
    let ackAll (r : FaultRec) : FaultRec := { r with acked := true }
    let d := setFlag (modFlt d (fun s =>
      { s with records := s.records.map ackAll, unstored := s.unstored.map ackAll })) Reg.FLT_STATUS 4 false
    ok (fltSettle d) c
  else if !unitValid (pf c 0 15 0) || 4 < pf c 0 18 16 then bad d c 0
  else
    let d := modFlt d (fun s =>
      { s with records := s.records.map (fun r =>
          if r.unit = pf c 0 15 0 ∧ r.cls = pf c 0 18 16 then { r with acked := true } else r) })
    ok (fltSettle d) c

/-- The pair of keys that MODE 15 needs (R549). -/
def factoryKey (c : InFlight) : Bool := pw c 1 == 0x52080F1E && pw c 2 == 0xADF7F0E1

/-- FAULT_INJECT_ARM. -/
def opFaultInjectArm (d : Device) (c : InFlight) : Device :=
  let u := pf c 0 15 0
  let k := pf c 0 23 16
  let m := pf c 0 27 24
  if unitInCf u || (m == 15 && !(flag d Reg.GLB_STRAPS 2 && factoryKey c)) then fail d c stDenied
  else
    match largestMode u k with
    | none => bad d c 0
    | some most =>
      if m ≠ 15 && decide (most < m) then bad d c 0
      else if m = 0 then
        let d := setFlag (setFlag d Reg.FLT_INJ_STATUS 28 false) Reg.FLT_STATUS 5 false
        ok (factoryStop d) c
      else if flag d Reg.FLT_STATUS 5 || flag d Reg.FLT_STATUS 6 then fail d c stBusy
      else
        let image := u + 2 ^ 16 * k + 2 ^ 24 * m
        let d := if m = 15 then
            modFlt (setFlag (wr d Reg.FLT_INJ_STATUS image) Reg.FLT_STATUS 6 true)
              (fun s => { s with factoryEnd := some (d.now + 1000 * msTicks) })
          else setFlag (wr d Reg.FLT_INJ_STATUS (image + 2 ^ 28)) Reg.FLT_STATUS 5 true
        selfcheckInjected (ok d c)

end Sys2Proof.Machine
end

