-- ==== Sys2Proof/Machine/OpsTime.lean ====
section
/-! DEFINITION. Changes of time bases and the time commands (R207, R210 to R218, R242, R272, R495). -/

namespace Sys2Proof.Machine

/-! ### Changes within the present tick -/

/-- Apply an update to both sides' copies of a time base (R204). -/
def modTb2 (d : Device) (n : Nat) (f : TimeBase → TimeBase) : Device := modTb (modTb d 0 n f) 1 n f

/-- The launch ticks of copies on TBn after the base has moved within the tick (R179, R182). -/
def launchMoved (d : Device) (n v : Nat) : Device :=
  let mark (c : Copy) : Copy :=
    if v < c.launch * nsUnit then { c with ltick := none } else { c with ltick := some (c.ltick.getD d.tick) }
  { d with outs := d.outs.map (fun e =>
      if fld d (Reg.QUE_TLCFG e.1) 2 0 = n ∧ e.1 < 40 then (e.1, { e.2 with launch := e.2.launch.map mark }) else e) }

/-- TBn reads v from the present tick on (R217); its consumers hear of it as a step. -/
def tbPlace (d : Device) (n : Nat) (v : Nat) : Device :=
  let t := tbOf d (activeSide d) n
  let incr := if tbEn d n then tbIncr d n else 0
  let h := (d.tick, v) :: (d.tick - 1, t.val - incr)
    :: t.hist.filter (fun p => decide (d.tick < p.1 + 2 ^ 17) && decide (p.1 + 1 < d.tick))
  let d := launchMoved d n v
  let d := modTb2 d n (fun t => { t with val := v, hist := h })
  { d with moves := d.moves ++ [⟨n, true, (v : Int) - t.val, v⟩] }

/-- A change that counts in TBn_CHG (R218). -/
def tbChanged (d : Device) (n : Nat) : Device := wr d (Reg.TB_CHG n) (rd d (Reg.TB_CHG n) + 1)

/-- A scheduled step is taken in the present tick (R214). -/
def takeSched (d : Device) (n : Nat) : Device :=
  let t := tbOf d (activeSide d) n
  match t.sched with
  | none => d
  | some (_, off) =>
    let d := tbPlace (modTb2 d n (fun t => { t with sched := none })) n (tbWrap (t.val + off * (2 ^ 32 : Nat)))
    setFlag (event (tbChanged d n) Reg.TB_EVENT 0) Reg.TB_STATUS (8 + n) false

/-- Commands of TB_STEP in a mode whose work rests on a base: those of its mask that still wait are in aux. -/
def stepWork (d : Device) (mode n : Nat) : List InFlight :=
  (working d 0x0502).filter (fun c => pf c 0 9 8 == mode && c.aux.contains (n : Int))

/-- A base of a TB_STEP in work is done with; the command completes with the last (R242). -/
def stepDone (d : Device) (c : InFlight) (n : Nat) : Device :=
  let left := c.aux.filter (fun x => x != (n : Int))
  if left.isEmpty then okWith d c (words2 (tickcnt d)) else modInflight d c.seq (fun c => { c with aux := left })

/-- The scheduled step of a base is due: taken, and its commands go on (R214, R242). -/
def schedDue (d : Device) (n : Nat) : Device :=
  let t := tbOf d (activeSide d) n
  match t.sched with
  | some (at_, _) =>
    if tbEn d n && decide (at_ * 2 ^ 32 ≤ t.val) then
      let cs := stepWork d 1 n
      each cs (takeSched d n) (fun d c => match inflightOf d c.seq with | some c => stepDone d c n | none => d)
    else d
  | none => d

/-- A slew has added all of its offset (R215). -/
def slewEnd (d : Device) (n : Nat) : Device :=
  match (tbOf d (activeSide d) n).slew with
  | some (0, _) =>
    let cs := stepWork d 2 n
    let d := event (tbChanged (modTb2 d n (fun t => { t with slew := none })) n) Reg.TB_EVENT 1
    let d := if n = 0 then setFlag (setFlag d (Reg.TRL_STATUS 0) 14 false) (Reg.TRL_STATUS 1) 14 false else d
    each cs d (fun d c => match inflightOf d c.seq with | some c => stepDone d c n | none => d)
  | _ => d

/-- A running slew is cancelled: commands still in work on it complete with ABORTED (R207, R213, R242). -/
def slewCancel (d : Device) (n : Nat) : Device :=
  let t := tbOf d (activeSide d) n
  if t.slew.isNone && t.slewPend.isNone then d
  else
    let cs := stepWork d 2 n
    let d := event (modTb2 d n (fun t => { t with slew := none, slewPend := none })) Reg.TB_EVENT 2
    let d := if n = 0 then setFlag (setFlag d (Reg.TRL_STATUS 0) 14 false) (Reg.TRL_STATUS 1) 14 false else d
    each cs d (fun d c => complete d c.seq stAborted [0])

/-- TBn_INCR takes a new value from the next tick (R211); its consumers hear of it as a change by 0. -/
def setIncr (d : Device) (n v : Nat) : Device :=
  let t := tbOf d (activeSide d) n
  let d := modTb2 d n (fun t => { t with hist := (d.tick, t.val) :: t.hist.filter (fun p => decide (d.tick < p.1 + 2 ^ 17) && p.1 != d.tick) })
  let incr := if tbEn d n then tbIncr d n else 0
  -- the course before the write is kept by a point one tick back
  let d := modTb2 d n (fun u => { u with hist := match u.hist with | p :: l => p :: (d.tick - 1, t.val - incr) :: l.filter (fun q => q.1 + 1 != d.tick) | [] => [] })
  let d := { d with moves := d.moves ++ [⟨n, false, 0, t.val⟩] }
  tbChanged (wr (wr d (Reg.TB_INCR_LO n) v) (Reg.TB_INCR_HI n) (v / 2 ^ 32)) n

/-- INCR of TB1 to TB7 (R210). -/
def incrOk (n v : Nat) : Bool := n != 0 && inRange v 0xC000_0000_0000 0xD999_9999_999A

/-- TBn is enabled or disabled (R207). -/
def setTbEn (d : Device) (n : Nat) (b : Bool) : Device :=
  if n = 0 || tbEn d n == b then d
  else
    let t := tbOf d (activeSide d) n
    let incr := if tbEn d n then tbIncr d n else 0
    let d := if b then d else slewCancel d n
    let d := modTb2 d n (fun u =>
      { u with hist := (d.tick, t.val) :: (d.tick - 1, t.val - incr) :: u.hist.filter (fun p => decide (d.tick < p.1 + 2 ^ 17) && decide (p.1 + 1 < d.tick)) })
    setFlag d Reg.TB_CTL (8 + n) b

/-! ### Commands (R242) -/

/-- The tick in which a command that takes effect in the first tick after it does so, as the reply's two words (R242). -/
def nextTick (d : Device) : List Word := words2 ((d.tick + 1) % 2 ^ 40)

/-- Bases of a mask, ascending. -/
def maskOf (m : Nat) : List Nat := (upTo 8).filter (fun n => bit m n)

/-- TB_READ (R242, R495). -/
def opTbRead (d : Device) (c : InFlight) : Device :=
  let m := pf c 0 7 0
  let sides : List Nat :=
    match pf c 0 9 8 with
    | 0 => [activeSide d]
    | 1 => [0]
    | 2 => [1]
    | _ => [0, 1]
  if m = 0 then bad d c 0
  else
    let un := fld d Reg.TB_STATUS 15 8
    let dis := (upTo 8).foldl (fun (v : Nat) n => if tbEn d n then v else v + 2 ^ n) 0
    let vals := ((maskOf m).map (fun n => (sides.map (fun x => timeWords (tbOf d x n).val)).flatten)).flatten
    okWith d c
      ([w32 (un + 2 ^ 8 * dis + 2 ^ 16 * activeSide d)] ++ words2 (tickcnt d) ++ words2 d.tb.keeper
        ++ [w32 (keeperPhase d)] ++ vals)

/-- TB_SET (R213). -/
def opTbSet (d : Device) (c : InFlight) : Device :=
  let n := pf c 0 2 0
  if 999999999 < pw c 1 then bad d c 1
  else
    let v := timeVal (pw64 c 2) (pw c 1) (pf c 4 15 0)
    okWith (modTb2 (slewCancel d n) n (fun t => { t with setPend := some v })) c (nextTick d)

/-- The offset of a TB_STEP in 2^-16 ns (R214). -/
def stepOff (c : InFlight) : Int :=
  (signed 64 (pw64 c 2) * 1000000000 + pw c 1) * 65536 + pf c 4 15 0

/-- Where TBn stands once what is already due in the next tick has been applied, in 2^-48 ns. -/
def tbDue (d : Device) (n : Nat) : Int :=
  let t := tbOf d (activeSide d) n
  (t.setPend.getD t.val : Nat) + t.stepPend

/-- The offset of a slew and of what runs or waits on the base lies beyond ±2 s (R215, R216). -/
def slewFar (d : Device) (n : Nat) (off : Int) : Bool :=
  let t := tbOf d (activeSide d) n
  let rm : Int := (match t.slew with | some (r, _) => r | none => 0) + (match t.slewPend with | some (o, _) => o | none => 0)
  decide ((rm + off * (2 ^ 32 : Nat)).natAbs > 2 * secUnit)

/-- TB_STEP (R214 to R216, R242). -/
def opTbStep (d : Device) (c : InFlight) : Device :=
  let ns := maskOf (pf c 0 7 0)
  let mode := pf c 0 9 8
  let off := stepOff c
  let by_ : Int := off * (2 ^ 32 : Nat)
  let atv := timeVal (pw64 c 6) (pw c 5) (pf c 8 15 0)
  if ns.isEmpty || mode = 3 then bad d c 0
  else if 999999999 < pw c 1 then bad d c 1
  else if mode = 1 && decide (999999999 < pw c 5) then bad d c 5
  else if mode = 2 && !inRange (pf c 9 18 0) 1 500000 then bad d c 9
  else if ns.any (fun n => decide ((if mode = 1 then max (tbDue d n) atv else tbDue d n) + by_ < 0)) then bad d c 2
  else if mode = 2 && ns.any (fun n => !tbEn d n) then bad d c 0
  else if mode = 2 && (decide (off.natAbs > 2 * 1000000000 * 65536) || ns.any (fun n => slewFar d n off)) then bad d c 2
  else if mode = 1 && ns.any (fun n => (tbOf d (activeSide d) n).sched.isSome) then fail d c stBusy
  else
    match mode with
    | 0 =>
      okWith (each ns d (fun d n =>
        modTb2 d n (fun t => { t with stepPend := t.stepPend + by_, stepDue := t.stepDue + 1 }))) c (nextTick d)
    | 1 =>
      let d := toWork d c (ns.map Int.ofNat)
      each ns d (fun d n => modTb2 d n (fun t => { t with sched := some (atv / 2 ^ 32, off) }))
    | _ =>
      let d := toWork d c (ns.map Int.ofNat)
      each ns d (fun d n =>
        modTb2 d n (fun t =>
          { t with slewPend := some ((match t.slewPend with | some (o, _) => o | none => 0) + by_, pf c 9 18 0) }))

/-- ABORT of a TB_STEP in work (R242). -/
def abortTbStep (d : Device) (c : InFlight) : Device :=
  let d := complete d c.seq stAborted [0]
  each c.aux d (fun d n =>
    if pf c 0 9 8 = 1 then modTb2 d n.toNat (fun t => { t with sched := none }) else slewCancel d n.toNat)

/-- TB_SET_INCR (R210, R211). -/
def opTbSetIncr (d : Device) (c : InFlight) : Device :=
  let n := pf c 0 2 0
  let v := pw c 1 + 2 ^ 32 * pf c 2 23 0
  if n = 0 then bad d c 0
  else if !incrOk n v then bad d c 1
  else okWith (setIncr d n v) c (nextTick d)

/-- PTP_PORT_CONFIG (R231, R242, R273). -/
def opPtpPortConfig (d : Device) (c : InFlight) : Device :=
  let p := portOfUnit (tgt c)
  if absorbed d p then badHeader d c
  else if 5 ≤ pf c 0 2 0 then bad d c 0
  else if pb c 1 1 && !portValueOk 0x220 (pw c 4) then bad d c 4
  else
    let d := wrImage d (Reg.TB_PTP p) (pw c 0)
    let d := if pb c 1 0 then wrImage (wrImage d (Reg.TB_LINKDLY_LO p) (pw c 2)) (Reg.TB_LINKDLY_HI p) (pw c 3) else d
    let d := if pb c 1 1 then l1Eval (wrImage d (Reg.PORT_L1_CFG p) (pw c 4)) p else d
    okWith d c (words2 (tickcnt d))

/-- ASYM_SET (R265 to R268, R272). -/
def opAsymSet (d : Device) (c : InFlight) : Device :=
  let p := portOfUnit (tgt c)
  let m := pf c 0 3 0
  if absorbed d p then badHeader d c
  else if m = 0 then bad d c 0
  else if bit m 0 && !portValueOk 0x200 (pw c 1) then bad d c 1
  else if bit m 1 && !portValueOk 0x204 (pw c 2) then bad d c 2
  else if bit m 2 && !alphaOk (pw64 c 3) then bad d c 3
  else if bit m 3 && !portValueOk 0x210 (pw c 5) then bad d c 5
  else
    let d := if bit m 0 then wr d (Reg.PORT_EXT_TX p) (pw c 1) else d
    let d := if bit m 1 then wr d (Reg.PORT_EXT_RX p) (pw c 2) else d
    let d := if bit m 2 then wr (wr d (Reg.PORT_ALPHA_LO p) (pw c 3)) (Reg.PORT_ALPHA_HI p) (pw c 4) else d
    let d := if bit m 3 then wr d (Reg.PORT_ASYM_FIX p) (pw c 5) else d
    ok (wr d (Reg.PORT_DLY_CHG p) (rd d (Reg.PORT_DLY_CHG p) + 1)) c

end Sys2Proof.Machine
end

