-- ==== Sys2Proof/Machine/ClkOps.lean ====
section
/-! DEFINITION. The root PLL, the timing synthesizers, freezes and restarts, clock outputs, PPS_OUT and LOCKMON (R219 to R222,
R311 to R331). -/

namespace Sys2Proof.Machine

/-! ### Synthesizers (R315 to R317) -/

/-- A synthesizer is locked. -/
def synLocked (d : Device) (x : Nat) : Bool := flag d (Reg.CLK_SYN_STATUS x) 0

/-- HEALTH of a side, as in its register (R558). -/
def healthOf (d : Device) (x : Nat) : Nat := fld d (Reg.RED_SIDE_HEALTH x) 1 0

/-- No timing side holds a claim with health above 0 (R330). -/
def noHealth (d : Device) : Bool := healthOf d 0 == 0 && healthOf d 1 == 0

def setApplied (d : Device) (x : Nat) (v : Int) : Device :=
  modClk d (fun c => if x = 0 then { c with applA := v } else { c with applB := v })

def moveAt (d : Device) (x : Nat) : Option Nat := if x = 0 then d.clk.moveA else d.clk.moveB
def setMoveAt (d : Device) (x : Nat) (t : Option Nat) : Device :=
  modClk d (fun c => if x = 0 then { c with moveA := t } else { c with moveB := t })

/-- 0.5 ppm in 10^-15 (R316). -/
def halfPpm : Int := 500000000

/-- p of the alignment loop: a free value within ±0.2 ppm (R561). -/
def alignP (d : Device) : Int := (freeVal d % 400000001 : Nat) - 200000000

/-- The standby side's applied word is w_a + p (R561). -/
def standbyFollow (d : Device) : Device :=
  let x := activeSide d
  nextFree (setMoveAt (setApplied d (1 - x) (applied d x + alignP d)) (1 - x) none)

/-- One move of an applied word toward its target (R316). -/
def slewMove (d : Device) (x : Nat) : Device :=
  match moveAt d x with
  | some t =>
    if x = activeSide d && synLocked d x && decide (t ≤ d.dev) then
      let diff := dcoWord d x - applied d x
      let step := if diff < -halfPpm then -halfPpm else if diff > halfPpm then halfPpm else diff
      let d := setApplied d x (applied d x + step)
      standbyFollow (setMoveAt d x (if step = diff then none else some (t + 10 * usTicks)))
    else d
  | none => d

/-- SLEWING of both synthesizers (R316). -/
def slewStatus (d : Device) : Device :=
  each (upTo 2) d (fun d x =>
    setFlag d (Reg.CLK_SYN_STATUS x) 1 (x == activeSide d && applied d x != dcoWord d x))

/-! ### Clock outputs and PPS_OUT (R328 to R331) -/

/-- The second of PPS_OUT that TB0 less OFFSET stands in. -/
def ppsNow (d : Device) : Int :=
  let off := signed 24 (fld d Reg.CLK_PPS_OFFSET 23 0) * 512
  ((tbVal d 0 * 5 / 2 ^ 32 : Nat) - off) / (1000000000 * 65536 * 5 : Nat)

/-- Mute and unmute the clock outputs and PPS_OUT; realignments that are past are done (R329, R330). -/
def clkOuts (d : Device) : Device :=
  let off := d.clk.gated || noHealth d
  let d := each (upTo 4) d (fun d k =>
    let en := flag d (Reg.CLK_OUT_CTL k) 0
    let was := d.clk.muted.getD k true
    let m := !en || off
    if m = was then d
    else
      let d := modClk d (fun c => { c with muted := c.muted.set k m })
      if m then (if en then event (setFlag d (Reg.CLK_OUT_CTL k) 1 true) Reg.CLK_EVENT 7 else d)
      else setFlag d (Reg.CLK_OUT_CTL k) 1 false)
  let en := flag d Reg.CLK_PPS_CFG 20
  let m := !en || off
  let d := if m = d.clk.ppsMuted then d
    else
      let d := if d.clk.ppsHigh.isSome then emit d (.pps false) else d
      eventIf (m && en) (modClk d (fun c => { c with ppsMuted := m, ppsHigh := none, ppsSec := some (ppsNow d) })) Reg.CLK_EVENT 7
  if d.clk.realign.any (fun r => r.isSome) then
    let s := tvSec (tbVal d 0)
    modClk d (fun c => { c with realign := c.realign.map (fun r => match r with
      | some t => if t ≤ s then none else some t
      | none => none) })
  else d

/-! ### Stopping (R220, R321, R322) -/

/-- What the keeper domain records of the last tick; the tick recorded first stays the last tick. -/
def stopRecord (d : Device) : Device :=
  if d.tb.stop.isSome || d.clk.tickStop.isSome then d
  else
    let x := activeSide d
    let r : StopRec := ⟨d.tb.keeper, keeperPhase d, dcoWord d x, (upTo 8).map (fun n => (tbOf d x n).val), d.tick, d.now⟩
    { d with tb := { d.tb with stop := some r } }

/-- A frame in serialisation is cut, counted, and its copy ends (R322); a halt frame likewise, and those behind it go. -/
def cutPort (d : Device) (p : Nat) : Device :=
  let d := match (outOf d p).wire with
    | some x =>
      let d := capture (emit d (.frame p (cutBytes d p x) true)) p x.copy.tag x.depart x.departEn true
      endCopy (bump (modOut d p (fun y => { y with wire := none })) (Reg.PORT_CNT p 7)) x.copy
    | none => d
  match tget (fun _ => []) d.syn.haltDue p with
  | h :: _ =>
    let b := (haltOf d h).bytes
    let n := min ((d.tick * 80 + 8 * byteTime (modeCur d p) - (tget (fun _ => 0) d.syn.haltEnd p - (b.length + 4) * byteTime (modeCur d p)))
      / byteTime (modeCur d p)) b.length
    let d := modSyn d (fun y => { y with haltDue := tset (fun _ => []) y.haltDue p [] })
    bump (emit d (.frame p (b.take n ++ badFcs (b.take n)) true)) (Reg.PORT_CNT p 7)
  | [] => d

/-- Every frame in serialisation is cut. -/
def cutAll (d : Device) : Device := each (upTo 40) d cutPort

/-- The root and synthesizer outputs are gated: a freeze begins, or its table starts again at step 1 (R321, R323, R324). -/
def freeze (d : Device) (osc : Bool) : Device :=
  let d := if d.clk.gated then d
    else
      let d := each (jobKeys d) (cutAll (stopRecord d)) (fun d k => stopJobGates d k 5)
      clkOuts (modClk d (fun c =>
        { c with gated := true, freezeAt := some d.now, oscSeen := false, lossLen := 0, lossAt := none, lockLow := true }))
  let d := setFlag (setFlag (setFlag d (Reg.CLK_SYN_STATUS 0) 0 false) (Reg.CLK_SYN_STATUS 1) 0 false) Reg.CLK_ROOT_STATUS 0 false
  let d := modClk d (fun c => { c with rootLocked := false, tr := d.now })
  if osc then
    modClk (setFlag d Reg.CLK_ROOT_STATUS 1 false) (fun c =>
      { c with oscLost := true, oscSeen := true, lossAt := some (c.lossAt.getD d.now) })
  else d

/-- LOCAL_OSC is present again; its edges take up an arbitrary phase against the ticks to come (R219, R314). -/
def oscReturn (d : Device) : Device :=
  if !d.clk.oscLost || d.pwr.resetHeld then d
  else
    let len := d.now - (d.clk.lossAt.getD d.now)
    let d := modClk (setFlag d Reg.CLK_ROOT_STATUS 1 true) (fun c =>
      { c with oscLost := false, lossAt := none, lossLen := c.lossLen + len, tr := d.now })
    let d := modFlt d (fun s => { s with pulseEnd := s.pulseEnd.map (fun t => t + len) })
    nextFree { d with tb := { d.tb with keeperAcc := freeVal d % (keeperQuarters d * 1000000000000000) } }

/-! ### Starting again (R220 to R222, R320, R323, R324) -/

/-- A length in µs as the monitor oscillator measures it, within ±30 % and saturating; the value within is free. -/
def monitorUs (d : Device) (ticks most : Nat) : Nat :=
  let us := ticks / usTicks
  min most (us * 7 / 10 + freeVal d % (us * 13 / 10 - us * 7 / 10 + 1))

/-- One time base in the first tick after a stop: E ticks of its increment are added, E given over 4 × 10^15. -/
def restoreTb (e : Int) (f : Nat) (d : Device) (n : Nat) : Device :=
  if !tbEn d n then d
  else
    let t := tbOf d (activeSide d) n
    let incr := tbIncr d n
    let v := tbWrap ((t.val : Int) + rdiv d (e * incr) 4000000000000000)
    let t' := { t with val := v, hist := (f + 1, v) :: (f, t.val) :: t.hist.filter (fun p => decide (p.1 < f)) }
    let d := modTb (modTb d 0 n (fun _ => t')) 1 n (fun _ => t')
    let d := wr d (Reg.TB_CHG n) (rd d (Reg.TB_CHG n) + 1)
    nextFree { d with moves := d.moves ++ [⟨n, true, (v : Int) - (t.val + incr : Nat), v⟩] }

/-- The first tick: the time bases are restored from the record, which is spent (R220 to R222); without a record there was no
tick before, and none is restored. Steps whose AT passed apply (R220). -/
def firstTick (d : Device) (osc : Bool) : Device :=
  let f := d.tick
  let d := modClk { d with tick := d.tick + 1 } (fun c => { c with tickStop := none })
  match d.tb.stop with
  | none => d
  | some r =>
    let den : Nat := 4000000000000000
    let p := keeperPhase d
    let e : Int := ((d.tb.keeper : Int) - r.kStop) * keeperQuarters d * (1000000000000000 + r.dco) + ((p : Int) - r.pStop) * den
    let d := each (upTo 8) d (restoreTb e f)
    let gap := if osc then monitorUs d d.clk.lossLen 32767 else 0
    let info := (if osc then 2 else 1) + 4 * b2n (!osc) + 8 * (r.pStop % 128) + 1024 * (p % 128) + 131072 * gap
    let d := wr (wr64 (wr64 d Reg.TB_RST_KSTOP_LO Reg.TB_RST_KSTOP_HI r.kStop) Reg.TB_RST_KSTART_LO Reg.TB_RST_KSTART_HI d.tb.keeper)
      Reg.TB_RST_INFO info
    let d := wr (wr d Reg.TB_RST_TICK_LO (f % 2 ^ 40)) Reg.TB_RST_TICK_HI (f % 2 ^ 40 / 2 ^ 32)
    let d := if osc then setFld d Reg.TB_STATUS 15 8 0xFF else d
    let d := event d Reg.TB_EVENT 3
    let d := nextFree { d with tb := {
        d.tb with
        stop := none, prevF := d.tb.lastF, lastF := some (f % 2 ^ 40), lastE := (e * 65536 / (den : Int) - 65536).toNat } }
    each (upTo 8) (occur d { cause := 0x10, unit := uDevice }) schedDue

/-- CLK_FREEZE_INFO of a stop that began at a tick of the wall clock. -/
def freezeInfo (d : Device) (cause from_ : Nat) : Device :=
  nextFree (wr d Reg.CLK_FREEZE_INFO (cause + 256 * monitorUs d (d.now - from_) 0xFFFFFF))

/-- A side's Trellis after a stop of the clocks (R302): back to BRIDGE towards its last selected or target candidate. -/
def trlRestart (d : Device) (x : Nat) : Device :=
  match sideSt d x with
  | 1 => toBridge d x (selOf d x) 4
  | 2 => toBridge d x (selOf d x) 4
  | 3 => toBridge d x (targetOf d x) 4
  | 4 => toBridge d x (targetOf d x) 4
  | _ => d

/-- A port takes a link fault (R323 step 8). -/
def portFault (d : Device) (p : Nat) : Device :=
  if absorbed d p then d else linkEval (setFlag d (Reg.PORT_STATUS p) 14 false) p

/-- A side whose synthesizer is not locked when the clocks run: muted, at fault, to be made good under R565 (R317, R319, R324). -/
def synLost (d : Device) (x : Nat) : Device :=
  let d := setFlag (setFlag d (Reg.CLK_SYN_STATUS x) 0 false) (Reg.CLK_SYN_STATUS x) 3 true
  let d := modRed d (fun r =>
    if x = 0 then { r with sideA := { r.sideA with resync := true, aligned := false } }
    else { r with sideB := { r.sideB with resync := true, aligned := false } })
  condBegins d { cause := 0x0E, unit := uSide x }

/-- Step 7 of R323 may be taken: the root PLL is locked, and both synthesizers are, or 100 µs have passed since t_r. -/
def restartReady (d : Device) : Bool :=
  d.clk.freezeAt.isSome && !d.clk.oscLost && d.clk.rootLocked
    && ((synLocked d 0 && synLocked d 1) || decide (d.clk.tr + 100 * usTicks ≤ d.now))

/-- Steps 7 and 8 of R323. -/
def restart (d : Device) : Device :=
  if d.pwr.resetHeld || !restartReady d then d
  else
    let osc := d.clk.oscSeen
    let some_ := synLocked d 0 || synLocked d 1
    let from_ := d.clk.freezeAt.getD d.now
    let d := freezeInfo (modClk d (fun c => { c with gated := false, freezeAt := none })) (if osc then 2 else 1) from_
    let d := event (event d Reg.CLK_EVENT (b2n osc)) Reg.CLK_EVENT 2
    let d := bump d (Reg.CLK_CNT (b2n osc))
    let d := each (upTo 2) d (fun d x => if synLocked d x then d else synLost d x)
    let d := if some_ then firstTick d osc
      else occur (modClk d (fun c => { c with tickStop := some (c.tickStop.getD d.dev) })) { cause := 0x0F, unit := uDevice }
    let d := each (jobKeys d) d (fun d k => match (meterOf d k).job with
      | some j => if tbEn d j.domain then goJobGates d k else d
      | none => d)
    let d := each (upTo 40) d portFault
    let d := each (upTo 2) d trlRestart
    if d.pwr.pcieUp then event (modPwr d (fun p => { p with pcieUp := false })) Reg.CMD_EVENT 5 else d

/-- The root PLL declares lock: at start-up the outputs are released, and no tick is delivered until a synthesizer locks; in a
freeze they stay gated until the restart (R312, R323). -/
def rootLock (d : Device) : Device :=
  if d.pwr.resetHeld || d.clk.rootLocked || d.clk.oscLost then d
  else
    let d := setFlag (setFlag d Reg.CLK_ROOT_STATUS 0 true) Reg.CLK_ROOT_STATUS 1 true
    let d := setFld d Reg.CLK_ROOT_STATUS 5 4 (fld d Reg.GLB_STRAPS 1 0)
    let d := modClk d (fun c => { c with rootLocked := true, bandChosen := true })
    if d.clk.freezeAt.isSome then d
    else
      let d := setFlag (setFlag d (Reg.CLK_SYN_STATUS 0) 3 true) (Reg.CLK_SYN_STATUS 1) 3 true
      modClk d (fun c => { c with gated := false, tickStop := some d.dev })

/-- A synthesizer declares lock (R317, R319, R320). -/
def synLock (d : Device) (x : Nat) : Device :=
  if d.pwr.resetHeld || !d.clk.rootLocked || synLocked d x then d
  else
    let d := setFlag (setFlag d (Reg.CLK_SYN_STATUS x) 0 true) (Reg.CLK_SYN_STATUS x) 3 false
    let d := condEnds (event d Reg.CLK_EVENT (4 + 2 * x)) 0x0E (uSide x) 0
    if d.clk.gated then d
    else
      match d.clk.tickStop with
      | some _ =>
        match d.tb.stop with
        | some r =>
          let d := freezeInfo d 3 r.at_
          firstTick d false
        | none => firstTick d false
      | none => d

/-- A synthesizer loses lock while the root PLL is locked; with the other unlocked too the tick stops (R319, R320). -/
def synUnlock (d : Device) (x : Nat) : Device :=
  if !running d || !synLocked d x then d
  else
    let was := if x = 0 then d.red.sideA.aligned else d.red.sideB.aligned
    let d := bump (event (synLost d x) Reg.CLK_EVENT (3 + 2 * x)) (Reg.CLK_CNT (2 + x))
    let d := if was && x != activeSide d then condBegins d { cause := 0x41, unit := uSide x } else d
    if synLocked d (1 - x) then d
    else
      let d := cutAll (stopRecord d)
      occur (modClk d (fun c => { c with tickStop := some (c.tickStop.getD d.dev) })) { cause := 0x0F, unit := uDevice }

/-- TB0 was set, stepped or restored: seconds passed over get no pulse, aligned outputs realign at the next second (R329, R331). -/
def clkMoved (d : Device) : Device :=
  modClk d (fun c =>
    { c with
      ppsSec := if c.ppsSec.isSome then some (ppsNow d) else none,
      realign := (upTo 4).map (fun k =>
        if flag d (Reg.CLK_OUT_CFG k) 4 && flag d (Reg.CLK_OUT_CTL k) 0 then some (tvSec (tbVal d 0) + 1) else c.realign.getD k none) })

/-- A whole second of TB0 plus OFFSET is reached: PPS_OUT rises, or the pulse is withheld or skipped (R331). -/
def ppsPulse (d : Device) : Device :=
  let s := ppsNow d
  if !ticking d || d.clk.ppsMuted || d.clk.ppsSec = some s then d
  else
    let d := modClk d (fun c => { c with ppsSec := some s })
    let w := fld d Reg.CLK_PPS_CFG 18 0 * usTicks
    let close := match d.clk.ppsFall with | some t => decide (d.tick < t + w) | none => false
    if flag d Reg.CLK_PPS_CFG 21 && (uncertain d 0 || sideSt d (activeSide d) == 0) then d
    else if d.clk.ppsHigh.isSome || close then event d Reg.CLK_EVENT 9
    else if pairedOff d 1 then d
    else emit (modClk d (fun c => { c with ppsHigh := some d.tick })) (.pps true)

/-- WIDTH after its rise PPS_OUT falls. -/
def ppsEnd (d : Device) : Device :=
  match d.clk.ppsHigh with
  | some t =>
    if t + fld d Reg.CLK_PPS_CFG 18 0 * usTicks ≤ d.tick then
      emit (modClk d (fun c => { c with ppsHigh := none, ppsFall := some d.tick })) (.pps false)
    else d
  | none => d

/-! ### LOCKMON (R326) -/

/-- A density held to 0 to 1. -/
def clampDen (n : Int) (m : Nat) : Int × Nat := (if n < 0 then 0 else if n > m then m else n, m)

/-- Density by SRC, numerator and denominator. -/
def lockDensity (d : Device) : Int × Nat :=
  let fs := fld d Reg.CLK_LOCKMON_CFG 23 8
  let phase (x : Nat) : Int × Nat :=
    let r := trlOf d x
    let e := if sideSt d x = 1 then selOf d x else targetOf d x
    match sideSt d x == 1 || sideSt d x == 4, (candOf d x e).te with
    | true, some te => clampDen ((fs * 2 ^ 48 : Nat) + (te - r.delta) * 1000) (2 * fs * 2 ^ 48)
    | _, _ => (1, 2)
  match fld d Reg.CLK_LOCKMON_CFG 2 0 with
  | 0 => ((b2n (flag d Reg.CLK_ROOT_STATUS 0) + b2n (synLocked d 0) + b2n (synLocked d 1)
      + b2n (sideSt d (activeSide d) == 1) : Nat), 4)
  | 1 => phase 0
  | 2 => phase 1
  | 3 => clampDen (dcoWord d 0 + 500000000000) 1000000000000
  | _ => clampDen (dcoWord d 1 + 500000000000) 1000000000000

/-- The modulator's input is refreshed. -/
def lockRefresh (d : Device) : Device :=
  let q := lockDensity d
  modClk d (fun c => { c with lockNum := q.1, lockDen := q.2, lockLow := false })

end Sys2Proof.Machine
end

