-- ==== Sys2Proof/Machine/RedOps.lean ====
section
/-! DEFINITION. Redundancy: claims and health of the timing sides, changes of side, claim messages, Graft states, mirroring, and
the redundancy commands (R557 to R580). -/

namespace Sys2Proof.Machine

/-! ### Sides (R557 to R566) -/

def sideState (d : Device) (x : Nat) : SideState := if x = 0 then d.red.sideA else d.red.sideB
def modSide (d : Device) (x : Nat) (f : SideState → SideState) : Device :=
  modRed d (fun r => if x = 0 then { r with sideA := f r.sideA } else { r with sideB := f r.sideB })

/-- w_s − w_a, 10^-15 (R558, R562). -/
def fDiff (d : Device) : Int := dcoWord d (1 - activeSide d) - applied d (activeSide d)

/-- DIVERGED: |w_s − w_a| above FDIFF_MAX × 0.01 ppm, or |ψ| above PSI_MAX ps (R558). ψ is held in 10^-15 ticks of 800 ps. -/
def divergedNow (d : Device) : Bool :=
  decide (fld d Reg.RED_CFG 23 16 * 10000000 < (fDiff d).natAbs)
    || decide (fld d Reg.RED_LIMITS 15 0 * 1000000000000000 < d.red.psi.natAbs * 800)

/-- The ceiling bits of a side, RESTORE_HOLD aside (R558). -/
def ceilings (d : Device) (x : Nat) : Nat :=
  let st := x != activeSide d
  b2n (!synLocked d x || flag d (Reg.CLK_SYN_STATUS x) 3)
    + 2 * b2n (synLocked d x && (sideState d x).resync)
    + 4 * b2n (claimDrop d (ofSide x) (fun c => c == 3))
    + 8 * b2n (claimDrop d (ofSide x) classUTM)
    + 16 * b2n (sideSt d x == 0)
    + 32 * b2n (st && !(sideState d x).aligned)
    + 64 * b2n (sideSt d x == 5)
    + 128 * b2n (st && divergedNow d)

/-- The lowest ceiling among ceiling bits (R558). -/
def healthOfBits (v : Nat) : Nat :=
  if bits v 2 0 ≠ 0 then 0 else if bits v 5 3 ≠ 0 then 1 else if bits v 8 6 ≠ 0 then 2 else 3

/-- Priority and REVERTIVE (R582). -/
def sidePrio (d : Device) (x : Nat) : Nat := if x = 0 then fld d Reg.RED_SIDE_CFG 4 0 else fld d Reg.RED_SIDE_CFG 12 8
def revertive (d : Device) : Bool := flag d Reg.RED_SIDE_CFG 16

/-- The claim of a side (R557). -/
def sideClaim (d : Device) (x health : Nat) : Nat := health * 64 + sidePrio d x * 2 + (1 - x)

/-- RESTORE_HOLD by the new ceiling without it, the one before, and the health of the active side or member: whether it runs, and
until when (R559). -/
def holdNext (d : Device) (raw before other : Nat) (hold : Bool) (until_ : Option Nat) : Bool × Option Nat :=
  if raw < 3 || other < 3 then (false, none)
  else if hold then (true, until_)
  else if before < 3 && !(revertive d && fld d Reg.RED_CFG 11 0 == 0) then
    (true, if revertive d then some (d.dev + fld d Reg.RED_CFG 11 0 * secTicks) else none)
  else (false, none)

/-- RESYNC is done: ALIGNED has held for 1 ms, and the time bases of both sides are one (R563, R565). -/
def resyncDone (d : Device) (x : Nat) : Device :=
  let s := sideState d x
  if s.resync && synLocked d x && s.aligned && decide (s.alignAt + msTicks ≤ d.dev) then
    modSide d x (fun s => { s with resync := false })
  else d

/-- The ceilings and HEALTH of both sides in their registers, with RESTORE_HOLD of the standby side. -/
def healthEval (d : Device) : Device :=
  let d := each (upTo 2) d resyncDone
  let a := activeSide d
  let other := healthOfBits (ceilings d a)
  each [a, 1 - a] d (fun d x =>
    let c := ceilings d x
    let raw := healthOfBits c
    let s := sideState d x
    let h := if x = a then (false, none) else holdNext d raw s.raw other s.hold s.holdEnd
    let d := modSide d x (fun s => { s with raw := raw, hold := h.1, holdEnd := h.2 })
    let v := c + 256 * b2n h.1
    let old := healthOf d x
    let d := setFld d (Reg.RED_SIDE_HEALTH x) 10 0 (healthOfBits v + 4 * v)
    eventIf (healthOfBits v != old) d Reg.RED_EVENT 1)

/-- The side with the higher claim, at the health in the registers. -/
def higherSide (d : Device) : Nat := if sideClaim d 1 (healthOf d 1) < sideClaim d 0 (healthOf d 0) then 0 else 1

/-- Side x becomes active (R560, R564): its Δ takes −ψ, ψ restarts, and its applied word moves to its own DCO word; the alignment
of the two ticks, one measurement for both, is now that of the other side. -/
def sideChange (d : Device) (x : Nat) : Device :=
  let was := sideState d x
  let d := bump (event (trlTakeover d x) Reg.RED_EVENT 0) (Reg.RED_CNT 0)
  let d := modSide d (1 - x) (fun s =>
    { s with aligned := was.aligned && synLocked d (1 - x), alignAt := if was.aligned then was.alignAt else s.alignAt })
  let d := modSide d x (fun s => { s with aligned := false })
  let d := condEnds (condEnds d 0x41 (uSide x) 0) 0x42 (uSide x) 0
  let d := modRed d (fun r => { r with activeB := x == 1, psi := 0 })
  let d := flagJobs d (jobKeys d) 7
  standbyFollow (setMoveAt d x (if applied d x = dcoWord d x then none else some d.dev))

/-- SIDE_DIVERGED while the standby side's DIVERGED is set (R566). -/
def divergedCause (d : Device) : Device :=
  let x := 1 - activeSide d
  let on := flag d (Reg.RED_SIDE_HEALTH x) 9
  let was := d.flt.present.contains (uSide x, 0x42, 0)
  if on && !was then condBegins d { cause := 0x42, unit := uSide x }
  else if was && !on then condEnds d 0x42 (uSide x) 0
  else d

/-- Claims, health and the active side, at most n changes (R557 to R560). -/
def sidesEval : Nat → Device → Device
  | 0, d => d
  | n + 1, d =>
    let d := healthEval d
    let x := higherSide d
    if x = activeSide d then divergedCause d else sidesEval n (sideChange d x)

/-- RED_STATUS claims, active side and ALIGNED; TB_STATUS.ACTIVE_SIDE. -/
def sideStatus (d : Device) : Device :=
  let d := setFld d Reg.RED_STATUS 17 0
    (sideClaim d 0 (healthOf d 0) + 256 * sideClaim d 1 (healthOf d 1) + 65536 * activeSide d
      + 131072 * b2n (sideState d (1 - activeSide d)).aligned)
  setFld d Reg.TB_STATUS 24 24 (activeSide d)

/-- A measured edge error in fs goes to ALIGN_ERR, in ps, saturating (R561). -/
def alignErr (d : Device) (fs : Int) : Device :=
  setFld d Reg.RED_STATUS 31 24 (unsigned 8 (clampTo 127 (fs.tdiv 1000)))

/-- The standby edge error has stayed within ±3 ps for 1 ms: ALIGNED (R561). -/
def alignedSet (d : Device) (fs : Int) : Device :=
  let x := 1 - activeSide d
  if !ticking d || !synLocked d x || decide (3000 < fs.natAbs) then d
  else
    let d := alignErr d fs
    if (sideState d x).aligned then d
    else condEnds (modSide d x (fun s => { s with aligned := true, alignAt := d.dev })) 0x41 (uSide x) 0

/-- The error has exceeded ±10 ps: ALIGNED clears, with its cause (R561, R566). -/
def alignedLost (d : Device) (fs : Int) : Device :=
  let x := 1 - activeSide d
  if !ticking d || decide (fs.natAbs ≤ 10000) then d
  else
    let d := alignErr d fs
    if (sideState d x).aligned then
      condBegins (modSide d x (fun s => { s with aligned := false })) { cause := 0x41, unit := uSide x }
    else d

/-- RESTORE_HOLD of the standby side, or of the member, has run its WTR (R559, R567). -/
def restoreEnd (d : Device) : Device :=
  let x := 1 - activeSide d
  let past (e : Option Nat) : Bool := match e with | some t => decide (t ≤ d.dev) | none => false
  let s := sideState d x
  let d := if s.hold && past s.holdEnd then modSide d x (fun s => { s with hold := false, holdEnd := none }) else d
  if d.red.memberHold && past d.red.memberHoldEnd then
    modRed d (fun r => { r with memberHold := false, memberHoldEnd := none })
  else d

/-! ### The member claim and messages (R567 to R571) -/

def graftSt (d : Device) : Nat := fld d Reg.RED_GRAFT_STATUS 2 0

/-- The lowest ceiling of the member; those of JOINING and MIRRORING are left out on request (R567, R572). -/
def memberHealth (d : Device) (joining : Bool) : Nat :=
  let h := healthOf d (activeSide d)
  let h := if d.clk.gated || d.red.lastGasp || d.red.handover.isSome || claimDrop d ofMember (fun c => c == 3) then 0 else h
  let h := if claimDrop d ofMember classUTM then min h 1 else h
  let h := if joining && (graftSt d == 1 || graftSt d == 2) then min h 1 else h
  if d.red.memberHold then min h 2 else h

/-- A member claim of a health (R567). -/
def memberClaim (d : Device) (health : Nat) : Nat :=
  health * 64 + fld d Reg.RED_GRAFT_CFG 12 8 * 2 + (1 - fld d Reg.RED_GRAFT_CFG 0 0)

def ownClaim (d : Device) : Nat := memberClaim d (memberHealth d true)

/-- The partner claim (R573). -/
def partnerClaim (d : Device) : Nat := match d.red.partnerMsg with | some m => bits m 7 0 | none => 0
def partnerSt (d : Device) : Nat := match d.red.partnerMsg with | some m => bits m 10 8 | none => 0
def partnerOut (d : Device) : Bool := match d.red.partnerMsg with | some m => bit m 11 | none => false

/-- CRC-8 over bits [15:0], least significant byte first (R568). -/
def msgCrc (v : Nat) : Nat := crc8 [BitVec.ofNat 8 v, BitVec.ofNat 8 (v / 256)]

/-- A message of a claim, a state, OUT_EN and LEAVE (R568). -/
def message (claim st : Nat) (out leave : Bool) : Nat :=
  let v := claim + 256 * st + 2048 * b2n out + 4096 * b2n leave
  v + 65536 * msgCrc v

/-- The member's message; in a freeze and in last gasp the withdrawal message (R571). -/
def ownMessage (d : Device) (leave : Bool) : Nat :=
  if d.clk.gated || d.red.lastGasp then message (memberClaim d 0) (graftSt d) false leave
  else message (ownClaim d) (graftSt d) (flag d Reg.RED_GRAFT_STATUS 3) leave

/-- The message goes out on both Brely lanes and on CLAIM_OUT. -/
def sendBoth (d : Device) (leave : Bool) : Device :=
  let m := ownMessage d leave
  emit (emit (emit d (.claimBrely 0 m)) (.claimBrely 1 m)) (.claimPin m)

/-! ### Graft states (R572 to R574) -/

/-- A path is good. -/
def pathGood (d : Device) : Bool := brelyGood d || d.red.pinGood

/-- A good path shows a partner claim above the member's own: by any message but those before a forced takeover (R573, R577). -/
def shownLower (d : Device) : Bool := !d.red.forced && pathGood d && decide (ownClaim d < partnerClaim d)

/-- Paired outputs are turned on or off as the state says (R572, R573): an ACTIVE member that learns on a good path that its
claim is lower has them off. -/
def outEnable (d : Device) : Device :=
  let on := match graftSt d with
    | 0 => !flag d Reg.RED_GRAFT_STATUS 7
    | 1 => !flag d Reg.RED_GRAFT_STATUS 7
    | 3 => !d.red.takeOut && !shownLower d
    | _ => false
  if on = flag d Reg.RED_GRAFT_STATUS 3 then d
  else
    let d := setFlag d Reg.RED_GRAFT_STATUS 3 on
    let d := if !on && flag d Reg.RED_PAIR 1 && d.clk.ppsHigh.isSome then
        emit (modClk d (fun c => { c with ppsHigh := none })) (.pps false)
      else d
    pairPins d

/-- Enter a Graft state; MIRRORED goes with MIRRORING and STANDBY. -/
def setGraft (d : Device) (st : Nat) : Device :=
  if graftSt d = st then d
  else
    let was := graftSt d
    let d := event (setFld d Reg.RED_GRAFT_STATUS 2 0 st) Reg.RED_EVENT 2
    let d := if st = 4 then d else setFlag d Reg.RED_GRAFT_STATUS 6 false
    let d := modRed d (fun r => { r with mirrorFrom := if st = 2 then none else r.mirrorFrom, takeOut := false, forced := false })
    if was = 4 && st = 3 then
      let d := bump (event d Reg.RED_EVENT 3) (Reg.RED_CNT 1)
      modRed d (fun r => { r with takenNs := some (tb0Ns d) })
    else d

/-- Commands that wait for the Graft: GRAFT_JOIN completes on entering ACTIVE or STANDBY. -/
def joinDone (d : Device) : Device := each (working d 0x0B02) d (fun d c => ok d c)

/-- The GRAFT_JOIN in work meets a partner with the same TWIN_ID (R580). -/
def twinConflict (d : Device) : Device :=
  let d := event (setGraft d 0) Reg.RED_EVENT 7
  each (working d 0x0B02) d (fun d c => bad d c 0)

/-- The partner reports the same TWIN_ID. -/
def sameTwin (d : Device) : Bool :=
  match d.red.partnerMsg with
  | some m => bits m 0 0 == 1 - fld d Reg.RED_GRAFT_CFG 0 0
  | none => false

/-- A takeover waits until the latest message shows OUT_EN = 0 or HEALTH 0 (R573). -/
def takeoverOut (d : Device) : Bool := partnerOut d && decide (64 ≤ partnerClaim d)

/-- One transition of the Graft state (R572, R573). -/
def graftStep (d : Device) : Device :=
  let good := pathGood d
  let p := partnerSt d
  match graftSt d with
  | 1 =>
    if !good then d
    else if sameTwin d then twinConflict d
    else if p = 3 || p = 4 then setGraft d 2
    else if p = 1 then
      if partnerClaim d < memberClaim d (memberHealth d false) then joinDone (setGraft d 3) else setGraft d 2
    else d
  | 3 =>
    if d.red.handover.isSome then
      if good && p == 3 then
        let d := modRed d (fun r => { r with handover := none })
        each (working d 0x0B03) (setFlag (setGraft d 0) Reg.RED_GRAFT_STATUS 7 true) (fun d c => ok d c)
      else d
    else if d.red.takeOut then
      if takeoverOut d then d else modRed d (fun r => { r with takeOut := false })
    else if shownLower d then setGraft d 4
    else d
  | 4 =>
    if good && decide (partnerClaim d < ownClaim d) then
      let wait_ := takeoverOut d
      modRed (setGraft d 3) (fun r => { r with takeOut := wait_ })
    else d
  | _ => d

/-- The member's claim and RESTORE_HOLD, the state and the outputs, brought up to date (R567, R572). -/
def graftEval (d : Device) : Device :=
  let raw := memberHealth (modRed d (fun r => { r with memberHold := false })) true
  let h := if graftSt d = 4 then
      holdNext d raw d.red.memberRaw (partnerClaim d / 64) d.red.memberHold d.red.memberHoldEnd
    else (false, none)
  let d := modRed d (fun r => { r with memberRaw := raw, memberHold := h.1, memberHoldEnd := h.2 })
  let d := outEnable (graftStep d)
  let now := memberHealth d true
  let d := eventIf (now != d.red.memberHealth) (modRed d (fun r => { r with memberHealth := now })) Reg.RED_EVENT 1
  let d := setFld (setFld d Reg.RED_GRAFT_STATUS 15 8 (ownClaim d)) Reg.RED_GRAFT_STATUS 23 16 (partnerClaim d)
  setFld (setFlag d Reg.RED_GRAFT_STATUS 24 (partnerOut d)) Reg.RED_GRAFT_STATUS 27 25 (partnerSt d)

/-! ### Paths (R569, R570) -/

/-- A path is lost (R566, R583, R584); the fault is raised while joined. -/
def pathLost (d : Device) (ev cause : Nat) : Device :=
  let d := bump (event d Reg.RED_EVENT ev) (Reg.RED_CNT 4)
  let d := eventIf (!pathGood d) d Reg.RED_EVENT 6
  if graftSt d = 0 then d else condBegins d { cause := cause, unit := uService 7 }

/-- GOOD of a Brely lane and of the path. -/
def setLaneGood (d : Device) (k : Nat) (g : Bool) : Device :=
  let was := brelyGood d
  let d := modRed (setFlag d (Reg.RED_BL_STATUS k) 3 g) (fun r => { r with brelyGood := r.brelyGood.set k g })
  let d := setFlag d Reg.RED_GRAFT_STATUS 4 (brelyGood d)
  if was && !brelyGood d then pathLost d 4 0x43
  else if brelyGood d then condEnds d 0x43 (uService 7) 0
  else d

/-- GOOD of the pin path. -/
def setPinGood (d : Device) (g : Bool) : Device :=
  let was := d.red.pinGood
  let d := setFlag (modRed d (fun r => { r with pinGood := g })) Reg.RED_GRAFT_STATUS 5 g
  if was && !g then pathLost d 5 0x44
  else if g then condEnds d 0x44 (uService 7) 0
  else d

/-- LEAVE = 1 in a message: an ACTIVE member goes to SOLO with its outputs kept, a STANDBY member with PAIR_HOLD (R572). -/
def partnerLeaves (d : Device) : Device :=
  match graftSt d with
  | 3 => setGraft d 0
  | 4 => setFlag (setGraft d 0) Reg.RED_GRAFT_STATUS 7 true
  | _ => d

/-- Both members drive: PAIR_CONFLICT after three consecutive messages, until one shows otherwise (R566). -/
def conflictCheck (d : Device) : Device :=
  if flag d Reg.RED_GRAFT_STATUS 3 && partnerOut d then
    let d := modRed d (fun r => { r with conflict := r.conflict + 1 })
    if d.red.conflict = 3 then condBegins (event d Reg.RED_EVENT 8) { cause := 0x45, unit := uService 7 } else d
  else condEnds (modRed d (fun r => { r with conflict := 0 })) 0x45 (uService 7) 0

/-- A valid message has arrived: it is the latest; LEAVE is handled first (R573, R578). -/
def messageIn (d : Device) (m : Nat) : Device :=
  let d := modRed d (fun r => { r with partnerMsg := some m, forced := false })
  graftEval (conflictCheck (if bit m 12 then partnerLeaves d else d))

/-- A message with a right CRC. -/
def msgGood (m : Nat) : Bool := bits m 23 16 == msgCrc (m % 65536)

/-- A message on a Brely lane (R569). A lane that delivers one has lock and is usable. -/
def brelyClaim (d : Device) (k m : Nat) : Device :=
  let d := setFld d (Reg.RED_BL_STATUS k) 2 0 7
  if msgGood m then
    messageIn (setLaneGood (modRed d (fun r => { r with brelyAt := r.brelyAt.set k (some d.dev) })) k true) m
  else bump d (Reg.RED_CNT 2)

/-- A message on CLAIM_IN (R570). -/
def pinClaim (d : Device) (m : Nat) : Device :=
  if msgGood m then messageIn (setPinGood (modRed d (fun r => { r with pinAt := some d.dev })) true) m
  else bump d (Reg.RED_CNT 3)

/-- No valid message on a Brely lane for 80 µs. -/
def brelyTmo (d : Device) (k : Nat) : Device :=
  match d.red.brelyAt.getD k none with
  | some t =>
    if d.red.brelyGood.getD k false && decide (t + 80 * usTicks ≤ d.dev) then setLaneGood d k false else d
  | none => d

/-- No valid message on CLAIM_IN for 100 µs. -/
def pinTmo (d : Device) : Device :=
  match d.red.pinAt with
  | some t => if d.red.pinGood && decide (t + 100 * usTicks ≤ d.dev) then setPinGood d false else d
  | none => d

/-! ### Mirroring (R575, R576) -/

/-- Configuration of a shaft as the digest takes it (log 18). -/
def digestOf (h : Shaft) : Word :=
  Config.shaftDigest
    ([h.base, h.cycle, h.delay, h.lead, unsigned 64 h.vMax, unsigned 64 h.aMax, unsigned 64 h.jMax, unsigned 64 h.aQs,
      unsigned 64 h.jQs, h.axisCount, h.sa]
      ++ (h.frames.map (fun f => [f.offset, f.group, f.vid, f.pcp, f.da, f.first, f.entries, f.len])).flatten)

/-- The member's mirror record. Its departure and arrival stamps are not modelled, so it carries no offset. -/
def ownRecord (d : Device) : MirrorRec :=
  { tbs := (upTo 7).map (fun i => (tvSec (tbVal d (i + 1)), tvNs (tbVal d (i + 1)), tvFns (tbVal d (i + 1)), tbIncr d (i + 1))),
    shafts := (upTo 4).map (fun s => (shSt d s, digestOf (shaftOf d s))),
    offset := none }

/-- The conditions of R575 hold against a record. -/
def mirrorsWell (d : Device) (r : MirrorRec) : Bool :=
  (upTo 7).all (fun i =>
    match r.tbs[i]? with
    | some (s, n, f, _) =>
      !tbEn d (i + 1)
        || decide (((tbVal d (i + 1) : Int) - timeVal s n f).natAbs * 1000 ≤ fld d Reg.RED_LIMITS 31 16 * nsUnit)
    | none => !tbEn d (i + 1))
  && r.shafts == (upTo 4).map (fun s => (shSt d s, digestOf (shaftOf d s)))
  && healthOf d (activeSide d) == 3

/-- Firmware steers the increment of an enabled TB1 to TB7: a free value in the range of R210, since R575 states no law. -/
def steerTb (d : Device) (n : Nat) : Device :=
  if tbEn d n then nextFree (setIncr d n (0xC000_0000_0000 + freeVal d % 0x1999_9999_999B)) else d

/-- An offset reaches an entry that takes its time and frequency from offsets (R283, R285, R576). -/
def offsetAt (d : Device) (x e : Nat) (off : Int) (interval : Nat) : Device :=
  let te := off * (2 ^ 32 : Nat)
  let c := candOf d x e
  let offs := ((d.tick, te) :: c.offs).take 16
  let d := modCand d x e (fun c => { c with seenAt := some d.now, offs := offs, interval := interval })
  let d := presenceOf d true x e
  if decide (2 ≤ offs.length) && (candOf d x e).present then
    nextFree (measured d x e te (fFromSlope d (slopeTicks offs)))
  else d

/-- A mirror record of the partner: it is kept for the completion test; a mirroring member steers; an offset of 1,024 claim
messages reaches the BRELY entries, less RED_BRELY_ASYM (R270, R576). -/
def mirrorIn (d : Device) (r : MirrorRec) : Device :=
  let d := modRed d (fun x => { x with mirrorRec := some r })
  let d := if graftSt d = 2 || graftSt d = 4 then each [1, 2, 3, 4, 5, 6, 7] d steerTb else d
  let d := modRed d (fun x => { x with mirrorFrom := if mirrorsWell d r then some (x.mirrorFrom.getD d.dev) else none })
  each (upTo 2) d (fun d x => each (upTo 16) d (fun d e =>
    if cValid d x e && cType d x e == 3 then
      match r.offset with
      | some o => offsetAt d x e (o - signed 32 (rd d Reg.RED_BRELY_ASYM)) (secTicks / 16)
      | none => presenceOf (modCand d x e (fun c => { c with seenAt := some d.now })) true x e
    else d))

/-- The mirror has been complete for 1 s: STANDBY (R575). -/
def mirrorComplete (d : Device) : Device :=
  match d.red.mirrorFrom with
  | some t =>
    if graftSt d = 2 && decide (t + secTicks ≤ d.dev) && healthOf d (activeSide d) == 3 then
      joinDone (event (setFlag (setGraft d 4) Reg.RED_GRAFT_STATUS 6 true) Reg.RED_EVENT 9)
    else d
  | none => d

/-! ### Everything at once -/

/-- The claim logic, in every cycle: sides, then the member (R557, R578). -/
def redEval (d : Device) : Device := graftEval (sideStatus (sidesEval 3 d))

/-! ### Commands (R577, R580) -/

/-- CLAIM_STATUS. -/
def opClaimStatus (d : Device) (c : InFlight) : Device :=
  okWith d c
    [w32 (fld d Reg.RED_STATUS 15 0 + 2 ^ 16 * partnerClaim d + 2 ^ 24 * activeSide d
      + 2 ^ 25 * b2n (graftSt d != 0 && decide (partnerClaim d < ownClaim d)) + 2 ^ 26 * b2n (brelyGood d)
      + 2 ^ 27 * b2n d.red.pinGood)]

/-- SIDE_PREFER. A priority is read from the whole byte of its field, so that one above 31 can be named. -/
def opSidePrefer (d : Device) (c : InFlight) : Device :=
  if 31 < pf c 0 7 0 || 31 < pf c 0 15 8 then bad d c 0
  else
    let held := !revertive d
    let d := wr d Reg.RED_SIDE_CFG (pf c 0 4 0 + 256 * pf c 0 12 8 + 65536 * pf c 0 16 16)
    let d := if held then
        let d := each (upTo 2) d (fun d x => modSide d x (fun s => { s with hold := false, holdEnd := none }))
        modRed d (fun r => { r with memberHold := false, memberHoldEnd := none })
      else d
    ok d c

/-- GRAFT_JOIN. -/
def opGraftJoin (d : Device) (c : InFlight) : Device :=
  if 31 < pf c 0 15 8 then bad d c 0
  else if !flag d Reg.CMD_CFG 0 then badHeader d c
  else if graftSt d ≠ 0 then fail d c stBusy
  else if (match d.red.partnerMsg with | some m => bits m 0 0 == 1 - pf c 0 0 0 | none => false) then
    bad (event d Reg.RED_EVENT 7) c 0
  else
    let d := wr d Reg.RED_GRAFT_CFG (pf c 0 0 0 + 256 * pf c 0 12 8)
    graftEval (toWork (setGraft d 1) c [])

/-- ABORT of a GRAFT_JOIN: SOLO. -/
def abortJoin (d : Device) (c : InFlight) : Device := graftEval (complete (setGraft d 0) c.seq stAborted [0])

/-- GRAFT_LEAVE. A JOIN in work ends with the state it waits for. -/
def opGraftLeave (d : Device) (c : InFlight) : Device :=
  match graftSt d with
  | 0 => ok d c
  | 3 =>
    if pb c 0 0 then
      graftEval (toWork (modRed d (fun r => { r with handover := some (d.dev + 10 * msTicks) })) c [])
    else ok (graftEval (setGraft (sendBoth d true) 0)) c
  | 4 => ok (graftEval (setFlag (setGraft (sendBoth d true) 0) Reg.RED_GRAFT_STATUS 7 true)) c
  | _ =>
    let d := each (working d 0x0B02) (setGraft (sendBoth d true) 0) (fun d j => fail d j stAborted)
    ok (graftEval d) c

/-- A handover has found no ACTIVE partner within 10 ms, or is aborted: the claim is restored. -/
def handoverEnd (d : Device) : Device := graftEval (modRed d (fun r => { r with handover := none }))

/-- The 10 ms of a handover are over (R580). -/
def handoverTmo (d : Device) : Device :=
  match d.red.handover with
  | some t =>
    if t ≤ d.dev then each (working d 0x0B03) (handoverEnd d) (fun d c => fail d c stNoResource) else d
  | none => d

/-- ABORT of a handover. -/
def abortHandover (d : Device) (c : InFlight) : Device := complete (handoverEnd d) c.seq stAborted [0]

/-- RED_GRAFT_FORCE with its key: STANDBY goes to ACTIVE whatever the paths show (R577). -/
def graftForce (d : Device) : Device :=
  match graftSt d with
  | 3 => d
  | 4 => outEnable (modRed (setGraft d 3) (fun r => { r with forced := true }))
  | _ => event d Reg.RED_EVENT 13

/-- Last gasp: the withdrawal message on every path (R571); in a freeze the Brely lanes stand (R325). -/
def lastGaspNow (d : Device) : Device :=
  let d := modRed d (fun r => { r with lastGasp := true })
  if d.clk.gated then emit d (.claimPin (ownMessage d false)) else sendBoth d false

end Sys2Proof.Machine
end

