-- ==== Sys2Proof/Machine/OpsSyn.lean ====
section
/-! DEFINITION. Shaft and pin commands (R409 to R414, R417 to R419, R423, R425, R429, R432 to R436, R498). -/

namespace Sys2Proof.Machine

/-! ### SHAFT_CONFIG: ranges of a section (R423, R429, R430, R432, R436) -/

/-- A time value in three words from k on (NS, SEC low, SEC high), in ns. -/
def pNs (c : InFlight) (k : Nat) : Nat := pw64 c (k + 1) * 1000000000 + pw c k

/-- 10,000 in 16.16. -/
def top16 : Nat := 10000 * 65536

/-- LEAD against TREL (R423). -/
def leadOk (d : Device) (lead : Nat) : Bool := decide (4 * (fld d Reg.CORE_TENDED_REL 16 0 + 100) + 1000 ≤ 5 * lead)

/-- Section 0: the first word out of range. -/
def section0Bad (d : Device) (c : InFlight) : Option Nat :=
  if 999999999 < pw c 1 then some 1
  else if !inRange (pw c 4) 8000 8000000 then some 4
  else if 8000000 < pw c 5 then some 5
  else if pw c 4 < pw c 6 || !leadOk d (pw c 6) then some 6
  else if 1000 * 65536 < pw c 7 then some 7
  else
    match firstOf (fun k => !inRange (pw c k) 1 top16) [8, 9, 10, 11] with
    | some k => some k
    | none => if !inRange (pf c 12 8 0) 1 256 then some 12 else none

/-- Frame f of section 1. -/
def sectionFrame (c : InFlight) (f : Nat) : SFrame :=
  let k := 2 + 7 * f
  { offset := pw c k, group := pf c (k + 1) 12 0, vid := pf c (k + 2) 11 0, pcp := pf c (k + 2) 14 12,
    da := pw c (k + 3) + 2 ^ 32 * pf c (k + 4) 15 0, first := pf c (k + 5) 8 0, entries := pf c (k + 5) 23 16,
    len := pf c (k + 6) 10 0 }

/-- The frames of section 1. -/
def sectionFrames (c : InFlight) : List SFrame := (upTo (pf c 1 4 0)).map (sectionFrame c)

/-- Least FRAME_LEN of a frame (R432). -/
def leastLen (g : SFrame) : Nat := max 64 ((if g.vid = 0 then 14 else 18) + 40 + 8 * g.entries + 4)

/-- Section 1: the first word out of range. -/
def section1Bad (c : InFlight) : Option Nat :=
  if !inRange (pf c 1 4 0) 1 16 then some 1
  else
    (upTo (pf c 1 4 0)).foldl (fun (b : Option Nat) f =>
      match b with
      | some k => some k
      | none =>
        let g := sectionFrame c f
        let k := 2 + 7 * f
        if f ≠ 0 && decide (g.offset ≤ (sectionFrame c (f - 1)).offset) then some k
        else if !inRange g.entries 1 128 || decide (256 < g.first + g.entries) then some (k + 5)
        else if !inRange g.len (leastLen g) 1518 then some (k + 6)
        else none) none

/-- The axes of section 2. -/
def sectionAxes (c : InFlight) : List Nat := (upTo (pf c 1 24 16)).map (fun i => pf c 1 8 0 + i)

/-- Section 2: the first word out of range. -/
def section2Bad (c : InFlight) : Option Nat :=
  if !inRange (pf c 1 24 16) 1 113 || decide (256 < pf c 1 8 0 + pf c 1 24 16) then some 1
  else
    (upTo (pf c 1 24 16)).foldl (fun (b : Option Nat) i =>
      match b with
      | some k => some k
      | none =>
        let k := 2 + 9 * i
        if pf c k 1 0 = 3 then some k else if pf c k 1 0 = 1 && pw c (k + 2) == 0 then some (k + 2) else none) none

/-- Section 3: the first word out of range. -/
def section3Bad (c : InFlight) : Option Nat :=
  let n := pf c 2 10 0
  if [16, 32, 64, 128, 256, 512, 1024].contains n = false then some 2
  else if !inRange (pf c 4 8 0) 1 336 || decide (n < pf c 3 10 0 + pf c 4 8 0) then some 4
  else if pw64 c 5 = 0 then some 5
  else none

/-- Section 4: the length out of range. -/
def section4Bad (c : InFlight) : Option Nat := if inRange (pf c 4 7 0) 60 252 then none else some 4

/-- The word of a SHAFT_CONFIG that is out of range. -/
def sectionBad (d : Device) (c : InFlight) : Option Nat :=
  match pf c 0 2 0 with
  | 0 => section0Bad d c
  | 1 => section1Bad c
  | 2 => section2Bad c
  | 3 => section3Bad c
  | 4 => section4Bad c
  | 7 => none
  | _ => some 0

/-! ### SHAFT_CONFIG: writing a section -/

/-- The shaft with sections 0 to 3 of the command written; the others change nothing of it. -/
def withSection (c : InFlight) (h : Shaft) : Shaft :=
  match pf c 0 2 0 with
  | 0 =>
    { h with
      base := pNs c 1, cycle := pw c 4, delay := pw c 5, lead := pw c 6, vMax := pw c 7, aMax := pw c 8, jMax := pw c 9,
      aQs := pw c 10, jQs := pw c 11, axisCount := pf c 12 8 0, sa := pw c 13 + 2 ^ 32 * pf c 14 15 0 }
  | 1 => { h with frames := sectionFrames c }
  | 2 =>
    (upTo (pf c 1 24 16)).foldl (fun h i =>
      let k := 2 + 9 * i
      modAxis h (pf c 1 8 0 + i) (fun _ =>
        { mode := pf c k 1 0, cam := pf c k 11 8, num := signed 32 (pw c (k + 1)), den := max (pw c (k + 2)) 1,
          phase := q32 (signed 64 (pw64 c (k + 3))), off := q32 (signed 64 (pw64 c (k + 5))),
          held := q32 (signed 64 (pw64 c (k + 7))) })) h
  | 3 =>
    { h with cams := tmod (fun _ => {}) h.cams (pf c 1 3 0) (fun m =>
        { m with
          n := pf c 2 10 0, per := q32 (pw64 c 5 : Nat), lift := q32 (signed 64 (pw64 c 7)),
          pts := (upTo (pf c 4 8 0)).foldl (fun t i =>
            tset (fun _ => ({}, {})) t (pf c 3 10 0 + i)
              (q32 (signed 64 (pw64 c (9 + 3 * i))), q16 (signed 32 (pw c (11 + 3 * i))))) m.pts }) }
  | _ => h

/-- Write a halt slot (R436). -/
def setHalt (d : Device) (i : Nat) (valid : Bool) (ports : Nat) (bytes : List Byte) : Device :=
  let d := modSyn d (fun y => { y with halts := tset (fun _ => {}) y.halts i { bytes := bytes, ports := ports } })
  let d := wr d (Reg.SYN_HALT_CTL i) (b2n valid + 2 ^ 16 * bytes.length)
  wr (wr d (Reg.SYN_HALT_PORTS_LO i) ports) (Reg.SYN_HALT_PORTS_HI i) (ports / 2 ^ 32 % 256)

/-- Write the section of the command. -/
def writeSection (d : Device) (c : InFlight) (s : Nat) : Device :=
  let d := modShaft d s (withSection c)
  match pf c 0 2 0 with
  | 0 => wr d (Reg.SYN_SH_CYCLE s) (pw c 4)
  | 1 => setFld d (Reg.SYN_SH_STATUS s) 24 20 (pf c 1 4 0)
  | 4 => setHalt d (pf c 1 3 0) (pb c 1 8) (pw c 2 + 2 ^ 32 * pf c 3 7 0) ((bytesOf (c.pkt.words.drop 5)).take (pf c 4 7 0))
  | _ => d

/-! ### Enabling (R423, R425, R433, R434, R436) -/

/-- The frames carry every axis from 0 to AXIS_COUNT − 1 exactly once (R433). -/
def axesCovered (h : Shaft) : Bool :=
  let l := (h.frames.map (fun g => (upTo g.entries).map (fun i => g.first + i))).flatten
  l.length == h.axisCount && (upTo h.axisCount).all (fun i => l.contains i)

/-- The limits that join sections hold (R423, R429, R433). -/
def wholeOk (d : Device) (h : Shaft) : Bool :=
  let last := match h.frames.getLast? with | some g => g.offset | none => 0
  decide (8000 ≤ h.cycle) && decide (last < h.cycle) && decide (last ≤ h.delay) && decide (h.lead ≤ h.cycle)
    && leadOk d h.lead && !h.frames.isEmpty && axesCovered h

/-- POSITION pins of a shaft, but for one pin. -/
def positionPins (d : Device) (s but : Nat) : Nat :=
  ((upTo 16).filter (fun j => j != but && pinFn d j == 5 && pinShaft d j == s)).length

/-- 5 W against 4 CYCLE (R425), with p POSITION pins. -/
def workFits (h : Shaft) (p : Nat) : Bool :=
  let g := ((upTo h.axisCount).filter (fun i => (axisOf h i).mode == 1)).length
  let m := ((upTo h.axisCount).filter (fun i => (axisOf h i).mode == 2)).length + p
  decide (5 * (1000 + 40 * g + 120 * m + 250 * h.frames.length) ≤ 4 * h.cycle)

/-- The halt frame of a shaft: addresses and tag of frame 0, FLAGS.HALT and SHAFT; header bytes 2 to 29 are not stated, and are
free (R436; log 34). -/
def haltFrame (d : Device) (s : Nat) : Device × List Byte :=
  let h := shaftOf d s
  let r := freeBytes d 28
  let b := setpointHead h (h.frames.headD {}) ++ [1, BitVec.ofNat 8 s] ++ r.2 ++ [0x00, 0x20] ++ List.replicate 8 0
  (r.1, b ++ List.replicate (60 - b.length) 0)

/-- EN = 1 is accepted (R423, R434, R436): STANDSTILL with M = 0, or HALTED at once while Shears is in force. -/
def shaftEnable (d : Device) (s : Nat) : Device :=
  let h := shaftOf d s
  let k := cycleFrom h ((tb0Ns d + 10001 - b2n (tbVal d 0 % nsUnit == 0) : Nat) : Int)
  let d := modShaft d s (fun h =>
    { h with
      k := k, f := 0, nextK := k, low := k, kc := k, now_ := {}, motions := [], skipped := false, pubs := [], doneAt := [],
      axes := tmap (fun _ => {}) (fun x => { x with trim := none }) h.axes })
  let d := shStatus (setShSt d s 1) s
  let r := haltFrame d s
  let group := (shaftOf d s).frames.headD {}
  let d := setHalt r.1 s true (tget (fun _ => 0) d.fwd.mcast group.group % 2 ^ 40) r.2
  if shears d then shaftHalt d s else d

/-- EN = 0 is accepted: OFF; every axis holds its last S; the shaft's claims are released (R409, R434). -/
def shaftDisable (d : Device) (s : Nat) : Device :=
  if shSt d s = 0 then d
  else
    let d := modShaft d s (fun h =>
      let h := (h.axes.map Prod.fst).foldl (disengageAxis []) h
      { h with now_ := {}, motions := [], doneAt := [], f := 0,
               axes := tmap (fun _ => {}) (fun x => { x with trim := none }) h.axes })
    releaseAll (shStatus (setShSt d s 0) s) (4, s)

/-- The section touches an engaged axis, or a cam of one. -/
def touchesEngaged (h : Shaft) (c : InFlight) : Bool :=
  match pf c 0 2 0 with
  | 2 => (sectionAxes c).any (fun i => (axisOf h i).engaged)
  | 3 => h.axes.any (fun e => e.2.engaged && e.2.mode == 2 && e.2.cam == pf c 1 3 0)
  | _ => false

/-- SHAFT_CONFIG (R435, R498). -/
def opShaftConfig (d : Device) (c : InFlight) : Device :=
  let s := unitBed (tgt c)
  let sec := pf c 0 2 0
  let on := decide (shSt d s ≠ 0)
  let turn := pb c 0 4
  let en := pb c 0 5
  let h := withSection c (shaftOf d s)
  let enabling := turn && en && !on
  match sectionBad d c with
  | some k => bad d c k
  | none =>
    if enabling && !wholeOk d h then bad d c 0
    else if sec ≤ 1 && on then fail d c stNotDisabled
    else if (turn && !en && (shSt d s == 2 || shSt d s == 3)) || touchesEngaged (shaftOf d s) c || (sec == 4 && shears d) then
      fail d c stBusy
    else if (enabling || (sec == 2 && on)) && !workFits h (positionPins d s 16) then fail d c stNoResource
    else
      let d := writeSection d c s
      ok (if enabling then shaftEnable d s else if turn && !en then shaftDisable d s else d) c

/-! ### SHAFT_MOTION (R429, R435) -/

/-- The first word of a motion that is out of range. -/
def motionBad (d : Device) (c : InFlight) (s : Nat) : Option Nat :=
  let h := shaftOf d s
  let op := pf c 0 2 0
  let first := pf c 4 8 0
  let n := pf c 4 24 16
  if op = 0 && decide (h.vMax < (signed 32 (pw c 1)).natAbs) then some 1
  else if op = 0 && decide (h.aMax < pw c 2) then some 2
  else if op = 0 && decide (h.jMax < pw c 3) then some 3
  else if op = 5 && !inRange (pw c 7) 1 (100 * 65536) then some 7
  else if shSt d s = 0 then some 0
  else if inRange op 3 5 && (n == 0 || decide (h.axisCount < first + n)
      || (upTo n).any (fun i => (axisOf h (first + i)).mode == 0)) then some 4
  else none

/-- A QUICK_STOP runs or waits for its cycle. -/
def quickStops (d : Device) (s : Nat) : Bool := quick d s || (shaftOf d s).motions.any (fun m => m.op == 2)

/-- SHAFT_MOTION (R428, R429, R435). RESUME acts at once; every other motion at its first cycle. -/
def opShaftMotion (d : Device) (c : InFlight) : Device :=
  let s := unitBed (tgt c)
  let op := pf c 0 2 0
  let st := shSt d s
  match motionBad d c s with
  | some k => bad d c k
  | none =>
    if (st == 4 && op != 6) || (op == 0 && quickStops d s) || (op == 7 && st != 1) || (op == 6 && shears d) then fail d c stBusy
    else
      let k := firstApply d s
      let h := shaftOf d s
      let idle_ := (op == 6 && st != 4) || (op == 3 && (namedAxes c.pkt.words).all (fun i => (axisOf h i).engaged))
      let d :=
        if idle_ then d
        else if op = 6 then setShSt (modShaft d s (fun h => { h with k := k, f := 0, nextK := k, low := k, kc := k })) s 1
        else modShaft d s (fun h => { h with motions := h.motions ++ [{ k := k, op := op, words := c.pkt.words }] })
      okWith d c [w32 k]

/-! ### SYNC_PIN_CLAIM (R410 to R419) -/

/-- The pin of a target. -/
def pinOfUnit (u : Nat) : Nat := 4 * unitBed u + unitIdx u

/-- The edges of a PULSE claim in 2^-16 ns, with levels, in the order of the packet. -/
def claimEdges (c : InFlight) : List (Nat × Bool) :=
  (upTo (pf c 1 4 0)).map (fun i =>
    let k := 2 + 4 * i
    (pNs c k * 65536 + pf c (k + 3) 15 0, pb c (k + 3) 16))

/-- 1.6 ns in 2^-16 ns, rounded up. -/
def minPhase : Nat := 104858

/-- The first word of a claim that is out of range. -/
def claimBad (d : Device) (c : InFlight) : Option Nat :=
  let dom := pf c 0 6 4
  if !inRange (pf c 0 2 0) 1 5 || !tbEn d dom then some 0
  else
    match pf c 0 2 0 with
    | 1 =>
      if !inRange (pf c 1 4 0) 1 16 then some 1
      else firstOf (fun k => decide (999999999 < pw c k)) ((upTo (pf c 1 4 0)).map (fun i => 2 + 4 * i))
    | 2 =>
      if 999999999 < pw c 1 || decide ((pNs c 1 * 65536 + pf c 4 15 0) * 2 ^ 32 < tbVal d dom + 400 * nsUnit) then some 1
      else if !inRange (pw64 c 5) 209716 (1000000000000 * 65536) then some 5
      else if pw64 c 7 < minPhase || pw64 c 5 < pw64 c 7 + minPhase then some 7
      else none
    | 3 =>
      if !within_ 24 (pw c 1) 320000 then some 1
      else if !inRange (pf c 2 18 0) 1 500000 then some 2
      else none
    | 5 => if pw64 c 4 = 0 then some 4 else if pw64 c 4 ≤ pw64 c 2 then some 2 else none
    | _ => none

/-- The meter an INPUT claim takes (R412). -/
def inputMeter (d : Device) (j : Nat) : Option Nat :=
  if (mtrOwner d j).1 = 0 then some j
  else if flag d (Reg.SYN_PIN_OWNER j) 10 then some (4 * (j / 4) + fld d (Reg.SYN_PIN_OWNER j) 9 8)
  else freeSpare d (j / 4)

/-- Edges of a claim that lie at least 400 ns ahead (R417). -/
def timelyEdges (d : Device) (c : InFlight) : List (Nat × Bool) :=
  (claimEdges c).filter (fun e => decide (tbVal d (pf c 0 6 4) + 400 * nsUnit ≤ e.1 * 2 ^ 32))

/-- APPEND adds to a queue that runs. -/
def appends (d : Device) (c : InFlight) (j : Nat) : Bool := pf c 0 2 0 == 1 && pb c 0 16 && pinFn d j == 1

/-- Edges of a pin that have not passed. -/
def pendingEdges (p : Pin) : Nat := p.queue.length - p.next

/-- The schedule of an accepted claim. -/
def claimPin (d : Device) (c : InFlight) (old : Pin) (app : Bool) : Pin :=
  let keep : Pin := { drive := old.drive, moved := old.moved }
  match pf c 0 2 0 with
  | 1 =>
    let base := if app then old else { keep with base := bit (freeVal d) 0 }
    { base with queue := (timelyEdges d c).foldl (fun l e => edgeInsert e l) base.queue }
  | 2 => { keep with start := pNs c 1 * 65536 + pf c 4 15 0, period := pw64 c 5, width := pw64 c 7, count := pw c 9 }
  | 3 =>
    let p := { keep with offset := signed 24 (pw c 1) * 512, width := pf c 2 18 0 * 65536000, gated := pb c 3 0 }
    { p with next := edgesBefore p 3 (tbFifths d (pf c 0 6 4)) }
  | _ => { keep with pos := pw64 c 2, per := pw64 c 4, width := pw64 c 6, both := pb c 8 0 }

/-- A claim of an output is accepted: configured, held by its owner, low until its first edge; before the first edge of a PULSE queue
its level is free (log 29). -/
def acceptOutput (d : Device) (c : InFlight) (j : Nat) : Device :=
  let o := ownerOf c.origin
  let fn := pf c 0 2 0
  let app := appends d c j && !pinHeld d j
  let old := rd d (Reg.SYN_PIN_OWNER j)
  let i := 4 * (j / 4) + bits old 9 8
  let keep := bit old 10 && (meterOf d (44 + i)).job.isSome
  let d := if bit old 10 && !keep then freeMeter d i else d
  let late := if fn = 1 then (claimEdges c).length - (timelyEdges d c).length else 0
  let d := if 0 < late then event (count d (Reg.SYN_CNT 0) late) Reg.SYN_EVENT 2 else d
  let p := claimPin d c (pinOf d j) app
  let d := if fn = 1 then nextFree d else d
  let dom := if fn = 5 then 0 else pf c 0 6 4
  let d := wr d (Reg.SYN_PIN_CFG j)
    (fn + 16 * dom + 256 * pf c 0 9 8 + 4096 * pf c 0 12 12 + 65536 * (if fn = 5 then pf c 1 1 0 else 0))
  let d := wr d (Reg.SYN_PIN_OWNER j) (o.1 + 16 * o.2 + (if keep then bits old 10 8 * 256 else 0))
  let d := setFld (modPin d j (fun _ => p)) (Reg.SYN_PIN_STATUS j) 3 1 0
  if app then d else setDrive d j (some p.base)

/-- A claim of an input is accepted (R412). -/
def acceptInput (d : Device) (c : InFlight) (i j : Nat) : Device :=
  let d := claimInput d (ownerOf c.origin) i j
  wr d (Reg.SYN_PIN_CFG j) (4 + 16 * pf c 0 6 4 + 256 * pf c 0 9 8 + 4096 * pf c 0 12 12)

/-- SYNC_PIN_CLAIM (R414). -/
def opSyncPinClaim (d : Device) (c : InFlight) : Device :=
  let j := pinOfUnit (tgt c)
  let o := ownerOf c.origin
  let fn := pf c 0 2 0
  match claimBad d c with
  | some k => bad d c k
  | none =>
    if !pinFree d j o then owned d c (pinOwner d j).1 (pinOwner d j).2 (uPin j)
    else if fn = 4 && (inputMeter d j).isNone then owned d c (mtrOwner d j).1 (mtrOwner d j).2 (uSpare j)
    else if fn = 5 && shSt d (pf c 1 1 0) != 0
        && !workFits (shaftOf d (pf c 1 1 0)) (positionPins d (pf c 1 1 0) j + 1) then fail d c stNoResource
    else if appends d c j && decide (16 < pendingEdges (pinOf d j) + (timelyEdges d c).length) then fail d c stNoResource
    else if shears d then fail d c stBusy
    else if fn = 4 then ok (acceptInput d c ((inputMeter d j).getD j) j) c
    else ok (acceptOutput d c j) c

/-- SYNC_PIN_RELEASE (R414). -/
def opSyncPinRelease (d : Device) (c : InFlight) : Device :=
  let j := pinOfUnit (tgt c)
  let o := pinOwner d j
  let own := rd d (Reg.SYN_PIN_OWNER j)
  if o.1 = 0 then ok d c
  else if o ≠ ownerOf c.origin then owned d c o.1 o.2 (uPin j)
  else if bit own 10 && (meterOf d (44 + 4 * (j / 4) + bits own 9 8)).job.isSome then fail d c stBusy
  else ok (releasePin d j) c

end Sys2Proof.Machine
end

