-- ==== Sys2Proof/Machine/OpsEng.lean ====
section
/-! DEFINITION. Engines and performance counters: the applet commands, the services, the stops, and PMC_CONFIG (R443 to R460,
R499). -/

namespace Sys2Proof.Machine

/-! ### Applet engines (R443, R450) -/

/-- An applet engine's number. -/
def isApplet (e : Nat) : Bool := decide (e < 16) && e % 4 != 0

/-- The field engine that a reference names. -/
def engineOf (u : Nat) : Nat := 4 * unitBed u + unitIdx u

def feSt (d : Device) (e : Nat) : Nat := fld d (Reg.ENG_FE_STATUS e) 3 1
def setFeSt (d : Device) (e st : Nat) : Device := setFld d (Reg.ENG_FE_STATUS e) 3 1 st

/-- The applet executes: RUNNING, with no stop due. -/
def feRuns (d : Device) (e : Nat) : Bool := isApplet e && feSt d e == 3 && (applet d e).stopDue.isNone

/-- The engine's shared pages go back to the pool. -/
def freeShared (d : Device) (e : Nat) : Device :=
  let n := fld d (Reg.ENG_FE_STATUS e) 22 16
  { setFld d (Reg.ENG_FE_STATUS e) 22 16 0 with eng := { d.eng with freePages := d.eng.freePages + n } }

/-- EMPTY: no image and no pages. -/
def feEmpty (d : Device) (e : Nat) : Device :=
  setFeSt (modApplet (freeShared d e) e (fun a => { a with image := [], length := 0 })) e 0

/-! ### APPLET_LOAD, APPLET_START, APPLET_STOP (R451, R452) -/

/-- 248 KiB. -/
def localSize : Nat := 248 * 1024

/-- The piece is in LOCAL; image bytes that no piece has written are zeros (log 35). -/
def loadPiece (d : Device) (c : InFlight) (e : Nat) : Device :=
  let off := pf c 0 17 0
  let b := (bytesOf (c.pkt.words.drop 5)).take (pf c 1 12 0)
  let d := if off = 0 then setFeSt (feEmpty d e) e 1 else d
  modApplet d e (fun a =>
    { a with
      length := max a.length (off + b.length),
      image := (b.zip (upTo b.length)).foldl (fun m x => tset (fun _ => (0 : Byte)) m (off + x.2) x.1) a.image })

/-- The image as loaded. -/
def imageBytes (a : Applet) : List Byte := (upTo a.length).map (fun i => tget (fun _ => 0) a.image i)

/-- The FINAL piece: the image is checked, and its pages are taken. -/
def loadFinal (d : Device) (c : InFlight) (e : Nat) : Device :=
  let crc := crc32 (imageBytes (applet d e))
  let pages := pf c 4 6 0
  if crc ≠ pw c 3 then bad (feEmpty d e) c 3
  else if d.eng.freePages < pages then fail (feEmpty d e) c stNoResource
  else
    let d := setFeSt (setFld (wr d (Reg.ENG_FE_IMG_CRC e) crc) (Reg.ENG_FE_STATUS e) 22 16 pages) e 2
    let d := modApplet d e (fun a => { a with entry := pw c 2 })
    ok { d with eng := { d.eng with freePages := d.eng.freePages - pages } } c

/-- APPLET_LOAD. -/
def opAppletLoad (d : Device) (c : InFlight) : Device :=
  let e := engineOf (tgt c)
  let off := pf c 0 17 0
  let n := pf c 1 12 0
  let st := feSt d e
  let a := applet d e
  let length := if off = 0 then n else max a.length (off + n)
  if !isApplet e then badHeader d c
  else if st = 3 || (st == 2 && off != 0) then fail d c stBusy
  else if off % 4 ≠ 0 then bad d c 0
  else if n % 4 ≠ 0 || 4076 < n || localSize < off + n then bad d c 1
  else if off ≠ 0 && st ≠ 1 then bad d c 0
  else if pb c 0 31 && decide (length ≤ pw c 2) then bad d c 2
  else
    let d := loadPiece d c e
    if pb c 0 31 then loadFinal d c e else ok d c

/-- APPLET_START. The watchdog counts from the start. -/
def opAppletStart (d : Device) (c : InFlight) : Device :=
  let e := engineOf (tgt c)
  let st := feSt d e
  if !isApplet e || st ≤ 1 then badHeader d c
  else if st = 3 then fail d c stBusy
  else if 10000 < pf c 1 13 0 then bad d c 1
  else
    let d := wr (setFeSt d e 3) (Reg.ENG_FE_WDT e) (pf c 1 13 0)
    let d := modApplet d e (fun a => { a with arg := pw c 0, wdtAt := d.dev, waiting := none, stopDue := none })
    ok (event d (Reg.ENG_FE_EVENT e) 0) c

/-- The present engine cycle, two ticks (R28). -/
def engCycle (d : Device) : Nat := d.dev / 2

/-- APPLET_STOP. A stop that is already due keeps its reason, but for one that fell due in this very cycle (R451). -/
def opAppletStop (d : Device) (c : InFlight) : Device :=
  let e := engineOf (tgt c)
  let free := pb c 0 0
  if !isApplet e then badHeader d c
  else if feSt d e = 3 then
    modApplet (toWork d c []) e (fun a =>
      { a with stopDue := match a.stopDue with
          | some (r, f) => some (if a.stopAt = engCycle d then 1 else r, f || free)
          | none => some (1, free) })
  else ok (if free then feEmpty d e else d) c

/-- ABORT of an APPLET_STOP that has not acted: the stop is cancelled, unless another command or cause still asks for it. -/
def abortAppletStop (d : Device) (c : InFlight) : Device :=
  let e := engineOf (tgt c)
  let d := complete d c.seq stAborted [0]
  let left := (working d 0x0902).filter (fun x => x.pkt.target == c.pkt.target)
  modApplet d e (fun a =>
    { a with stopDue := match a.stopDue with
        | some (1, _) => if left.isEmpty then none else some (1, left.any (fun x => pb x 0 0))
        | s => s })

/-- The due stop acts (R409, R450, R451). -/
def appletStops (d : Device) (e : Nat) : Device :=
  match (applet d e).stopDue with
  | none => d
  | some (reason, free) =>
    let d := modApplet d e (fun a => { a with stopDue := none, waiting := none })
    let d := event (setFld (setFeSt d e 4) (Reg.ENG_FE_STATUS e) 7 4 reason) (Reg.ENG_FE_EVENT e) 1
    let d := modCmd d (fun t => { t with inflight := t.inflight.map (fun c =>
      match c.origin with
      | .applet i => if i.val = e then { c with quiet := true } else c
      | _ => c) })
    let mine (k : Nat) : Bool := match (meterOf d k).job with | some j => j.cls == 5 && j.id == e | none => false
    let d := each ((jobKeys d).filter mine) d endJob
    let d := releaseAll d (5, e)
    let cs := (working d 0x0902).filter (fun x => engineOf (tgt x) == e)
    let d := if free then feEmpty d e else d
    each cs d (fun d c => ok d c)

/-- A stop falls due, where none is. -/
def stopDue (d : Device) (e reason : Nat) : Device :=
  modApplet d e (fun a => { a with stopDue := some (reason, false), stopAt := engCycle d })

/-- ACCESS of a record (R537). -/
def accessCode : AccessKind → Nat
  | .read => 1
  | .write => 2
  | .fetch => 3

/-- A violation (R447). -/
def appletViolation (d : Device) (e addr : Nat) (k : AccessKind) : Device :=
  let d := event (wr (stopDue d e 3) (Reg.ENG_FE_FAULT_ADDR e) addr) (Reg.ENG_FE_EVENT e) 3
  occur d { cause := 0x0A, unit := uFE e, addr := addr, master := 0x50 + e, access := accessCode k }

/-- The watchdog of an applet has run out (R449). -/
def wdtOut (d : Device) (e : Nat) : Bool :=
  let ms := fld d (Reg.ENG_FE_WDT e) 13 0
  ms != 0 && decide ((applet d e).wdtAt + ms * msTicks ≤ d.dev)

/-- The watchdog expires. -/
def appletWdt (d : Device) (e : Nat) : Device :=
  occur (event (stopDue d e 2) (Reg.ENG_FE_EVENT e) 2) { cause := 0x0B, unit := uFE e }

/-! ### Services (R448, R459) -/

/-- A service answers. -/
def answer (d : Device) (e status : Nat) (ws : List Word) : Device := emit d (.service e status ws)

/-- The COMMAND service of an applet is in flight. -/
def inCommand (d : Device) (e : Nat) : Bool :=
  d.cmd.inflight.any (fun c => !c.quiet && (match c.origin with | .applet i => i.val == e | _ => false))

/-- A service call of an applet that executes and is not suspended. -/
def service (d : Device) (e : Nat) (f : Device → Device) : Device :=
  if running d && feRuns d e && (applet d e).waiting.isNone && !inCommand d e then f (pulse d (uFE e) 0x05 1) else d

/-- TIME_READ: TB0 to TB7 and CORE_TICKCNT of one tick. -/
def svcTimeRead (e : Nat) (d : Device) : Device :=
  answer d e stOk (((upTo 8).map (fun n => timeWords (tbVal d n))).flatten ++ words2 (tickcnt d))

/-- The target of a WAIT_UNTIL has come. -/
def waitOver (d : Device) : WaitTarget → Bool
  | .tick t => tickGe (tickcnt d) t.toNat
  | .time tb sec ns => decide (timeVal sec.toNat ns.toNat 0 ≤ tbVal d tb.val)

/-- The target is on an enabled time base. -/
def waitOk (d : Device) : WaitTarget → Bool
  | .tick _ => true
  | .time tb _ _ => tbEn d tb.val

/-- WAIT_UNTIL. -/
def svcWaitUntil (e : Nat) (t : WaitTarget) (d : Device) : Device :=
  if !waitOk d t then answer d e stBadParam []
  else if waitOver d t then answer d e stOk []
  else modApplet (edgePulse d (uFE e) 0x06) e (fun a => { a with waiting := some t })

/-- A suspended applet goes on. -/
def waitWake (d : Device) (e : Nat) : Device :=
  match (applet d e).waiting with
  | some t =>
    if ticking d && feRuns d e && waitOver d t then answer (modApplet d e (fun a => { a with waiting := none })) e stOk [] else d
  | none => d

/-- A frame of the host or an applet without its FCS: padded to 60 bytes, the FCS appended (log 36). -/
def withFcs (b : List Byte) : List Byte :=
  let b := b ++ List.replicate (60 - b.length) 0
  b ++ fcsBytes b

/-- FRAME_SEND. In STANDBY the frame waits for the core (R617). -/
def svcFrameSend (e : Nat) (pre : List Word) (bytes : List Byte) (d : Device) : Device :=
  let t := tagOfWords pre
  if t.tc = 7 || t.capId ≠ 0 then answer d e stBadParam []
  else if 16 ≤ (applet d e).outstanding then answer d e stBusy []
  else
    let d := answer (modApplet d e (fun a => { a with outstanding := a.outstanding + 1 })) e stOk []
    if standby d then wakeCore (modPwr d (fun p => { p with held := p.held ++ [(42 + e, pre, bytes)] }))
    else hostFrame d t (withFcs bytes) (some e)

/-- MSG_PUT. -/
def svcMsgPut (e : Nat) (ws : List Word) (d : Device) : Device :=
  if flag d (Reg.ENG_FE_MBOX_CTL e) 1 then answer d e stBusy []
  else
    let d := each (upTo 16) d (fun d w => wr d (Reg.ENG_FE_MBOX_FROM e w) (ws.getD w 0).toNat)
    answer (event (setFlag d (Reg.ENG_FE_MBOX_CTL e) 1 true) (Reg.ENG_FE_EVENT e) 4) e stOk []

/-- MSG_GET. -/
def svcMsgGet (e : Nat) (d : Device) : Device :=
  if flag d (Reg.ENG_FE_MBOX_CTL e) 0 then
    answer (setFlag d (Reg.ENG_FE_MBOX_CTL e) 0 false) e stOk ((upTo 16).map (fun w => w32 (rd d (Reg.ENG_FE_MBOX_TO e w))))
  else answer d e stNoResource []

/-- A command that the COMMAND service may issue. -/
def appletMay (opcode : Nat) (p : Pkt) : Bool :=
  match opcode with
  | 0x0100 => true
  | 0x0500 => true
  | 0x0802 => true
  | 0x0803 => true
  | 0x0700 =>
    (match keyOfMeter p.target.toNat with | some k => decide (40 ≤ k) && decide (k < 60) | none => false)
      && decide (bits (wordOf p.words 0) 3 0 ≤ 4)
  | 0x0701 => true
  | _ => false

/-- A counter's value as two words. -/
def counterWords (d : Device) (lo : Nat) : List Word := words2 (cnt d lo)

/-- PMC_READ (R459). -/
def svcPmcRead (e : Nat) (k : PmcCounter) (d : Device) : Device :=
  match k with
  | .own k => answer d e stOk (counterWords d (Reg.ENG_FE_CNT_LO e k.val))
  | .global g =>
    if flag d (Reg.PMC_G_SEL g.val) 26 then answer d e stOk (counterWords d (Reg.PMC_G_LO g.val)) else answer d e stDenied []
  | .engine i k =>
    if i.val = e then answer d e stOk (counterWords d (Reg.ENG_FE_CNT_LO e k.val)) else answer d e stDenied []

/-- WDT_KICK. -/
def svcWdtKick (e : Nat) (d : Device) : Device := answer (modApplet d e (fun a => { a with wdtAt := d.dev })) e stOk []

/-- EXIT. -/
def svcExit (e : Nat) (d : Device) : Device := stopDue d e 4

/-! ### PMC_CONFIG (R454, R458) -/

/-- An event code is defined for a source (R454). -/
def eventOk (u ev : Nat) : Bool :=
  if u = uDevice then ev == 0x50 || ev == 0x51
  else
    match unitType u with
    | 0x3 => inRange ev 0x10 0x13
    | 0x4 => inRange ev 0x01 0x06
    | 0x5 => inRange ev 0x01 0x06
    | 0x9 => inRange ev 0x20 0x22
    | 0xA => inRange ev 0x30 0x31
    | 0xE => inRange ev 0x40 0x42
    | _ => false

/-- A source that no UREAD may show: a runtime engine, ME0, ME1, a service unit. -/
def isInner (u : Nat) : Bool :=
  unitType u == 0x5 || unitType u == 0xF || (unitType u == 0x4 && unitIdx u == 0)

/-- The selection and the counter of an engine counter. -/
def engineSel (u k : Nat) : Nat × Nat :=
  if unitType u = 0x5 then (Reg.ENG_ME_CNT_SEL (unitIdx u) k, Reg.ENG_ME_CNT_LO (unitIdx u) k)
  else (Reg.ENG_FE_CNT_SEL (engineOf u) k, Reg.ENG_FE_CNT_LO (engineOf u) k)

/-- A write of PMC_SMPb_CTL, which empties the buffer (R460); in B4, ENGINES bits 2 and 3 are invalid. Which number the next
record has is free. -/
def smpWrite (d : Device) (b v : Nat) : Device :=
  let d := nextFree { d with eng := { d.eng with
    samples := tset (fun _ => []) d.eng.samples b [], smpSeq := tset (fun _ => 0) d.eng.smpSeq b (freeVal d % 65536),
    smpRun := d.eng.smpRun.filter (fun p => p.1 / 4 != b), smpStop := d.eng.smpStop.filter (fun x => x != b) } }
  wr d (Reg.PMC_SMP_CTL b) (Nat.land v 0x00030F0F)

/-- PMC_CONFIG. -/
def opPmcConfig (d : Device) (c : InFlight) : Device :=
  let k := pf c 0 7 2
  match pf c 0 1 0 with
  | 0 =>
    let u := pf c 1 15 0
    if unitInCf u || (unitBed u == 4 && unitType u == 6) then fail d c stDenied
    else if !unitValid u || !eventOk u (pf c 1 23 16) then bad d c 1
    else if pb c 1 26 && isInner u then fail d c stDenied
    else ok (setCnt (wr d (Reg.PMC_G_SEL k) (pf c 1 26 0)) (Reg.PMC_G_LO k) 0) c
  | 1 =>
    let u := pf c 1 15 0
    if unitInCf u then fail d c stDenied
    else if 3 < k then bad d c 0
    else if !unitValid u || !(unitType u == 4 || unitType u == 5) then bad d c 1
    else if !inRange (pf c 2 7 0) 0x01 0x06 then bad d c 2
    else ok (setCnt (wr d (engineSel u k).1 (pf c 2 9 0)) (engineSel u k).2 0) c
  | 2 =>
    let b := pf c 1 2 0
    if 4 < b then bad d c 1
    else if b = 4 && pf c 2 11 10 ≠ 0 then bad d c 2
    else ok (smpWrite d b (pw c 2)) c
  | _ => bad d c 0

end Sys2Proof.Machine
end

