-- ==== Sys2Proof/Machine/OpsPort.lean ====
section
/-! DEFINITION. Port and lane commands (R492, R63, R89, R90, R92, R104, R105). Each takes the command at its commit; its header
and LENGTH are already checked. -/

namespace Sys2Proof.Machine

/-- The port's MAC address is zero or a group address (R105). -/
def macBad (d : Device) (p : Nat) : Bool := portMac d p == 0 || bit (portMac d p) 40

/-- A technology or a fixed rate fits the gang width (R92). -/
def enableFits (d : Device) (p : Nat) : Bool :=
  match bringup d p with
  | 0 => true
  | 1 => portWidth d p == 1 || (portWidth d p == 4 && decide (2 ≤ rateMax d p))
  | _ => (modeOf (portWidth d p) (rateFixed d p)).isSome

/-- The port leaves DISABLED for TRAINING (R52 to R54, R77, R79, R98). -/
def portStart (d : Device) (p : Nat) : Device :=
  let d := lanesOn d p
  let d := each (portLanes d p) d (fun d n =>
    let d := setFlag d (Reg.LANE_CTL n) 0 true
    setFlag (setFlag (setFlag d (Reg.LANE_PRBS_CTL n) 0 false) (Reg.LANE_PRBS_CTL n) 4 false) (Reg.LANE_PRBS_STAT n) 0 false)
  let d := setFlag (setFlag (setFld d (Reg.PORT_STATUS p) 16 14 0) (Reg.PORT_STATUS p) 18 false) (Reg.PORT_STATUS p) 13 false
  let d := setLinkState (modPort d p (fun x => { x with okSince := none, recoverAt := none })) p 1
  match bringup d p with
  | 0 => ladderSeed d p
  | 1 => each (portLanes d p) d laneUnlock
  | _ => portRate d p (rateFixed d p) false

/-- PORT_ENABLE (R92, R105, R617). -/
def opPortEnable (d : Device) (c : InFlight) : Device :=
  let p := portOfUnit (tgt c)
  let st := portSt d p
  if absorbed d p then badHeader d c
  else if st = 5 then fail d c stBusy
  else if st ≠ 0 then ok d c
  else if macBad d p || !enableFits d p then badHeader d c
  else if !powerReady d p (bedLoad d (p / 10) + portCapacity d p) then holdForPower d c p
  else ok (portStart d p) c

/-- PORT_DISABLE (R104, R105). -/
def opPortDisable (d : Device) (c : InFlight) : Device :=
  let p := portOfUnit (tgt c)
  let tmo := pf c 0 6 0
  if absorbed d p then badHeader d c
  else if 100 < tmo then bad d c 0
  else if portSt d p = 0 then ok d c
  else if portSt d p = 5 then toWork d c [0]
  else
    let d := drainBegin (toWork d c [1]) p tmo
    if tmo = 0 then drainFinish d p else d

/-- ABORT of a PORT_DISABLE in work: the one that began the drain ends it at once (R105). -/
def abortPortDisable (d : Device) (c : InFlight) : Device :=
  let p := portOfUnit (tgt c)
  let d := complete d c.seq stAborted [0]
  if c.aux = [1] && portSt d p == 5 then drainFinish d p else d

/-- ABORT of a PORT_REGANG in step 1: its drains end at once and the old layout stays (R90). -/
def abortPortRegang (d : Device) (c : InFlight) : Device :=
  let d := complete d c.seq stAborted [0]
  each (groupPorts (unitBed (tgt c)) (pf c 0 0 0)) d (fun d p => if portSt d p = 5 then drainFinish d p else d)

/-- The words of a PORT_CONFIG's VLAN list. -/
def vlanList (c : InFlight) : List Nat := (upTo (pf c 7 9 0)).map (fun i => pw c (8 + i))

/-- The first parameter word of a PORT_CONFIG that holds an invalid value (R109, R160, R647). -/
def portConfigBad (d : Device) (c : InFlight) : Option Nat :=
  if pb c 0 0 && !portValueOk 0x004 (pw c 1) then some 1
  else if pb c 0 1 && !portValueOk 0x008 (pw c 2) then some 2
  else if pb c 0 3 && !valueOk d (Reg.CORE_PVID 0) (pw c 5) then some 5
  else if pb c 0 4 then
    firstOf (fun k => !inRange (pf c k 11 0) 1 4094) ((upTo (pf c 7 9 0)).map (fun i => 8 + i))
  else none

/-- One list word: only this port's member and untag bits change (R648). -/
def vlanBit (p : Nat) (d : Device) (w : Nat) : Device :=
  let put (m : Nat) (b : Bool) : Nat := withBits m p p (b2n b)
  modFwd d (fun f =>
    { f with vlan := tmod (fun _ => {}) f.vlan (bits w 11 0) (fun v =>
        { v with members := put v.members (bit w 12), untag := put v.untag (bit w 13) }) })

/-- PORT_CONFIG (R105, R492, R648). -/
def opPortConfig (d : Device) (c : InFlight) : Device :=
  let p := portOfUnit (tgt c)
  if absorbed d p then badHeader d c
  else if portSt d p ≠ 0 then fail d c stNotDisabled
  else
    match portConfigBad d c with
    | some k => bad d c k
    | none =>
      let d := if pb c 0 0 then wrImage d (Reg.PORT_CFG p) (pw c 1) else d
      let d := if pb c 0 1 then eligEval (wrImage d (Reg.PORT_HOLD p) (pw c 2)) p else d
      let d := if pb c 0 2 then wrImage (wrImage d (Reg.PORT_MAC_LO p) (pw c 3)) (Reg.PORT_MAC_HI p) (pw c 4) else d
      let d := if pb c 0 3 then wrImage (wrImage d (Reg.CORE_PVID p) (pw c 5)) (Reg.CORE_PMAP p) (pw c 6) else d
      let d := if pb c 0 4 then each (vlanList c) d (vlanBit p) else d
      ok d c

/-- PORTn_HOLD_LEFT: down-hold remaining, ms, rounded up (R108). -/
def holdLeft (d : Device) (p : Nat) : Nat :=
  match (portOf d p).holdEnd with
  | some t => (t - d.dev + msTicks - 1) / msTicks
  | none => 0

/-- PORT_STATUS (R492); of an absorbed port too (R89). -/
def opPortStatus (d : Device) (c : InFlight) : Device :=
  let p := portOfUnit (tgt c)
  let fom (i : Nat) : Nat := if i < portWidth d p then fld d (Reg.LANE_FOM (p + i)) 7 0 else 0
  okWith d c
    [w32 (rd d (Reg.PORT_STATUS p)), w32 (rd d (Reg.LANE_LADDER p)),
     w32 (fom 0 + 2 ^ 8 * fom 1 + 2 ^ 16 * fom 2 + 2 ^ 24 * fom 3), w32 (holdLeft d p),
     w32 (rd d (Reg.PORT_LINK_TIME_NS p)), w32 (rd d (Reg.PORT_LINK_TIME_SEC p))]

/-- LANE_LADDER (R63, R617). -/
def opLaneLadder (d : Device) (c : InFlight) : Device :=
  let p := portOfUnit (tgt c)
  let rate := pf c 0 5 4
  if absorbed d p || portSt d p == 0 || bringup d p != 0 then badHeader d c
  else if (working d 0x0204).any (fun x => portOfUnit (tgt x) == p) then fail d c stBusy
  else if pb c 0 0 && !powerReady d p (bedLoad d (p / 10) - portCapacity d p + capacity (portWidth d p) rate) then
    holdForPower d c p
  else
    let d := if pb c 0 0 then setFld d (Reg.LANE_CFG p) 5 4 rate else d
    ladderAbandon (toWork d c []) p false true

/-- PORT_REGANG (R90). -/
def opPortRegang (d : Device) (c : InFlight) : Device :=
  let b := unitBed (tgt c)
  let g := pf c 0 0 0
  let busy := (working d 0x0205).any (fun x => unitBed (tgt x) == b && pf x 0 0 0 == g)
    || (working d 0x0202).any (fun x => (groupPorts b g).contains (portOfUnit (tgt x)))
  if 4 < pf c 0 6 4 || 100 < pf c 0 14 8 then bad d c 0
  else if busy then fail d c stBusy
  else regangGo (toWork d c []) c

end Sys2Proof.Machine
end

