-- ==== Sys2Proof/Machine/OpsQueue.lean ====
section
/-! DEFINITION. Queue, gate-list and launch commands (R172 to R177, R187, R192, R494). -/

namespace Sys2Proof.Machine

/-- The output that a QUEUE_CONFIG target names: 40 for service unit 0, 41 for service unit 7; none for the pool's target (R494). -/
def queueTarget (u : Nat) : Option Nat :=
  if unitType u = 0xE then some (unitIdx u)
  else if u = uService 0 then some 40
  else if u = uService 7 then some 41
  else none

/-- A write of TENDED_SIZE is applied (R187). -/
def tendedFits (d : Device) (v : Nat) : Bool :=
  decide (d.core.tendedUsed ≤ v) && decide (v - fld d Reg.QUEG_POOL_CFG 14 0 ≤ sharedFree d)

/-- Write TENDED_SIZE, and relax the exhaustion it may end (R185, R187). -/
def setTended (d : Device) (v : Nat) : Device := poolRelax (setFld d Reg.QUEG_POOL_CFG 14 0 v)

/-- QUEUE_CONFIG of an output: the first named word with an invalid value (R194). -/
def queueBad (c : InFlight) (o : Nat) : Option Nat :=
  if pb c 0 16 then some 0
  else if pb c 0 1 && decide (o < 40) && !queValueOk 0x008 (pw c 2) then some 2
  else
    firstOf (fun k =>
      pb c 0 (2 + (k - 3) / 3) && !queValueOk (0x100 + 4 * ((k - 3) % 3)) (pw c k)) ((upTo 24).map (fun i => 3 + i))

/-- QUEUE_CONFIG of the tended pool. -/
def queuePool (d : Device) (c : InFlight) : Device :=
  let v := pf c 27 14 0
  if pf c 0 9 0 ≠ 0 then bad d c 0
  else if pb c 0 16 then
    if 16384 < v then bad d c 27
    else if tendedFits d v then ok (setTended d v) c
    else fail d c stNoResource
  else ok d c

/-- QUEUE_CONFIG (R192). -/
def opQueueConfig (d : Device) (c : InFlight) : Device :=
  match queueTarget (tgt c) with
  | none => queuePool d c
  | some o =>
    if decide (o < 40) && absorbed d o then badHeader d c
    else
      match queueBad c o with
      | some k => bad d c k
      | none =>
        if pb c 0 1 && decide (40 ≤ o) then bad d c 0
        else if pb c 0 1 && decide (o < 40) && flag d (Reg.PORT_CTL o) 0
            && fld d (Reg.QUE_TLCFG o) 14 0 != (pf c 2 2 0 + 16 * pf c 2 14 4) then fail d c stNotDisabled
        else
          let d := if pb c 0 0 then wrImage d (Reg.QUE_SCHED o) (pw c 1) else d
          let d := if pb c 0 1 then wrImage d (Reg.QUE_TLCFG o) (pw c 2) else d
          let d := each (upTo 8) d (fun d k =>
            if pb c 0 (2 + k) then
              wrImage (wrImage (wrImage d (Reg.QUE_CLS_ADM o k) (pw c (3 + 3 * k))) (Reg.QUE_CLS_QUANT o k) (pw c (4 + 3 * k)))
                (Reg.QUE_CLS_AGE o k) (pw c (5 + 3 * k))
            else d)
          ok d c

/-- Where the entries of a GATE_LIST_LOAD begin. -/
def gateBase (c : InFlight) : Nat := if pf c 0 9 0 = 0 then 6 else 1

/-- The first word of a GATE_LIST_LOAD that holds an invalid value (R172, R200). -/
def gateBad (c : InFlight) : Option Nat :=
  if pf c 0 9 0 = 0 && decide (999999999 < pw c 1) then some 1
  else if pf c 0 9 0 = 0 && !inRange (pw c 4) 1250 1250000000 then some 4
  else if pf c 0 9 0 = 0 && !inRange (pf c 5 10 0) 1 1024 then some 5
  else firstOf (fun k => !inRange (pf c k 30 0) 1 1250000000) ((upTo (pf c 0 24 16)).map (fun i => gateBase c + 2 * i))

/-- GATE_LIST_LOAD (R174, R192). -/
def opGateListLoad (d : Device) (c : InFlight) : Device :=
  let p := unitIdx (tgt c)
  let s := pf c 0 9 0
  let n := pf c 0 24 16
  let x := outOf d p
  let count := if s = 0 then pf c 5 10 0 else match x.pend with | some l => l.count | none => 0
  if absorbed d p then badHeader d c
  else
    match gateBad c with
    | some k => bad d c k
    | none =>
      if (decide (s ≠ 0) && x.pend.isNone) || decide (count < s + n) then bad d c 0
      else if x.armed.isSome then fail d c stBusy
      else
        let base : PendList :=
          match s, x.pend with
          | _ + 1, some l => l
          | _, _ => ⟨pw64 c 2 * 1000000000 + pw c 1, pw c 4, count, []⟩
        let l := { base with written := (upTo n).foldl (fun t i =>
          tset (fun _ => none) t (s + i) (some (pf c (gateBase c + 2 * i) 30 0, pf c (gateBase c + 2 * i + 1) 7 0))) base.written }
        ok (gateStatus (modOut d p (fun x => { x with pend := some l })) p) c

/-- The first time b + k·c, for an integer k, that is at or after t. -/
def firstAtOrAfter (b c t : Int) : Nat := (b + (t - b + c - 1) / c * c).toNat

/-- The change time CT (R175), in the unit of gate times. -/
def changeTime (d : Device) (p : Nat) (disable : Bool) : Nat :=
  let x := outOf d p
  let now := gNow d p
  let least := now + 10000 * gNs
  if disable then
    match x.active with
    | some l => firstAtOrAfter (l.base * gNs : Nat) (max (l.cycle * gTick) 1 : Nat) least
    | none => now
  else
    match x.pend with
    | some l =>
      if least ≤ l.base * gNs then l.base * gNs
      else firstAtOrAfter (l.base * gNs : Nat) (max (l.cycle * gTick) 1 : Nat) least
    | none => now

/-- Every entry of the pending list has been written (R174). -/
def pendValid (x : Output) : Bool :=
  match x.pend with
  | some l => l.written.length == l.count
  | none => false

/-- GATE_LIST_SWAP (R175, R192); CANCEL goes before DISABLE. -/
def opGateListSwap (d : Device) (c : InFlight) : Device :=
  let p := unitIdx (tgt c)
  let dis := pb c 0 0
  let cancel := pb c 0 1
  let x := outOf d p
  if absorbed d p then badHeader d c
  else if !dis && !cancel && !pendValid x then bad d c 0
  else if x.armed.isSome && !cancel then fail d c stBusy
  else if cancel then ok (gateStatus (modOut d p (fun x => { x with armed := none })) p) c
  else
    let ct := changeTime d p dis
    let d := gateStatus (modOut d p (fun x => { x with armed := some (ct, dis) })) p
    gateSwap (okWith d c (timeWords (ct / 25))) p

/-- TIMED_LAUNCH (R177, R192). -/
def opTimedLaunch (d : Device) (c : InFlight) : Device :=
  let r := pf c 0 7 0
  let mode := pf c 0 9 8
  if r = 0 || mode = 3 then bad d c 0
  else if mode ≠ 0 && decide (1000000000 < pw c 1) then bad d c 1
  else if mode = 2 && !inRange (pw c 2) 1000 1000000000 then bad d c 2
  else if mode = 2 && decide (pw c 2 ≤ pw c 3) then bad d c 3
  else
    let keep (v : Nat) : Nat := if mode = 0 then 0 else v
    let d := wr d (Reg.QUEG_LR_CTL r) (keep (mode + 4 * pf c 0 14 12))
    let d := wr d (Reg.QUEG_LR_DELAY r) (keep (pf c 1 29 0))
    let d := wr d (Reg.QUEG_LR_CYCLE r) (keep (pf c 2 29 0))
    ok (wr d (Reg.QUEG_LR_OFFSET r) (keep (pf c 3 29 0))) c

end Sys2Proof.Machine
end

