-- ==== Sys2Proof/Machine/OpsTrellis.lean ====
section
/-! DEFINITION. Trellis commands and the claims of spare meters (R287, R293, R302, R303, R305, R408 to R412, R496). -/

namespace Sys2Proof.Machine

/-! ### Cross-check claims (R287) -/

/-- Whether words of an entry ask for a cross-check meter. -/
def wantsXchk (ws : List Nat) : Bool := bit (ws.getD 0 0) 0 && bits (ws.getD 0 0) 3 1 == 0 && bit (ws.getD 0 0) 18

/-! ### Words of an entry (R293) -/

/-- The defined bits of word k of an entry. -/
def candMask (k : Nat) : Nat :=
  match k with
  | 0 => 0x0007F3FF
  | 1 => 0x000FFFFF
  | 2 => 0x000FFFFF
  | 3 => 0x0FFF03FF
  | 4 => 0xFFFF3FFF
  | 5 => 0xFFFF03FF
  | 6 => 0xBFFFFFFF
  | _ => 0x00FFFFFF

/-- The first word of a valid entry that breaks R293. -/
def candBad (ws : List Nat) : Option Nat :=
  let w (k : Nat) : Nat := ws.getD k 0
  let ty := bits (w 0) 3 1
  let ix := bits (w 0) 9 4
  let fr := bits (w 6) 29 0
  let refin := ty == 2
  let ixMax := if ty ≤ 1 then 39 else if refin then 3 else 0
  if !bit (w 0) 0 then none
  else if 3 < ty || ixMax < ix || (bit (w 0) 17 && refin && fr != 1) || (bit (w 0) 18 && ty != 0) then some 0
  else if !inRange (bits (w 1) 19 0) 1 200000 then some 1
  else if !inRange (bits (w 2) 19 0) (bits (w 1) 19 0) 200000 then some 2
  else if !inRange (bits (w 3) 9 0) 1 1000 || decide (3600 < bits (w 3) 27 16) then some 3
  else if decide (10000 < bits (w 4) 13 0) || bits (w 4) 31 16 == 0 then some 4
  else if !inRange (bits (w 5) 9 0) 10 1000 then some 5
  else if refin && !(fr == 1 || inRange fr 1000 800000000) then some 6
  else if !refin && (fr != 0 || bit (w 6) 31) then some 6
  else if !refin && bits (w 7) 23 0 != 0 then some 7
  else none

/-- Words of entry e of side x as the table holds them. -/
def candWords (d : Device) (x e : Nat) : List Nat := (upTo 8).map (fun k => rd d (Reg.TRL_CAND_W x e k))

/-! ### TRELLIS_TABLE_LOAD -/

/-- The sides a command names (R496). -/
def sidesOf (c : InFlight) : List Nat := (upTo 2).filter (fun x => pb c 0 x)

/-- The entries of the mask, ascending. -/
def loadMask (c : InFlight) : List Nat := (upTo 16).filter (fun e => pb c 0 (16 + e))

/-- Where the words of a masked entry begin in the packet. -/
def loadAt (c : InFlight) (e : Nat) : Nat := 1 + 8 * ((loadMask c).filter (fun k => decide (k < e))).length

/-- The words a load brings for a masked entry. -/
def loadWords (c : InFlight) (e : Nat) : List Nat :=
  (upTo 8).map (fun k => Nat.land (pw c (loadAt c e + k)) (candMask k))

/-- Words of entry e in the table that the load would leave on side x. -/
def leftWords (d : Device) (c : InFlight) (x e : Nat) : List Nat :=
  if pb c 0 (16 + e) then loadWords c e else candWords d x e

/-- TYPE and INDEX of words. -/
def candName (ws : List Nat) : Nat := bits (ws.getD 0 0) 9 4 * 8 + bits (ws.getD 0 0) 3 1

/-- The words name an absorbed port. -/
def namesAbsorbed (d : Device) (ws : List Nat) : Bool :=
  decide (bits (ws.getD 0 0) 3 1 ≤ 1) && absorbed d (bits (ws.getD 0 0) 9 4)

/-- The parameter word at fault in a load (R305): a broken entry, an absorbed port, or two entries of one name. A fault of an
entry outside the mask names word 0. -/
def loadBad (d : Device) (c : InFlight) (x : Nat) : Option Nat :=
  let at_ (e k : Nat) : Nat := if pb c 0 (16 + e) then loadAt c e + k else 0
  let entry (e : Nat) : Option Nat :=
    let ws := leftWords d c x e
    if !bit (ws.getD 0 0) 0 then none
    else
      match candBad ws with
      | some k => some (at_ e k)
      | none =>
        if namesAbsorbed d ws then some (at_ e 0)
        else if (upTo e).any (fun k =>
            bit ((leftWords d c x k).getD 0 0) 0 && candName (leftWords d c x k) == candName ws) then some (at_ e 0)
        else none
  (upTo 16).foldl (fun (b : Option Nat) e => match b with | some k => some k | none => entry e) none

/-- The cross-check meter of an entry that the load takes away (R287). -/
def loadRelease (c : InFlight) (x : Nat) (d : Device) (e : Nat) : Device :=
  let old := candWords d x e
  let new := loadWords c e
  if wantsXchk old && !(wantsXchk new && candName new == candName old) then
    match xchkMeter d x (bits (old.getD 0 0) 9 4) with
    | some i => setFlag (freeMeter d i) (Reg.TRL_CAND_STATUS x e) 7 false
    | none => d
  else d

/-- The claims of a load, in turn: the device with them, or the bed whose meters do not suffice. -/
def loadClaim (c : InFlight) (a : Device × Option Nat) (p : Nat × Nat) : Device × Option Nat :=
  let (d, bad) := a
  let (x, e) := p
  let new := loadWords c e
  let lane := bits (new.getD 0 0) 9 4
  if bad.isSome || !wantsXchk new || (xchkMeter d x lane).isSome then a
  else
    match freeSpare d (lane / 10) with
    | some i =>
      (setFlag (wr d (Reg.SYN_MTR_OWNER i) (3 + 16 * x + 256 * 4 + 4096 * (lane % 10))) (Reg.TRL_CAND_STATUS x e) 7 true, none)
    | none => (d, some (lane / 10))

/-- Load one entry of a side (R302): a change of TYPE, INDEX or VALID ends the candidate that was there, as a loss of presence;
another change lets it keep its state and timers. -/
def loadEntry (c : InFlight) (x : Nat) (d : Device) (e : Nat) : Device :=
  let old := candWords d x e
  let new := loadWords c e
  let v := bit (new.getD 0 0) 0
  let changed := bit (old.getD 0 0) 0 != v || (v && candName old != candName new)
  let hold := bits (old.getD 4 0) 13 0
  let d := each (upTo 8) d (fun d k => wr d (Reg.TRL_CAND_W x e k) (new.getD k 0))
  if !changed then d
  else
    let d := if sideSt d x = 1 && selOf d x == e && decide (0 < hold) then enterSide d x 2 else d
    let d := wr (wr d (Reg.TRL_CAND_FOFF_LO x e) 0) (Reg.TRL_CAND_FOFF_HI x e) 0
    let d := modCand (wr d (Reg.TRL_CAND_DRIFT x e) 0) x e (fun _ => { winAt := d.tick })
    if v then enterCand d x e 1 0 else enterCand d x e 0 0

/-- TRELLIS_TABLE_LOAD (R302, R305). -/
def opTrellisTableLoad (d : Device) (c : InFlight) : Device :=
  let xs := sidesOf c
  let bad_ := xs.foldl (fun (b : Option Nat) x => match b with | some k => some k | none => loadBad d c x) none
  if xs.isEmpty then bad d c 0
  else
    match bad_ with
    | some k => bad d c k
    | none =>
      let pairs := (xs.map (fun x => (loadMask c).map (fun e => (x, e)))).flatten
      let d1 := each pairs d (fun d p => loadRelease c p.1 d p.2)
      let r := pairs.foldl (loadClaim c) (d1, none)
      match r.2 with
      | some b =>
        let o := mtrOwner r.1 (4 * b)
        owned d c o.1 o.2 (uSpare (4 * b))
      | none => ok (each pairs r.1 (fun d p => loadEntry c p.1 d p.2)) c

/-! ### TRELLIS_FORCE (R299, R303) -/

/-- A side leaves MANUAL: its word is clamped to ±200 ppm, and it goes to BRIDGE, or under mode 2 to HOLDOVER (R299, R305). -/
def leaveManual (d : Device) (x mode : Nat) : Device :=
  let v := dcoWord d x
  let d := if clampTo ppm200 v = v then d else setDco (event d (Reg.TRL_EVENT x) 8) x (clampTo ppm200 v)
  if mode = 2 then enterSide d x 5
  else toBridge d x ((bestOf d x).getD (targetOf d x)) (if mode = 1 then 3 else 5)

/-- The mode of R303 is put in force on a side; what it changes beside MANUAL follows at the next update. -/
def forceSide (mode entry : Nat) (d : Device) (x : Nat) : Device :=
  let was := sideSt d x
  let d := setFld (setFld d (Reg.TRL_CTL x) 5 4 mode) (Reg.TRL_CTL x) 11 8 (if mode = 1 then entry else 0)
  let d := if mode = 1 then modTrl d x (fun t => { t with cause := 3 }) else d
  if mode = 3 then
    if was = 6 then d else modTrl (setFld d (Reg.TRL_STATUS x) 2 0 6) x (fun t => { t with acqAt := none, enteredAt := d.tick })
  else if was = 6 then leaveManual d x mode
  else d

/-- TRELLIS_FORCE (R303, R305). -/
def opTrellisForce (d : Device) (c : InFlight) : Device :=
  let xs := sidesOf c
  let mode := pf c 0 5 4
  let e := pf c 0 11 8
  if xs.isEmpty then bad d c 0
  else if mode = 1 && xs.any (fun x => candSt d x e != 3 && candSt d x e != 4) then fail d c stNoResource
  else ok (each xs d (forceSide mode e)) c

/-! ### TRELLIS_STATUS and DCO_STEER -/

/-- BW_CUR in 0.1 mHz (R295, R308); outside LOCKED, HOLDOFF, BRIDGE and ACQUIRE no interval bounds it. -/
def bwCur (d : Device) (x : Nat) : Nat :=
  match sideSt d x with
  | 1 => bandEff d x (selOf d x) / 100000000
  | 2 => bandEff d x (selOf d x) / 100000000
  | 3 => bandEff d x (targetOf d x) / 100000000
  | 4 => bandEff d x (targetOf d x) / 100000000
  | _ => min (bandNow d x / 65536) 1000000

/-- TIMER of a candidate: seconds left of QUAL_TIME or WTR, rounded up (R308). -/
def candTimer (d : Device) (x e : Nat) : Nat :=
  let c := candOf d x e
  let left (at_ : Nat) (n : Nat) : Nat := (at_ + n - d.tick + secTicks - 1) / secTicks
  match candSt d x e with
  | 2 => match c.softAt with | some t => left t (qualTicks d x e) | none => 0
  | 4 =>
    match c.hardAt, c.softAt with
    | some t, _ => left t (cw d x e 3 9 0 * secTicks)
    | none, some t => left t (cw d x e 3 9 0 * secTicks)
    | none, none => 0
  | 6 => left c.wtrAt (cw d x e 3 27 16 * secTicks)
  | _ => 0

/-- TRLx_CANDe_STATUS as it reads. -/
def candStatus (d : Device) (x e : Nat) : Nat := withBits (rd d (Reg.TRL_CAND_STATUS x e)) 27 16 (candTimer d x e)

/-- Δ in 2^-16 ns, 64 bits (R308). -/
def deltaReg (d : Device) (x : Nat) : Nat := unsigned 64 ((trlOf d x).delta / (2 ^ 32 : Nat))

/-- The 27 words of a side (R496). -/
def trellisWords (d : Device) (x : Nat) : List Word :=
  [w32 (rd d (Reg.TRL_STATUS x)), w32 (bwCur d x), w32 (rd d (Reg.TRL_DCO_LO x)), w32 (rd d (Reg.TRL_DCO_HI x))]
    ++ words2 (deltaReg d x)
    ++ [w32 (rd d (Reg.TRL_TE_LO x)), w32 (rd d (Reg.TRL_TE_HI x)), w32 (rd d (Reg.TRL_MODEL_Y_LO x)),
        w32 (rd d (Reg.TRL_MODEL_Y_HI x)), w32 (rd d (Reg.TRL_MODEL_A x))]
    ++ (upTo 16).map (fun e => w32 (candStatus d x e))

/-- TRELLIS_STATUS (R305, R496). -/
def opTrellisStatus (d : Device) (c : InFlight) : Device :=
  if (sidesOf c).isEmpty then bad d c 0 else okWith d c ((sidesOf c).map (trellisWords d)).flatten

/-- ±500 ppm in 10^-15. -/
def ppm500 : Nat := 500000000000

/-- DCO_STEER (R296, R305). -/
def opDcoSteer (d : Device) (c : InFlight) : Device :=
  let xs := sidesOf c
  let v := signed 48 (pw c 1 + 2 ^ 32 * pf c 2 15 0)
  let word (x : Nat) : Int := if pb c 0 4 then dcoWord d x + v else v
  if xs.isEmpty then bad d c 0
  else if xs.any (fun x => sideSt d x != 6) then fail d c stNotDisabled
  else if xs.any (fun x => decide (ppm500 < (word x).natAbs)) then bad d c 1
  else ok (each xs d (fun d x => setDco d x (word x))) c

end Sys2Proof.Machine
end

