-- ==== Sys2Proof/Machine/AbortOps.lean ====
section
/-! DEFINITION. What stopping a command in work does, by command; ABORT; the end of work by TIMEOUT; the resets of rings and
mailbox (R476 to R478, R483). -/

namespace Sys2Proof.Machine

/-! ### Work that is stopped (R478) -/

/-- An IMAGE_WRITE in programming. -/
def programming (c : InFlight) : Bool := c.opcode == 0x0D00 && c.aux == [1]

/-- The remaining work of a command stops, by its chapter's rule, and the command completes with ABORTED where it has not
completed already. A Cold Frame request that its engines have decided goes on, but for an image piece in programming
(log 26). -/
def abortWork (d : Device) (c : InFlight) : Device :=
  if c.pkt.part = 2 then
    if cfUndecided d c then complete (cfWithdraw d c) c.seq stAborted [0]
    else if programming c then complete (imageStopped d c) c.seq stAborted [0]
    else d
  else
    match c.opcode with
    | 0x0202 => abortPortDisable d c
    | 0x0205 => abortPortRegang d c
    | 0x0502 => abortTbStep d c
    | 0x0700 => abortMeasJob d c
    | 0x0902 => abortAppletStop d c
    | 0x0B02 => abortJoin d c
    | 0x0B03 => abortHandover d c
    | 0x0C01 => abortBankRestore d c
    | 0x0D00 => complete (imageStopped d c) c.seq stAborted [0]
    | _ => complete d c.seq stAborted [0]

/-- An ABORT meets a victim. -/
def abortOne (d : Device) (v : InFlight) : Device :=
  match v.stage with
  | .wait => complete d v.seq stAborted [0]
  | .work => abortWork d v
  | .done => d

/-! ### ABORT (R477) -/

/-- The victims that ABORT with ALL has, of its own origin. -/
def abortAll (d : Device) (o : Origin) (seq : Nat) : List InFlight :=
  d.cmd.inflight.filter (fun v => v.origin == o && v.seq != seq && v.opcode != 0x0110)

/-- ABORT, at its acceptance. It is in flight itself, so its own tag names an ABORT (R471; log 26). -/
def opAbort (d : Device) (c : InFlight) : Device :=
  if pb c 0 16 then
    let vs := abortAll d c.origin c.seq
    okWith (each vs d abortOne) c [w32 vs.length]
  else
    match d.cmd.inflight.find? (fun v => v.origin == c.origin && v.pkt.tag.toNat == pf c 0 9 0) with
    | none => okWith d c [0]
    | some v =>
      if v.opcode = 0x0110 then bad d c 0
      else if v.stage = .done then okWith d c [w32 (1 + 2 ^ 16 * v.status)]
      else
        let d := abortOne d v
        match inflightOf d v.seq with
        | some x =>
          if x.stage = .done then okWith d c [w32 (1 + 2 ^ 16 * x.status)]
          else toWork d c [(v.seq : Int)]
        | none => okWith d c [w32 (1 + 2 ^ 16 * stAborted)]

/-! ### TIMEOUT (R476) -/

/-- A command in work that no limit binds. -/
def timeExempt (c : InFlight) : Bool :=
  (c.opcode == 0x0502 && inRange (pf c 0 9 8) 1 2) || c.opcode == 0x0B02 || c.opcode == 0x0D00

/-- The limit of a command in work has passed. -/
def timedOut (d : Device) (c : InFlight) : Bool :=
  c.stage == .work && !timeExempt c && decide (c.at_ + fld d Reg.CMD_CFG 29 16 * msTicks ≤ d.dev)

/-- A command in work is stopped and completes with TIMEOUT: its fault is on the command front end, service unit 0. -/
def timeOut (d : Device) (c : InFlight) : Device :=
  let d := abortWork (complete d c.seq stTimeout [0]) c
  let d := abortWaiters d c.seq stTimeout
  occur (event (bump d (Reg.CMD_CNT 5)) Reg.CMD_EVENT 4) { cause := 0x09, unit := uService 0 }

/-! ### Resets of rings and mailbox (R483, R613) -/

/-- Every command of an origin is aborted as by ABORT with ALL and its reply is discarded. -/
def dropOrigin (d : Device) (o : Origin) : Device :=
  let d := modCmd d (fun t =>
    { t with
      inflight := (t.inflight.filter (fun c => decide (c.origin ≠ o) || c.stage != .done)).map (fun c =>
        if c.origin = o then { c with quiet := true } else c) })
  each (abortAll d o d.cmd.nextSeq) d abortOne

/-- A ring's bytes in BAR2 are cleared. -/
def clearBar (d : Device) (k : Nat) : Device :=
  modCmd d (fun t => { t with bar2 := t.bar2.filter (fun e => decide (e.1 / 0x20000 ≠ k)) })

/-- RESET of ring k (R483). -/
def ringReset (d : Device) (k : Fin 4) : Device :=
  let d := clearBar (dropOrigin d (.ring k)) k
  let d := wr (wr (wr (wr d (Reg.CMD_SQ_TAIL k) 0) (Reg.CMD_SQ_HEAD k) 0) (Reg.CMD_CQ_TAIL k) 0) (Reg.CMD_CQ_HEAD k) 0
  let d := setFlag d (Reg.CMD_RING_STATUS k) 0 false
  modCmd d (fun t => { t with unsig := tset (fun _ => (0, 0)) t.unsig k (0, 0) })

/-- The mailbox reset as a ring. -/
def mailboxReset (d : Device) : Device := modCmd (dropOrigin d .spi) (fun t => { t with mbxIn := [], mbxRead := 0 })

/-- The rings. -/
def rings : List (Fin 4) := [0, 1, 2, 3]

end Sys2Proof.Machine
end

