-- ==== Sys2Proof/Machine/OpsDev.lean ====
section
/-! DEFINITION. The device opcodes (R491): DEV_INFO, FUNCTION_RESET, SET_LATENCY_TOLERANCE, FENCE (R475, R607, R613, R614). -/

namespace Sys2Proof.Machine

/-- GLB_ID (R8, R524): device, revision B1, variant. -/
def idWord (d : Device) : Nat := 0x7340 + 2 ^ 16 * 0x21 + 2 ^ 24 * b2n d.fuse.ma

/-- DEV_INFO. -/
def opDevInfo (d : Device) (c : InFlight) : Device :=
  okWith d c ([w32 (idWord d)] ++ words2 d.fuse.serial ++ [w32 (rd d Reg.GLB_FW_VER), w32 (rd d Reg.GLB_FW_CHK)])

/-- The PCIe function is reset: its configuration space, with the MSI-X mask and pending bits (R610, R613). -/
def functionReset (d : Device) : Device := modBus d (fun b => { b with msixMask := 0, msixPend := 0 })

/-- FUNCTION_RESET: it completes, and the named rings, the mailbox and the function are reset; on a transport that is
reset its reply is discarded with the others (R483). -/
def opFunctionReset (d : Device) (c : InFlight) : Device :=
  let ks := if pb c 0 5 then rings else rings.filter (fun k => pb c 0 k.val)
  let own : Bool := match c.origin with
    | .ring k => ks.contains k
    | .spi => pb c 0 4
    | _ => false
  let d := ok (modInflight d c.seq (fun c => { c with quiet := own })) c
  let d := each ks d ringReset
  let d := if pb c 0 4 then mailboxReset d else d
  if pb c 0 5 then functionReset d else d

/-- SET_LATENCY_TOLERANCE (R614): the lanes of the port follow at once (R615). -/
def opSetLatencyTolerance (d : Device) (c : InFlight) : Device :=
  if tgt c = uDevice then
    if 0xFFFFF < pw c 0 then bad d c 0 else ok (wr d Reg.GLB_LT_DEV (pw c 0)) c
  else
    let p := portOfUnit (tgt c)
    if absorbed d p then badHeader d c
    else if 0xFFFFF < pw c 0 then bad d c 0
    else ok (each (portLanes d p) (wr d (Reg.GLB_LT_PORT p) (pw c 0)) lanePower) c

/-- FENCE, when its fence wait ends. -/
def opFence (d : Device) (c : InFlight) : Device := ok d c

end Sys2Proof.Machine
end

