-- ==== Sys2Proof/Machine/Front.lean ====
section
/-! DEFINITION. The command front end: header checks, acceptance by transport, fence wait, commit, and the dispatch by opcode
(R464 to R475, R480 to R490, R607, R617). -/

namespace Sys2Proof.Machine

/-! ### Packets (R464, R465) -/

/-- The words of a packet. -/
def packetWords (opcode : Nat) (p : Pkt) : List Word :=
  [w32 (opcode + 2 ^ 16 * p.tag.toNat),
   w32 (b2n p.fenceBefore + 2 * b2n p.fenceAfter + 4 * b2n p.chain + 8 * b2n p.reply + 16 * p.part.toNat + 2 ^ 16 * p.target.toNat),
   w32 (min p.words.length 2047), p.cookie] ++ p.words

/-- LENGTH of a packet. -/
def lengthOf (ws : List Word) : Nat := bits (ws.getD 2 0).toNat 10 0

/-- Opcode and packet of words: reserved bits are ignored. -/
def packetOf (ws : List Word) : Nat × Pkt :=
  let a := (ws.getD 0 0).toNat
  let b := (ws.getD 1 0).toNat
  (bits a 15 0,
   { tag := BitVec.ofNat 10 (bits a 25 16), fenceBefore := bit b 0, fenceAfter := bit b 1, chain := bit b 2, reply := bit b 3,
     part := BitVec.ofNat 2 (bits b 5 4), target := BitVec.ofNat 16 (bits b 31 16), cookie := ws.getD 3 0,
     words := (ws.drop 4).take (lengthOf ws) })

/-! ### Header checks (R468, R469) -/

/-- An opcode of the tables. -/
def opcodeKnown (o : Nat) : Bool :=
  [0x0100, 0x0101, 0x0102, 0x0110, 0x0111, 0x0200, 0x0201, 0x0202, 0x0203, 0x0204, 0x0205, 0x0300, 0x0301, 0x0302, 0x0303,
   0x0400, 0x0401, 0x0402, 0x0403, 0x0500, 0x0501, 0x0502, 0x0503, 0x0504, 0x0505, 0x0600, 0x0601, 0x0602, 0x0603, 0x0700,
   0x0701, 0x0702, 0x0703, 0x0800, 0x0801, 0x0802, 0x0803, 0x0900, 0x0901, 0x0902, 0x0903, 0x0A00, 0x0A01, 0x0A02, 0x0B00,
   0x0B01, 0x0B02, 0x0B03, 0x0C00, 0x0C01, 0x0D00, 0x0D01].contains o

/-- An opcode whose partition and target go by its slot (R468, R500). -/
def isImage (o : Nat) : Bool := o == 0x0D00 || o == 0x0D01

/-- PART fits the opcode's partition; of an IMAGE command that names no slot of R500, either (log 26). -/
def partFits (c : InFlight) : Bool :=
  let part := c.pkt.part.toNat
  if isImage c.opcode then
    if plen c = 0 || 3 < pf c 0 2 0 then part == 0 || part == 2
    else part == (if pf c 0 2 0 < 2 then 0 else 2)
  else
    part == (if c.opcode / 256 = 0x0A then 1
      else if c.opcode = 0x0702 || c.opcode = 0x0703 then 2
      else if c.opcode / 2 = 0x0380 && unitInCf (tgt c) then 2 else 0)

/-- The partition rules of R468. -/
def partOk (d : Device) (c : InFlight) : Bool :=
  partFits c && !(unitInCf (tgt c) && c.pkt.part != 2) && (d.fuse.ma || c.pkt.part != 2)

def isPort (u : Nat) : Bool := unitType u == 2
def isEgress (u : Nat) : Bool := unitType u == 0xE && unitBed u == 4
def isMeter (u : Nat) : Bool := unitType u == 7

/-- TARGET is of the kind that the opcode's table names. -/
def targetKind (c : InFlight) : Bool :=
  let u := tgt c
  match c.opcode with
  | 0x0102 => u == uDevice || isPort u
  | 0x0205 => unitType u == 0 && decide (unitBed u < 4)
  | 0x0400 => isEgress u || u == uService 0 || u == uService 7 || u == uBed 4
  | 0x0403 => u == uBed 4
  | 0x0504 => isPort u
  | 0x0505 => isPort u
  | 0x0600 => u == uDevice
  | 0x0700 => isMeter u
  | 0x0701 => isMeter u
  | 0x0702 => u == uCE 0
  | 0x0703 => u == uCE 0
  | 0x0802 => unitType u == 8
  | 0x0803 => unitType u == 8
  | 0x0903 => u == uDevice
  | o =>
    if isImage o then u == (if c.pkt.part = 2 then uCE 0 else uDevice)
    else
      match o / 256 with
      | 0x01 => u == uDevice
      | 0x02 => isPort u
      | 0x03 => u == uDevice
      | 0x04 => isEgress u
      | 0x05 => u == uBed 4
      | 0x06 => u == uBed 4
      | 0x08 => unitType u == 4 && unitIdx u == 0
      | 0x09 => unitType u == 4
      | 0x0A => u == uService 6
      | 0x0B => u == uService 7
      | _ => unitType u == 9

/-- How the LENGTH check ends: allowed, or BAD_PARAM with this DETAIL. -/
abbrev LengthFault := Option Nat

/-- The number of parameter words must be one of these. -/
def needs (c : InFlight) (ns : List Nat) : LengthFault := if ns.contains (plen c) then none else some 0xFFF

/-- A field in word k fixes the number: too short to hold it is not allowed; out of its range names k. -/
def needsField (c : InFlight) (k : Nat) (inRange_ : Bool) (ns : List Nat) : LengthFault :=
  if plen c ≤ k then some 0xFFF else if !inRange_ then some k else needs c ns

/-- How many bits of a mask are set. -/
def popcount (v : Nat) : Nat := ((upTo 32).filter (bit v)).length

/-- LENGTH of the forwarding opcodes (R493). -/
def fwdLength (c : InFlight) : LengthFault :=
  match c.opcode with
  | 0x0300 =>
    let del := pb c 0 2
    match pf c 0 1 0 with
    | 0 => needsField c 0 true (if del then [3, 4] else [4])
    | 1 => needsField c 0 true (if del then [2, 8] else [8])
    | 2 => needsField c 0 true (if del then [2, 18] else [18])
    | _ => needsField c 0 false []
  | 0x0301 => needs c [2]
  | 0x0302 =>
    match pf c 0 2 0 with
    | 0 => needsField c 0 true [6]
    | 1 => needsField c 0 true [3]
    | 2 => needsField c 5 (inRange (pf c 5 22 16) 1 64) [6 + 2 * pf c 5 22 16]
    | 3 => needsField c 0 true [6]
    | 4 => needsField c 0 true [2]
    | 5 => needsField c 0 true [4]
    | _ => needsField c 0 false []
  | _ => needs c [3]

/-- LENGTH of the shaft and pin opcodes (R498). -/
def synLength (c : InFlight) : LengthFault :=
  match c.opcode with
  | 0x0800 =>
    match pf c 0 2 0 with
    | 0 => needsField c 0 true [15]
    | 1 => needsField c 1 (inRange (pf c 1 4 0) 1 16) [2 + 7 * pf c 1 4 0]
    | 2 => needsField c 1 (inRange (pf c 1 24 16) 1 113) [2 + 9 * pf c 1 24 16]
    | 3 => needsField c 4 (inRange (pf c 4 8 0) 1 336) [9 + 3 * pf c 4 8 0]
    | 4 => needsField c 4 (inRange (pf c 4 7 0) 60 252) [5 + (pf c 4 7 0 + 3) / 4]
    | 7 => needsField c 0 true [1]
    | _ => needsField c 0 false []
  | 0x0801 => needs c [8]
  | 0x0802 =>
    match pf c 0 2 0 with
    | 1 => needsField c 1 (inRange (pf c 1 4 0) 1 16) [2 + 4 * pf c 1 4 0]
    | 2 => needsField c 0 true [10]
    | 3 => needsField c 0 true [4]
    | 4 => needsField c 0 true [1]
    | 5 => needsField c 0 true [9]
    | _ => needsField c 0 false []
  | _ => needs c [0]

/-- Step 5 of R469. -/
def lengthFault (c : InFlight) : LengthFault :=
  match c.opcode with
  | 0x0101 => needs c [1]
  | 0x0102 => needs c [1]
  | 0x0110 => needs c [1]
  | 0x0200 =>
    if plen c ≤ 7 then some 0xFFF
    else if pb c 0 4 then needsField c 7 (decide (pf c 7 9 0 ≤ 1000)) [8 + pf c 7 9 0] else needs c [8]
  | 0x0202 => needs c [1]
  | 0x0204 => needs c [1]
  | 0x0205 => needs c [1]
  | 0x0400 => needs c [28]
  | 0x0401 =>
    needsField c 0 (inRange (pf c 0 24 16) 1 480) [(if pf c 0 9 0 = 0 then 6 else 1) + 2 * pf c 0 24 16]
  | 0x0402 => needs c [1]
  | 0x0403 => needs c [4]
  | 0x0500 => needs c [1]
  | 0x0501 => needs c [5]
  | 0x0502 => needs c [10]
  | 0x0503 => needs c [3]
  | 0x0504 => needs c [5]
  | 0x0505 => needs c [6]
  | 0x0600 => needsField c 0 true [1 + 8 * popcount (pf c 0 31 16)]
  | 0x0601 => needs c [1]
  | 0x0602 => needs c [1]
  | 0x0603 => needs c [3]
  | 0x0700 => needs c [11]
  | 0x0701 => needs c [1]
  | 0x0703 => needs c [2]
  | 0x0900 => needsField c 1 (pf c 1 12 0 % 4 == 0 && decide (pf c 1 12 0 ≤ 4076)) [5 + pf c 1 12 0 / 4]
  | 0x0901 => needs c [2]
  | 0x0902 => needs c [1]
  | 0x0903 => needsField c 0 (decide (pf c 0 1 0 ≠ 3)) [if pf c 0 1 0 = 0 then 2 else 3]
  | 0x0A00 => needs c [2]
  | 0x0A01 => needs c [1]
  | 0x0A02 => needs c [3]
  | 0x0B01 => needs c [1]
  | 0x0B02 => needs c [1]
  | 0x0B03 => needs c [1]
  | 0x0D00 => needsField c 2 (decide (pf c 2 12 0 ≤ 4084)) [3 + (pf c 2 12 0 + 3) / 4]
  | 0x0D01 => needsField c 0 true (if pb c 0 8 then [2] else [1])
  | o =>
    if o / 256 = 0x03 then fwdLength c
    else if o / 256 = 0x08 then synLength c
    else needs c [0]

/-- The first failing check of R469, as status and DETAIL; dup is whether step 1 fails. ABORT's flags are ignored (R477), and
FENCE has FENCE_BEFORE whatever its flags say (R475). -/
def headerFault (d : Device) (c : InFlight) (dup : Bool) : Option (Nat × Nat) :=
  if dup then some (stBadParam, 0x1FFF)
  else if c.pkt.reply || (c.pkt.chain && !fencesBefore c && c.opcode != 0x0110) || c.pkt.part == 3 || !opcodeKnown c.opcode then
    some (stBadParam, 0xFFF)
  else if !partOk d c then some (stDenied, 0)
  else if !unitValid (tgt c) || !targetKind c then some (stBadParam, 0xFFF)
  else (lengthFault c).map (fun k => (stBadParam, k))

/-! ### Commit (R472, R607) -/

/-- A command that recovery carries out (R607). -/
def inRecovery (opcode : Nat) : Bool := opcode == 0x0100 || opcode == 0x0101 || isImage opcode

/-- ME0 runs from its boot ROM (R607). -/
def recovery (d : Device) : Bool := flag d Reg.GLB_PWR_STATUS 1

/-- The command's own rule, by opcode. -/
def carryOut (d : Device) (c : InFlight) : Device :=
  match c.opcode with
  | 0x0100 => opDevInfo d c
  | 0x0101 => opFunctionReset d c
  | 0x0102 => opSetLatencyTolerance d c
  | 0x0111 => opFence d c
  | 0x0200 => opPortConfig d c
  | 0x0201 => opPortEnable d c
  | 0x0202 => opPortDisable d c
  | 0x0203 => opPortStatus d c
  | 0x0204 => opLaneLadder d c
  | 0x0205 => opPortRegang d c
  | 0x0300 => opFdbWrite d c
  | 0x0301 => opFdbRead d c
  | 0x0302 => opStreamIdWrite d c
  | 0x0303 => opMcastGroupWrite d c
  | 0x0400 => opQueueConfig d c
  | 0x0401 => opGateListLoad d c
  | 0x0402 => opGateListSwap d c
  | 0x0403 => opTimedLaunch d c
  | 0x0500 => opTbRead d c
  | 0x0501 => opTbSet d c
  | 0x0502 => opTbStep d c
  | 0x0503 => opTbSetIncr d c
  | 0x0504 => opPtpPortConfig d c
  | 0x0505 => opAsymSet d c
  | 0x0600 => opTrellisTableLoad d c
  | 0x0601 => opTrellisForce d c
  | 0x0602 => opTrellisStatus d c
  | 0x0603 => opDcoSteer d c
  | 0x0700 => opMeasJobStart d c
  | 0x0701 => opMeasResult d c
  | 0x0800 => opShaftConfig d c
  | 0x0801 => opShaftMotion d c
  | 0x0802 => opSyncPinClaim d c
  | 0x0803 => opSyncPinRelease d c
  | 0x0900 => opAppletLoad d c
  | 0x0901 => opAppletStart d c
  | 0x0902 => opAppletStop d c
  | 0x0903 => opPmcConfig d c
  | 0x0A00 => opFaultRead d c
  | 0x0A01 => opFaultAck d c
  | 0x0A02 => opFaultInjectArm d c
  | 0x0B00 => opClaimStatus d c
  | 0x0B01 => opSidePrefer d c
  | 0x0B02 => opGraftJoin d c
  | 0x0B03 => opGraftLeave d c
  | 0x0C00 => opBankRetire d c
  | 0x0C01 => opBankRestore d c
  | 0x0D00 => opImageWrite d c
  | 0x0D01 => opImageActivate d c
  | _ => badHeader d c

/-- SHAFT_CONFIG and SHAFT_MOTION that the ACTIVE member has committed with OK go to the partner (R575). -/
def forwards (d : Device) (c : InFlight) (oks : Nat) : Device :=
  if (c.opcode == 0x0800 || c.opcode == 0x0801) && graftSt d == 3 && decide (cnt d (Reg.CMD_CNT 1) ≠ oks) then
    emit d (.forward (packetWords c.opcode c.pkt))
  else d

/-- A command commits. -/
def commitOne (d : Device) (c : InFlight) : Device :=
  let d := modInflight d c.seq (fun c => { c with at_ := d.dev, aux := [] })
  let c := { c with at_ := d.dev, aux := [] }
  if c.pkt.chain && chainBroken d c then fail d c stFenced
  else if recovery d && !inRecovery c.opcode then fail d c stNoResource
  else if c.pkt.part = 2 then toCf d c
  else forwards (carryOut d c) c (cnt d (Reg.CMD_CNT 1))

/-- Every earlier-accepted command of the origin has completed (R473). -/
def fenceOver (d : Device) (c : InFlight) : Bool :=
  d.cmd.inflight.all (fun x => !(x.origin == c.origin && decide (x.seq < c.seq)) || x.stage == .done)

/-- An earlier command of the origin holds a command back: one that has not committed, or one with FENCE_AFTER (R472,
R473). -/
def heldBack (d : Device) (c : InFlight) : Bool :=
  d.cmd.inflight.any (fun x => x.origin == c.origin && decide (x.seq < c.seq)
    && (x.stage == .wait || (fencesAfter x && x.stage != .done)))

/-- A command that commits now. aux of a waiting command: 1 held under R617, 2 its fence wait has ended. The request FIFO of
the Cold Frame holds 16 (R382). -/
def mayCommit (d : Device) (c : InFlight) : Bool :=
  c.stage == .wait && c.aux != [1] && (!fencesBefore c || c.aux == [2]) && !heldBack d c
    && !(c.pkt.part == 2 && decide (16 ≤ d.cf.reqs.length))

/-- Commands commit, in the order of acceptance, until none may. -/
def commitAll : Nat → Device → Device
  | 0, d => d
  | n + 1, d =>
    match d.cmd.inflight.find? (mayCommit d) with
    | some c => commitAll n (commitOne d c)
    | none => d

/-- How many commands wait for their commit. -/
def waitingCommands (d : Device) : Nat := countInflight d (fun c => c.stage == .wait)

/-- ME0 commits what may commit, while its clock runs. -/
def frontGo (d : Device) : Device := if running d then commitAll (waitingCommands d) d else d

/-- Commands held under R617 try again; they keep their place. -/
def retryHeld (d : Device) : Device :=
  frontGo (modCmd d (fun t =>
    { t with inflight := t.inflight.map (fun c =>
        if c.stage == .wait && c.aux == [1] then { c with aux := if fencesBefore c then [2] else [] } else c) }))

/-- A fence wait ends (R473). -/
def fenceEnd (d : Device) (c : InFlight) : Device :=
  if c.stage == .wait && fencesBefore c && c.aux == [] && fenceOver d c && running d then
    frontGo (modInflight d c.seq (fun c => { c with aux := [2] }))
  else d

/-! ### Acceptance (R469 to R472) -/

/-- ABORTs in flight of an origin. -/
def abortsOf (d : Device) (o : Origin) : Nat := countInflight d (fun c => c.origin == o && c.opcode == 0x0110)

/-- Commands in flight that take an ordinary slot, among those of the origins a test names: an origin's first ABORT in flight
has its own slot (R471). -/
def slotsUsed (d : Device) (p : Origin → Bool) : Nat :=
  let mine := d.cmd.inflight.filter (fun c => p c.origin)
  let aborts := (mine.filter (fun c => c.opcode == 0x0110)).map InFlight.origin
  mine.length - aborts.eraseDups.length

/-- A command of an origin has a slot: at most n in the origin's class, 512 in all (R471). -/
def slotFree (d : Device) (o : Origin) (opcode n : Nat) (cls : Origin → Bool) : Bool :=
  (opcode == 0x0110 && abortsOf d o == 0)
    || (decide (slotsUsed d cls < n) && (isFirmware o || decide (slotsUsed d (fun o => !isFirmware o) < 512)))

/-- A packet is accepted: its header is checked at once; ABORT acts at once; others enter fence wait or commit. With busy, it
completes with BUSY and takes no slot (R487). -/
def accept (d : Device) (o : Origin) (ws : List Word) (vlans : List Word) (busy : Bool) : Device :=
  let x := packetOf ws
  let dup := d.cmd.inflight.any (fun c => c.origin == o && c.pkt.tag == x.2.tag)
  let n := d.cmd.nextSeq
  let c : InFlight := { origin := o, opcode := x.1, pkt := x.2, vlans := vlans, stage := .wait, seq := n }
  let d := bump d (Reg.CMD_CNT 0)
  let d := modCmd d (fun t => { t with nextSeq := n + 1, inflight := t.inflight ++ [c] })
  if busy then fail d c stBusy
  else
    match headerFault d c dup with
    | some f => complete d n f.1 [w32 f.2]
    | none =>
      if c.opcode = 0x0110 then
        if recovery d then fail d c stNoResource
        else frontGo (opAbort (modInflight d n (fun c => { c with at_ := d.dev })) c)
      else if fencesBefore c && !fenceOver d c then d
      else frontGo (modInflight d n (fun c => { c with aux := if fencesBefore c then [2] else [] }))

/-- The transports accept commands: from core ready, and in recovery on rings and mailbox (R607, R608). -/
def frontOpen (d : Device) (o : Origin) : Bool :=
  running d && (coreReady d || (recovery d && (match o with | .ring _ => true | .spi => true | _ => false)))

/-! ### PCIe rings (R481, R483) -/

/-- n words of submission ring k from a byte offset. -/
def ringWords (d : Device) (k off n : Nat) : List Word :=
  wordsOf n ((upTo (4 * n)).map (fun i => tget (fun _ => (0 : Byte)) d.cmd.bar2 (0x20000 * k + (off + i) % 65536)))

/-- Bytes between head and tail of submission ring k. -/
def sqUsed (d : Device) (k : Nat) : Nat :=
  (fld d (Reg.CMD_SQ_TAIL k) 15 0 + 65536 - fld d (Reg.CMD_SQ_HEAD k) 15 0) % 65536

/-- The ring halts. -/
def ringHalt (d : Device) (k : Nat) : Device := event (setFlag d (Reg.CMD_RING_STATUS k) 0 true) Reg.CMD_EVENT 0

/-- Packets of ring k are accepted in order while slots are free, at most n. -/
def ringScan (k : Fin 4) : Nat → Device → Device
  | 0, d => d
  | n + 1, d =>
    let used := sqUsed d k
    if used = 0 || !flag d (Reg.CMD_RING_CTL k) 0 || flag d (Reg.CMD_RING_STATUS k) 0 || !frontOpen d (.ring k) then d
    else
      let head := fld d (Reg.CMD_SQ_HEAD k) 15 0
      let h := ringWords d k head 4
      let size := packetSize (4 + lengthOf h)
      if 1024 < lengthOf h || used < size then ringHalt d k
      else if !slotFree d (.ring k) (bits (h.getD 0 0).toNat 15 0) 512 (isRing k) then d
      else
        let ws := ringWords d k head (4 + lengthOf h)
        ringScan k n (accept (wr d (Reg.CMD_SQ_HEAD k) ((head + size) % 65536)) (.ring k) ws [] false)

/-- Packets that ring k may hold. -/
def ringFuel (d : Device) (k : Nat) : Nat := sqUsed d k / 16

/-- The tail is written: the doorbell (R481, R483). -/
def sqDoorbell (d : Device) (k : Fin 4) (x : Nat) : Device :=
  if x % 65536 % 16 ≠ 0 then event d Reg.CMD_EVENT 6
  else
    let d := wr d (Reg.CMD_SQ_TAIL k) (x % 65536)
    ringScan k (ringFuel d k) d

/-- Host memory writes reach BAR0 and BAR2: the link is up, and core ready or recovery is reached (R609). -/
def pcieOpen (d : Device) : Bool := running d && d.pwr.pcieUp && (coreReady d || recovery d)

/-- Host software places a packet at the tail of ring k, where there is room, and rings the doorbell. -/
def ringIssue (d : Device) (k : Fin 4) (ws : List Word) : Device :=
  let size := packetSize ws.length
  let tail := fld d (Reg.CMD_SQ_TAIL k) 15 0
  if !pcieOpen d || 65520 < sqUsed d k + size then d
  else
    let b := bytesOf ws
    let d := modCmd d (fun t =>
      { t with bar2 := (b.zip (upTo b.length)).foldl (fun m x =>
          tset (fun _ => (0 : Byte)) m (0x20000 * k.val + (tail + x.2) % 65536) x.1) t.bar2 })
    sqDoorbell d k (tail + size)

/-- Rings that hold packets go on as slots come free. -/
def ringsGo (d : Device) : Device :=
  each rings d (fun d k => if sqUsed d k = 0 then d else ringScan k (ringFuel d k) d)

/-! ### The SPI mailbox (R485) -/

/-- A word is appended to the assembly buffer. -/
def mbxPut (d : Device) (x : Word) : Device :=
  if 1028 ≤ d.cmd.mbxIn.length then event d Reg.CMD_EVENT 1 else modCmd d (fun t => { t with mbxIn := t.mbxIn ++ [x] })

/-- The buffer is emptied. -/
def mbxEmpty (d : Device) : Device := modCmd d (fun t => { t with mbxIn := [] })

/-- SUBMIT. Before core ready, and in neither case of R607, it acts as with no slot free (log 26). -/
def mbxSubmit (d : Device) : Device :=
  let ws := d.cmd.mbxIn
  if ws.length < 4 || ws.length ≠ 4 + lengthOf ws then event (mbxEmpty d) Reg.CMD_EVENT 1
  else if !frontOpen d .spi || !slotFree d .spi (bits (ws.getD 0 0).toNat 15 0) 16 isSpi then event d Reg.CMD_EVENT 2
  else accept (mbxEmpty d) .spi ws [] false

/-- Every word of a packet is written, and SUBMIT set. -/
def mbxIssue (d : Device) (ws : List Word) : Device := if running d then mbxSubmit (each ws d mbxPut) else d

/-- The next word of the oldest reply is read (R486); zero where none waits. -/
def mbxReadWord (d : Device) : Device :=
  match nextReply d isSpi with
  | none => emit d (.read [0])
  | some c =>
    let ws := replyWords c
    let i := d.cmd.mbxRead
    let d := emit d (.read [ws.getD i 0])
    if i + 1 < ws.length then modCmd d (fun t => { t with mbxRead := i + 1 })
    else modCmd (dropInflight d c.seq) (fun t => { t with mbxRead := 0 })

/-! ### In-band, Brely, applets and firmware (R487 to R490, R448) -/

/-- A command frame of port p reaches the front end. -/
def inbandAccept (d : Device) (p : Fin 40) (mac : Nat) (vlans ws : List Word) : Device :=
  let o : Origin := .inband p (BitVec.ofNat 48 mac)
  accept d o ws vlans (!slotFree d o (packetOf ws).1 64 isInband)

/-- A frame ends on the wire of a port, and its command, if it is one, is accepted (R646). -/
def receiveFrame (d : Device) (p : Fin 40) (f : RxFrame) : Device :=
  let r := receive d p f
  match r.2 with
  | some x => if frontOpen r.1 (.inband p 0) then inbandAccept r.1 p x.1 x.2.1 x.2.2 else inbDrop r.1
  | none => r.1

/-- A command frame from addresses and a packet, padded, with its FCS. -/
def commandFrame (da sa : Nat) (ws : List Word) : List Byte := replyFrame da sa [] ws

def isBrely : Origin → Bool
  | .brely => true
  | _ => false

/-- A command frame on the Brely link (R489): addresses are not checked. -/
def brelyCommandIn (d : Device) (f : List Byte) : Device :=
  match packetAt f 14 with
  | none => d
  | some ws =>
    if !flag d Reg.CMD_CFG 0 || !frontOpen d .brely then d
    else accept d .brely ws [] (!slotFree d .brely (packetOf ws).1 32 isBrely)

/-- The Brely receiver's 64 KiB hold a frame until the core is awake (R617). -/
def brelyHold (d : Device) (f : List Byte) : Device :=
  let used : Nat := d.pwr.held.foldl (fun (n : Nat) h => if h.1 = 41 then n + h.2.2.length else n) 0
  wakeCore (if used + f.length ≤ 65536 then modPwr d (fun p => { p with held := p.held ++ [(41, [], f)] }) else d)

/-- A frame on the Brely link: EtherType 0x88B5 carries commands; the frame wakes the core from STANDBY (R617). -/
def brelyCommandFrame (d : Device) (f : List Byte) : Device :=
  if !ticking d || !coreReady d || beAt f 12 2 != 0x88B5 || !fcsGood f then d
  else if standby d then brelyHold d f else brelyCommandIn d f

/-- COMMAND (R448): one at a time. -/
def svcCommand (e : Fin 16) (opcode : Nat) (p : Pkt) (d : Device) : Device :=
  if !appletMay opcode p then answer d e stDenied []
  else if !slotFree d (.applet e) opcode 1 (fun o => o == .applet e) then answer d e stBusy []
  else accept d (.applet e) (packetWords opcode p) [] false

/-- A packet that an origin issues by its transport. -/
def packet (d : Device) (o : Origin) (opcode : Nat) (p : Pkt) : Device :=
  let ws := packetWords opcode p
  match o with
  | .ring k => ringIssue d k ws
  | .spi => mbxIssue d ws
  | .inband n mac => receiveFrame d n { bytes := commandFrame (portMac d n) mac.toNat ws, lane := n }
  | .brely => brelyCommandFrame d (commandFrame 0 0 ws)
  | .applet e => if frontOpen d o then service d e (svcCommand e opcode p) else d
  | .firmware =>
    if frontOpen d o && slotFree d o opcode 32 isFirmware then accept d o ws [] false else d

end Sys2Proof.Machine
end

