-- ==== Sys2Proof/Machine/MsixOps.lean ====
section
/-! DEFINITION. Interrupt sources and their messages (R517 to R519). -/

namespace Sys2Proof.Machine

/-- Source of an event register, and the register of its enables; that of GLB_CF_EVENT is bit 15 of GLB_SRC_EN alone
(R518). -/
def eventSource (a : Nat) : Option (Nat × Option Nat) :=
  if a = Reg.GLB_EVENT then some (0, some Reg.GLB_IRQ_EN)
  else if a = Reg.CMD_EVENT then some (1, some Reg.CMD_IRQ_EN)
  else if a = Reg.FLT_EVENT then some (2, some Reg.FLT_IRQ_EN)
  else if a = Reg.TB_EVENT then some (3, some Reg.TB_IRQ_EN)
  else if a = Reg.TRL_EVENT 0 then some (4, some (Reg.TRL_IRQ_EN 0))
  else if a = Reg.TRL_EVENT 1 then some (5, some (Reg.TRL_IRQ_EN 1))
  else if a = Reg.CLK_EVENT then some (6, some Reg.CLK_IRQ_EN)
  else if 0x64000 ≤ a && a < 0x64500 && a % 0x40 == 0x0C then some (6, some (a + 0x28))
  else if a = Reg.SYN_EVENT then some (7, some Reg.SYN_IRQ_EN)
  else if a = Reg.RED_EVENT then some (8, some Reg.RED_IRQ_EN)
  else if 0x100000 ≤ a && a < 0x128000 && (a % 0x1000 == 0x044 || a % 0x1000 == 0x0D0) then some (9, some (a + 4))
  else if 0x140000 ≤ a && a < 0x168000 && a % 0x1000 == 0x040 then some (10, some (a + 4))
  else if a = Reg.CORE_EVENT then some (11, some Reg.CORE_IRQ_EN)
  else if 0x1A0000 ≤ a && a < 0x1B5000 && a % 0x800 == 0x080 then some (12, some (a + 4))
  else if a = Reg.QUEG_EVENT then some (12, some Reg.QUEG_IRQ_EN)
  else if 0x200000 ≤ a && a < 0x201000 && a % 0x100 == 0x04 then some (13, some (a + 4))
  else if a = Reg.PMC_EVENT then some (14, some Reg.PMC_IRQ_EN)
  else if a = Reg.GLB_CF_EVENT then some (15, none)
  else none

/-- An event register of a source holds an enabled event. -/
def eventOn (d : Device) (a : Nat) (v : Word) : Option Nat :=
  match eventSource a with
  | some (s, some en) => if Nat.land v.toNat (rd d en) = 0 then none else some s
  | some (s, none) => if v = 0 then none else some s
  | none => none

/-- GLB_SRC_PEND: the sources that are pending. Event registers reset to 0, so only listed ones can hold an event. -/
def sourcesPending (d : Device) : Nat :=
  d.regs.foldl (fun (m : Nat) e => match eventOn d e.1 e.2 with | some s => Nat.lor m (2 ^ s) | none => m) 0

/-- Vector of a source. -/
def sourceVec (d : Device) (s : Nat) : Nat := fld d (Reg.GLB_VEC0 + 4 * (s / 4)) (8 * (s % 4) + 5) (8 * (s % 4))

/-- A source's message, where GLB_SRC_EN has its bit. -/
def sourceMessage (d : Device) (s : Nat) : Device := if flag d Reg.GLB_SRC_EN s then sendMsix d (sourceVec d s) else d

/-- Sources that have become pending send their messages (R519). -/
def sourcesGo (d : Device) : Device :=
  let p := sourcesPending d
  if p = d.bus.srcPend then d
  else
    let old := d.bus.srcPend
    let d := modBus d (fun b => { b with srcPend := p })
    each (upTo 16) d (fun d s => if bit p s && !bit old s then sourceMessage d s else d)

/-- A write of ones to an event register clears its bits; a source that it leaves pending sends its message again (R519). -/
def clearEvents (d : Device) (a v : Nat) : Device :=
  let d := wr d a (rd d a - Nat.land (rd d a) v)
  match eventSource a with
  | some (s, _) =>
    let p := sourcesPending d
    let d := modBus d (fun b => { b with srcPend := p })
    if bit p s then sourceMessage d s else d
  | none => d

/-- A write of GLB_SRC_EN: a source whose bit it sets sends its message if it is pending (R519). -/
def srcEnWrite (d : Device) (v : Nat) : Device :=
  let old := fld d Reg.GLB_SRC_EN 15 0
  let d := wr d Reg.GLB_SRC_EN (v % 65536)
  let p := sourcesPending d
  let d := modBus d (fun b => { b with srcPend := p })
  each (upTo 16) d (fun d s => if bit v s && !bit old s && bit p s then sourceMessage d s else d)

end Sys2Proof.Machine
end

