-- ==== Sys2Proof/Machine/Run.lean ====
section
/-! DEFINITION. How a command runs: time passes, the row has its effect, and the device settles, as hardware does within a
cycle or firmware at once (log 3). -/

namespace Sys2Proof.Machine

/-! ### Changes of time bases reach their users -/

/-- One change. -/
def reactTo (d : Device) (m : Moved) : Device :=
  let d := if m.n = 0 then
      let d := each (upTo 2) d (trlMoved m.by_)
      if m.step then
        let d := clkMoved d
        if 0 < m.by_ then each (upTo 4) d shaftSkip else d
      else d
    else d
  let d := metersMoved d m
  if m.step then pinsMoved d m.n else d

/-- The changes of time bases noted so far reach their users (R216, R331, R366, R420, R426). -/
def react (d : Device) : Device := if d.moves.isEmpty then d else each d.moves { d with moves := [] } reactTo

/-! ### Determinism (R41, R46) -/

/-- A fault above class C is active (R531, R536). -/
def aboveC (d : Device) : Bool := classActive d 1 || classActive d 2 || classActive d 3 || classActive d 4 || flag d Reg.FLT_STATUS 4

/-- TENDED_DET: it falls when a condition fails, and rises when all hold and every tended frame that was present then has left. -/
def detEval (d : Device) : Device :=
  let fails := aboveC d || d.core.budget || d.core.exhausted
  let d := if d.core.budget then modCore d (fun c => { c with budget := false }) else d
  if fails then
    if flag d Reg.GLB_STATUS 0 then
      let d := event (setFlag d Reg.GLB_STATUS 0 false) Reg.GLB_EVENT 0
      modCore d (fun c => { c with detFrames := (c.frames.filter (fun f => f.2.tag.tc == 7)).map Prod.fst })
    else d
  else if !flag d Reg.GLB_STATUS 0 && d.core.detFrames.isEmpty then setFlag d Reg.GLB_STATUS 0 true
  else d

/-! ### Settling -/

/-- The noted occurrences are handled and the claims follow, until none is left, at most n times. -/
def faultsGo : Nat → Device → Device
  | 0, d => d
  | n + 1, d => if d.occs.isEmpty then d else faultsGo n (redEval (handleOccs d))

/-- Requests of lane power that REF_SELECTED held go on (R74). -/
def heldLanes (d : Device) : Device :=
  each (upTo 40) d (fun d n => if fld d (Reg.LANE_PWR n) 9 8 = 0 then d else lanePower d n)

/-- Outputs that follow the claims: pins, clocks, PPS_OUT. -/
def outsGo (d : Device) : Device := slewStatus (clkOuts (pinsMute d (noHealth d)))

/-- Everything the device does of itself within the step, while its clocks run. -/
def settle (d : Device) : Device :=
  let d := react d
  if !running d then d
  else
    let d := presenceAll (faultsGo 8 (redEval (parityEval d)))
    let d := fltSettle (react d)
    let d := each (upTo 4) (heldLanes (outsGo d)) motionsDone
    let d := powerEval (ringsGo (if heldForPower d then retryHeld d else frontGo d))
    sourcesGo (detEval (faultsGo 8 d))

/-- The device a row finds: w ticks have passed, changes of time bases have reached their users, and the bound of Shears holds. -/
def before (w : Nat) (d : Device) : Device := shearsBound (react (wait w d))

/-- The state after a row whose own effect gives e: the device settles; a row takes no time of its own and no fuse changes. -/
def after (w : Nat) (s : State) (e : Device) : State :=
  { s with dev := { settle e with now := s.dev.now + w, dev := (wait w s.dev).dev, fuse := s.dev.fuse } }

/-- A command: w ticks pass, the effect f, and the device settles; the queue is untouched. -/
def run (w : Nat) (s : State) (f : Device → Device) : Host.Outcome State Fault Refusal := .next (after w s (f (before w s.dev)))

/-- No command waits: one tick of 0.8 ns passes (log 3). -/
def idle (s : State) : Host.Outcome State Fault Refusal := run 1 s id

end Sys2Proof.Machine
end

