-- ==== Sys2Proof/Machine/ViewOps.lean ====
section
/-! DEFINITION. How accesses of the register views reach the device (R504 to R507, R609). -/

namespace Sys2Proof.Machine

open Sys2Proof

/-- A register access of a view reaches the device: the PCIe view while it is open (R609), the SPI view and firmware while
clocks run; SPI writes stop at SPI_WLOCK, which sets ACCESS_ERR (R507). -/
def viewWrite (d : Device) (v : View) (a : Nat) (f : Device → Device) : Device :=
  match v with
  | .pcie => if pcieOpen d then f d else d
  | .spi =>
    if !running d then d
    else if flag d Reg.GLB_LOCK 1 then
      event (wr d Reg.GLB_ACC_ADDR (a + 2 ^ 24 * viewNum v + 2 ^ 31)) Reg.GLB_EVENT 4
    else f d
  | .fw => if running d then f d else d

/-- A read of a view that does not reach the registers: from the root PLL's lock to core ready PCIe answers all ones (R609). -/
def closedRead (d : Device) (v : View) : Device :=
  if v = .pcie && running d && !coreReady d && !recovery d then emit d (.read [0xFFFFFFFF]) else d

/-- A read of a view reaches the device. -/
def viewRead (d : Device) (v : View) (f : Device → Device) : Device :=
  match v with
  | .pcie => if pcieOpen d then f d else closedRead d v
  | _ => if running d then f d else d

end Sys2Proof.Machine
end

