-- ==== Sys2Proof/Machine/ClockRows.lean ====
section
/-! DEFINITION. The rows of the root PLL, the synthesizers, the core divider, PPS_OUT and LOCKMON (R311 to R331). -/

namespace Sys2Proof.Machine

open Sys2Proof

/-- ROOT_PLL_LOCK (R311, R312, R323). -/
def execRootPllLock (w : Nat) (s : State) : Host.Outcome State Fault Refusal := run w s rootLock

/-- The root PLL loses lock (R321, R323, R324). -/
def rootLost (d : Device) : Device := onlyIf (!d.pwr.resetHeld && d.clk.rootLocked) d (fun d => freeze d false)

/-- ROOT_UNLOCK (R321). -/
def execRootUnlock (w : Nat) (s : State) : Host.Outcome State Fault Refusal := run w s rootLost

/-- LOCAL_OSC is lost (R314, R321, R324). -/
def oscMissing (d : Device) : Device := onlyIf (!d.pwr.resetHeld && !d.clk.oscLost) d (fun d => freeze d true)

/-- OSC_LOSS (R314). -/
def execOscLoss (w : Nat) (s : State) : Host.Outcome State Fault Refusal := run w s oscMissing

/-- OSC_RETURN (R314). -/
def execOscReturn (w : Nat) (s : State) : Host.Outcome State Fault Refusal := run w s oscReturn

/-- RESTARTED (R323). -/
def execRestarted (w : Nat) (s : State) : Host.Outcome State Fault Refusal := run w s restart

/-- SYN_LOCK (R317, R320). -/
def execSynLock (w : Nat) (x : Side) (s : State) : Host.Outcome State Fault Refusal := run w s (fun d => synLock d (sideNum x))

/-- SYN_UNLOCK (R319, R320). -/
def execSynUnlock (w : Nat) (x : Side) (s : State) : Host.Outcome State Fault Refusal :=
  run w s (fun d => synUnlock d (sideNum x))

/-- CORE_DIV_REQ: a write of CLK_ROOT_CTL (R313, R616). -/
def execCoreDivReq (w : Nat) (v : View) (x : Word) (s : State) : Host.Outcome State Fault Refusal :=
  run w s (fun d => viewWrite d v Reg.CLK_ROOT_CTL (fun d => wrImage d Reg.CLK_ROOT_CTL x.toNat))

/-- The requested change of the core divider is complete (R313). -/
def divDone (d : Device) : Device :=
  match d.clk.divReq with
  | some (_, n) =>
    let d := setFlag (setFlag d Reg.CLK_ROOT_STATUS 2 (n == 16)) Reg.GLB_PWR_STATUS 2 (n == 16)
    event (modClk d (fun c => { c with divReq := none })) Reg.CLK_EVENT 8
  | none => d

/-- CORE_DIV_DONE (R313). -/
def execCoreDivDone (w : Nat) (s : State) : Host.Outcome State Fault Refusal :=
  run w s (fun d => onlyIf (running d) d divDone)

/-- SYN_SLEW_MOVE (R316). -/
def execSynSlewMove (w : Nat) (x : Side) (s : State) : Host.Outcome State Fault Refusal :=
  run w s (fun d => onlyIf (running d) d (fun d => slewMove d (sideNum x)))

/-- PPS_OUT_PULSE (R331). -/
def execPpsOutPulse (w : Nat) (s : State) : Host.Outcome State Fault Refusal := run w s ppsPulse

/-- PPS_PULSE_END (R331). -/
def execPpsPulseEnd (w : Nat) (s : State) : Host.Outcome State Fault Refusal :=
  run w s (fun d => onlyIf (ticking d) d ppsEnd)

/-- LOCKMON_REFRESH (R326). -/
def execLockmonRefresh (w : Nat) (s : State) : Host.Outcome State Fault Refusal :=
  run w s (fun d => onlyIf (running d && !d.clk.oscLost) d lockRefresh)

end Sys2Proof.Machine
end

