-- ==== Sys2Proof/Machine/ColdFrameRows.lean ====
section
/-! DEFINITION. The rows of the Cold Frame: requests and replies, tamper, VBAT, power loss, lockstep and the start of the image
(R384 to R403). -/

namespace Sys2Proof.Machine

open Sys2Proof

/-- CF_REQUEST (R384). -/
def execCfRequest (w : Nat) (s : State) : Host.Outcome State Fault Refusal := run w s cfTake

/-- CF_REPLY_READ (R385). -/
def execCfReplyRead (w : Nat) (s : State) : Host.Outcome State Fault Refusal := run w s cfRead

/-- TAMPER_SAMPLE (R396), while VDD33 or VBAT feeds the VBAT domain (R397). -/
def execTamperSample (w : Nat) (open0 open1 : Bool) (s : State) : Host.Outcome State Fault Refusal :=
  run w s (fun d => onlyIf (d.pwr.vdd33 || d.cf.vbatOk) d (fun d => cfSample d open0 open1))

/-- VBAT_LOW (R396, R397). -/
def execVbatLow (w : Nat) (s : State) : Host.Outcome State Fault Refusal := run w s cfVbatLow

/-- CF_POWER_FAIL (R403). -/
def execCfPowerFail (w : Nat) (s : State) : Host.Outcome State Fault Refusal := run w s cfPowerFail

/-- LOCKSTEP (R387). -/
def execLockstep (w : Nat) (s : State) : Host.Outcome State Fault Refusal := run w s cfLockstep

/-- CF_IMAGE_START (R389, R391). -/
def execCfImageStart (w : Nat) (s : State) : Host.Outcome State Fault Refusal := run w s cfStart

end Sys2Proof.Machine
end

