-- ==== Sys2Proof/Machine/CommandRows.lean ====
section
/-! DEFINITION. The rows of the Trobuic commands: each is a packet with its opcode, issued by an origin's transport (R464 to
R489). What the command does at its commit is the operation of its name in the files of its family. -/

namespace Sys2Proof.Machine

open Sys2Proof

/-- DEV_INFO, opcode 0x0100 (R491). -/
def execDevInfo (w : Nat) (o : Origin) (p : Pkt) (s : State) : Host.Outcome State Fault Refusal :=
  run w s (fun d => packet d o 0x0100 p)

/-- FUNCTION_RESET, opcode 0x0101 (R613). -/
def execFunctionReset (w : Nat) (o : Origin) (p : Pkt) (s : State) : Host.Outcome State Fault Refusal :=
  run w s (fun d => packet d o 0x0101 p)

/-- SET_LATENCY_TOLERANCE, opcode 0x0102 (R614). -/
def execSetLatencyTolerance (w : Nat) (o : Origin) (p : Pkt) (s : State) : Host.Outcome State Fault Refusal :=
  run w s (fun d => packet d o 0x0102 p)

/-- ABORT, opcode 0x0110 (R477). -/
def execAbort (w : Nat) (o : Origin) (p : Pkt) (s : State) : Host.Outcome State Fault Refusal :=
  run w s (fun d => packet d o 0x0110 p)

/-- FENCE, opcode 0x0111 (R475). -/
def execFence (w : Nat) (o : Origin) (p : Pkt) (s : State) : Host.Outcome State Fault Refusal :=
  run w s (fun d => packet d o 0x0111 p)

/-- PORT_CONFIG, opcode 0x0200 (R492). -/
def execPortConfig (w : Nat) (o : Origin) (p : Pkt) (s : State) : Host.Outcome State Fault Refusal :=
  run w s (fun d => packet d o 0x0200 p)

/-- PORT_ENABLE, opcode 0x0201 (R105). -/
def execPortEnable (w : Nat) (o : Origin) (p : Pkt) (s : State) : Host.Outcome State Fault Refusal :=
  run w s (fun d => packet d o 0x0201 p)

/-- PORT_DISABLE, opcode 0x0202 (R104). -/
def execPortDisable (w : Nat) (o : Origin) (p : Pkt) (s : State) : Host.Outcome State Fault Refusal :=
  run w s (fun d => packet d o 0x0202 p)

/-- PORT_STATUS, opcode 0x0203 (R492). -/
def execPortStatus (w : Nat) (o : Origin) (p : Pkt) (s : State) : Host.Outcome State Fault Refusal :=
  run w s (fun d => packet d o 0x0203 p)

/-- LANE_LADDER, opcode 0x0204 (R63). -/
def execLaneLadder (w : Nat) (o : Origin) (p : Pkt) (s : State) : Host.Outcome State Fault Refusal :=
  run w s (fun d => packet d o 0x0204 p)

/-- PORT_REGANG, opcode 0x0205 (R90). -/
def execPortRegang (w : Nat) (o : Origin) (p : Pkt) (s : State) : Host.Outcome State Fault Refusal :=
  run w s (fun d => packet d o 0x0205 p)

/-- FDB_WRITE, opcode 0x0300 (R119). -/
def execFdbWrite (w : Nat) (o : Origin) (p : Pkt) (s : State) : Host.Outcome State Fault Refusal :=
  run w s (fun d => packet d o 0x0300 p)

/-- FDB_READ, opcode 0x0301 (R493). -/
def execFdbRead (w : Nat) (o : Origin) (p : Pkt) (s : State) : Host.Outcome State Fault Refusal :=
  run w s (fun d => packet d o 0x0301 p)

/-- STREAM_ID_WRITE, opcode 0x0302 (R493). -/
def execStreamIdWrite (w : Nat) (o : Origin) (p : Pkt) (s : State) : Host.Outcome State Fault Refusal :=
  run w s (fun d => packet d o 0x0302 p)

/-- MCAST_GROUP_WRITE, opcode 0x0303 (R493). -/
def execMcastGroupWrite (w : Nat) (o : Origin) (p : Pkt) (s : State) : Host.Outcome State Fault Refusal :=
  run w s (fun d => packet d o 0x0303 p)

/-- QUEUE_CONFIG, opcode 0x0400 (R192). -/
def execQueueConfig (w : Nat) (o : Origin) (p : Pkt) (s : State) : Host.Outcome State Fault Refusal :=
  run w s (fun d => packet d o 0x0400 p)

/-- GATE_LIST_LOAD, opcode 0x0401 (R174). -/
def execGateListLoad (w : Nat) (o : Origin) (p : Pkt) (s : State) : Host.Outcome State Fault Refusal :=
  run w s (fun d => packet d o 0x0401 p)

/-- GATE_LIST_SWAP, opcode 0x0402 (R175). -/
def execGateListSwap (w : Nat) (o : Origin) (p : Pkt) (s : State) : Host.Outcome State Fault Refusal :=
  run w s (fun d => packet d o 0x0402 p)

/-- TIMED_LAUNCH, opcode 0x0403 (R177). -/
def execTimedLaunch (w : Nat) (o : Origin) (p : Pkt) (s : State) : Host.Outcome State Fault Refusal :=
  run w s (fun d => packet d o 0x0403 p)

/-- TB_READ, opcode 0x0500 (R242). -/
def execTbRead (w : Nat) (o : Origin) (p : Pkt) (s : State) : Host.Outcome State Fault Refusal :=
  run w s (fun d => packet d o 0x0500 p)

/-- TB_SET, opcode 0x0501 (R213). -/
def execTbSet (w : Nat) (o : Origin) (p : Pkt) (s : State) : Host.Outcome State Fault Refusal :=
  run w s (fun d => packet d o 0x0501 p)

/-- TB_STEP, opcode 0x0502 (R214). -/
def execTbStep (w : Nat) (o : Origin) (p : Pkt) (s : State) : Host.Outcome State Fault Refusal :=
  run w s (fun d => packet d o 0x0502 p)

/-- TB_SET_INCR, opcode 0x0503 (R211). -/
def execTbSetIncr (w : Nat) (o : Origin) (p : Pkt) (s : State) : Host.Outcome State Fault Refusal :=
  run w s (fun d => packet d o 0x0503 p)

/-- PTP_PORT_CONFIG, opcode 0x0504 (R242). -/
def execPtpPortConfig (w : Nat) (o : Origin) (p : Pkt) (s : State) : Host.Outcome State Fault Refusal :=
  run w s (fun d => packet d o 0x0504 p)

/-- ASYM_SET, opcode 0x0505 (R272). -/
def execAsymSet (w : Nat) (o : Origin) (p : Pkt) (s : State) : Host.Outcome State Fault Refusal :=
  run w s (fun d => packet d o 0x0505 p)

/-- TRELLIS_TABLE_LOAD, opcode 0x0600 (R305). -/
def execTrellisTableLoad (w : Nat) (o : Origin) (p : Pkt) (s : State) : Host.Outcome State Fault Refusal :=
  run w s (fun d => packet d o 0x0600 p)

/-- TRELLIS_FORCE, opcode 0x0601 (R303). -/
def execTrellisForce (w : Nat) (o : Origin) (p : Pkt) (s : State) : Host.Outcome State Fault Refusal :=
  run w s (fun d => packet d o 0x0601 p)

/-- TRELLIS_STATUS, opcode 0x0602 (R305). -/
def execTrellisStatus (w : Nat) (o : Origin) (p : Pkt) (s : State) : Host.Outcome State Fault Refusal :=
  run w s (fun d => packet d o 0x0602 p)

/-- DCO_STEER, opcode 0x0603 (R305). -/
def execDcoSteer (w : Nat) (o : Origin) (p : Pkt) (s : State) : Host.Outcome State Fault Refusal :=
  run w s (fun d => packet d o 0x0603 p)

/-- MEAS_JOB_START, opcode 0x0700 (R360). -/
def execMeasJobStart (w : Nat) (o : Origin) (p : Pkt) (s : State) : Host.Outcome State Fault Refusal :=
  run w s (fun d => packet d o 0x0700 p)

/-- MEAS_RESULT, opcode 0x0701 (R361). -/
def execMeasResult (w : Nat) (o : Origin) (p : Pkt) (s : State) : Host.Outcome State Fault Refusal :=
  run w s (fun d => packet d o 0x0701 p)

/-- CF_IDENTITY, opcode 0x0702 (R404). -/
def execCfIdentity (w : Nat) (o : Origin) (p : Pkt) (s : State) : Host.Outcome State Fault Refusal :=
  run w s (fun d => packet d o 0x0702 p)

/-- CF_AUDIT_READ, opcode 0x0703 (R404). -/
def execCfAuditRead (w : Nat) (o : Origin) (p : Pkt) (s : State) : Host.Outcome State Fault Refusal :=
  run w s (fun d => packet d o 0x0703 p)

/-- SHAFT_CONFIG, opcode 0x0800 (R435). -/
def execShaftConfig (w : Nat) (o : Origin) (p : Pkt) (s : State) : Host.Outcome State Fault Refusal :=
  run w s (fun d => packet d o 0x0800 p)

/-- SHAFT_MOTION, opcode 0x0801 (R429). -/
def execShaftMotion (w : Nat) (o : Origin) (p : Pkt) (s : State) : Host.Outcome State Fault Refusal :=
  run w s (fun d => packet d o 0x0801 p)

/-- SYNC_PIN_CLAIM, opcode 0x0802 (R414). -/
def execSyncPinClaim (w : Nat) (o : Origin) (p : Pkt) (s : State) : Host.Outcome State Fault Refusal :=
  run w s (fun d => packet d o 0x0802 p)

/-- SYNC_PIN_RELEASE, opcode 0x0803 (R414). -/
def execSyncPinRelease (w : Nat) (o : Origin) (p : Pkt) (s : State) : Host.Outcome State Fault Refusal :=
  run w s (fun d => packet d o 0x0803 p)

/-- APPLET_LOAD, opcode 0x0900 (R452). -/
def execAppletLoad (w : Nat) (o : Origin) (p : Pkt) (s : State) : Host.Outcome State Fault Refusal :=
  run w s (fun d => packet d o 0x0900 p)

/-- APPLET_START, opcode 0x0901 (R452). -/
def execAppletStart (w : Nat) (o : Origin) (p : Pkt) (s : State) : Host.Outcome State Fault Refusal :=
  run w s (fun d => packet d o 0x0901 p)

/-- APPLET_STOP, opcode 0x0902 (R451). -/
def execAppletStop (w : Nat) (o : Origin) (p : Pkt) (s : State) : Host.Outcome State Fault Refusal :=
  run w s (fun d => packet d o 0x0902 p)

/-- PMC_CONFIG, opcode 0x0903 (R458). -/
def execPmcConfig (w : Nat) (o : Origin) (p : Pkt) (s : State) : Host.Outcome State Fault Refusal :=
  run w s (fun d => packet d o 0x0903 p)

/-- FAULT_READ, opcode 0x0A00 (R551). -/
def execFaultRead (w : Nat) (o : Origin) (p : Pkt) (s : State) : Host.Outcome State Fault Refusal :=
  run w s (fun d => packet d o 0x0A00 p)

/-- FAULT_ACK, opcode 0x0A01 (R551). -/
def execFaultAck (w : Nat) (o : Origin) (p : Pkt) (s : State) : Host.Outcome State Fault Refusal :=
  run w s (fun d => packet d o 0x0A01 p)

/-- FAULT_INJECT_ARM, opcode 0x0A02 (R548). -/
def execFaultInjectArm (w : Nat) (o : Origin) (p : Pkt) (s : State) : Host.Outcome State Fault Refusal :=
  run w s (fun d => packet d o 0x0A02 p)

/-- CLAIM_STATUS, opcode 0x0B00 (R580). -/
def execClaimStatus (w : Nat) (o : Origin) (p : Pkt) (s : State) : Host.Outcome State Fault Refusal :=
  run w s (fun d => packet d o 0x0B00 p)

/-- SIDE_PREFER, opcode 0x0B01 (R580). -/
def execSidePrefer (w : Nat) (o : Origin) (p : Pkt) (s : State) : Host.Outcome State Fault Refusal :=
  run w s (fun d => packet d o 0x0B01 p)

/-- GRAFT_JOIN, opcode 0x0B02 (R572). -/
def execGraftJoin (w : Nat) (o : Origin) (p : Pkt) (s : State) : Host.Outcome State Fault Refusal :=
  run w s (fun d => packet d o 0x0B02 p)

/-- GRAFT_LEAVE, opcode 0x0B03 (R580). -/
def execGraftLeave (w : Nat) (o : Origin) (p : Pkt) (s : State) : Host.Outcome State Fault Refusal :=
  run w s (fun d => packet d o 0x0B03 p)

/-- BANK_RETIRE, opcode 0x0C00 (R156). -/
def execBankRetire (w : Nat) (o : Origin) (p : Pkt) (s : State) : Host.Outcome State Fault Refusal :=
  run w s (fun d => packet d o 0x0C00 p)

/-- BANK_RESTORE, opcode 0x0C01 (R156). -/
def execBankRestore (w : Nat) (o : Origin) (p : Pkt) (s : State) : Host.Outcome State Fault Refusal :=
  run w s (fun d => packet d o 0x0C01 p)

/-- IMAGE_WRITE, opcode 0x0D00 (R500). -/
def execImageWrite (w : Nat) (o : Origin) (p : Pkt) (s : State) : Host.Outcome State Fault Refusal :=
  run w s (fun d => packet d o 0x0D00 p)

/-- IMAGE_ACTIVATE, opcode 0x0D01 (R594). -/
def execImageActivate (w : Nat) (o : Origin) (p : Pkt) (s : State) : Host.Outcome State Fault Refusal :=
  run w s (fun d => packet d o 0x0D01 p)

end Sys2Proof.Machine
end

