-- ==== Sys2Proof/Machine/StageOps.lean ====
section
/-! DEFINITION. Staged words and shadows of a view, and reads that remove an entry (R507, R510 to R512). -/

namespace Sys2Proof.Machine

open Sys2Proof

/-- Key of a view's word at an offset. -/
def viewKey (v : View) (a : Nat) : Nat := viewNum v * 2 ^ 24 + a

/-- A word is staged for a view. -/
def stage (d : Device) (v : View) (a : Nat) (x : Nat) : Device :=
  modBus d (fun b => { b with staged := tset (fun _ => none) b.staged (viewKey v a) (some (w32 x)) })

/-- The word of a group that an application takes: the staged one, or the current one. -/
def stagedOr (d : Device) (v : View) (a : Nat) : Nat :=
  match tget (fun _ => none) d.bus.staged (viewKey v a) with
  | some x => x.toNat
  | none => rd d a

/-- The staged word has been applied. -/
def unstage (d : Device) (v : View) (a : Nat) : Device :=
  modBus d (fun b => { b with staged := tset (fun _ => none) b.staged (viewKey v a) none })

/-- Words are latched into a view's shadows from an offset on (R511). -/
def latch (d : Device) (v : View) (a : Nat) (ws : List Word) : Device :=
  each (upTo ws.length) d (fun d i =>
    modBus d (fun b =>
      { b with shadow := tset (fun _ => none) b.shadow (viewKey v (a + 4 * i)) (some (ws.getD i 0)) }))

/-- GLB_ACC_ADDR and ACCESS_ERR (R505 to R507). -/
def accessErr (d : Device) (v : View) (a : Nat) : Device :=
  event (wr d Reg.GLB_ACC_ADDR (a % 2 ^ 24 + 2 ^ 24 * viewNum v + 2 ^ 31)) Reg.GLB_EVENT 4

/-- A read of the removing register at an offset, whose group has n words: words of the entry taken, and what is left. Through the
SPI view only as the first word of a transaction; else it reads zero and ACCESS_ERR is set (R507). -/
def removeRead (d : Device) (v : View) (a : Nat) (first : Bool) (take : Device → List Word × Device) : Device :=
  viewRead d v (fun d =>
    if v == .spi && !first then accessErr (emit d (.read [0])) v a
    else
      let r := take d
      latch (emit r.2 (.read (r.1.take 1))) v (a + 4) (r.1.drop 1))

end Sys2Proof.Machine
end

