-- ==== Sys2Proof/Machine/EngineRows.lean ====
section
/-! DEFINITION. The rows of the engines: applet services, violations, watchdogs and stops, mailboxes, and the performance
counters' controls (R443 to R463). -/

namespace Sys2Proof.Machine

open Sys2Proof

/-! ### Services (R448) -/

/-- TIME_READ. -/
def execTimeRead (w : Nat) (e : Fin 16) (s : State) : Host.Outcome State Fault Refusal :=
  run w s (fun d => service d e (svcTimeRead e))

/-- WAIT_UNTIL. -/
def execWaitUntil (w : Nat) (e : Fin 16) (t : WaitTarget) (s : State) : Host.Outcome State Fault Refusal :=
  run w s (fun d => service d e (svcWaitUntil e t))

/-- WAIT_UNTIL_WAKE. -/
def execWaitUntilWake (w : Nat) (e : Fin 16) (s : State) : Host.Outcome State Fault Refusal := run w s (fun d => waitWake d e)

/-- FRAME_SEND (R34, R126). -/
def execFrameSend (w : Nat) (e : Fin 16) (pre : List Word) (bytes : List Byte) (s : State) : Host.Outcome State Fault Refusal :=
  run w s (fun d => service d e (svcFrameSend e pre bytes))

/-- MSG_PUT. -/
def execMsgPut (w : Nat) (e : Fin 16) (ws : List Word) (s : State) : Host.Outcome State Fault Refusal :=
  run w s (fun d => service d e (svcMsgPut e ws))

/-- MSG_GET. -/
def execMsgGet (w : Nat) (e : Fin 16) (s : State) : Host.Outcome State Fault Refusal :=
  run w s (fun d => service d e (svcMsgGet e))

/-- COMMAND. -/
def execCommand (w : Nat) (e : Fin 16) (opcode : BitVec 16) (p : Pkt) (s : State) : Host.Outcome State Fault Refusal :=
  run w s (fun d => service d e (svcCommand e opcode.toNat p))

/-- PMC_READ (R459). -/
def execPmcRead (w : Nat) (e : Fin 16) (c : PmcCounter) (s : State) : Host.Outcome State Fault Refusal :=
  run w s (fun d => service d e (svcPmcRead e c))

/-- WDT_KICK. -/
def execWdtKick (w : Nat) (e : Fin 16) (s : State) : Host.Outcome State Fault Refusal :=
  run w s (fun d => service d e (svcWdtKick e))

/-- EXIT. -/
def execExit (w : Nat) (e : Fin 16) (s : State) : Host.Outcome State Fault Refusal := run w s (fun d => service d e (svcExit e))

/-! ### Violations, watchdogs, stops (R447, R449, R451) -/

/-- VIOLATION (R447): an applet that executes makes an access its windows do not allow. -/
def execViolation (w : Nat) (e : Fin 16) (addr : Word) (k : AccessKind) (s : State) :
    Host.Outcome State Fault Refusal :=
  run w s (fun d =>
    onlyIf (running d && feRuns d e && (applet d e).waiting.isNone) d (fun d => appletViolation d e addr.toNat k))

/-- WDT_EXPIRED (R449). -/
def execWdtExpired (w : Nat) (e : Fin 16) (s : State) : Host.Outcome State Fault Refusal :=
  run w s (fun d => onlyIf (running d && feRuns d e && wdtOut d e) d (fun d => appletWdt d e))

/-- APPLET_STOPPED (R451). -/
def execAppletStopped (w : Nat) (e : Fin 16) (s : State) : Host.Outcome State Fault Refusal :=
  run w s (fun d => onlyIf (running d) d (fun d => appletStops d e))

/-! ### Mailboxes (R462) -/

/-- TO_FULL: the host has written MBOX_TO. On a runtime engine the register does not exist. -/
def execToFull (w : Nat) (v : View) (e : Fin 16) (s : State) : Host.Outcome State Fault Refusal :=
  run w s (fun d => viewWrite d v (Reg.ENG_FE_MBOX_CTL e) (fun d =>
    onlyIf (isApplet e) d (fun d => setFlag d (Reg.ENG_FE_MBOX_CTL e) 0 true)))

/-- FROM_FULL_CLEAR: the host has read MBOX_FROM. -/
def execFromFullClear (w : Nat) (v : View) (e : Fin 16) (s : State) : Host.Outcome State Fault Refusal :=
  run w s (fun d => viewWrite d v (Reg.ENG_FE_MBOX_CTL e) (fun d => setFlag d (Reg.ENG_FE_MBOX_CTL e) 1 false))

/-! ### Performance counters (R457, R460, R463) -/

/-- GLOBAL_EN: a write of PMC_CTL (R457). -/
def execGlobalEn (w : Nat) (v : View) (x : Word) (s : State) : Host.Outcome State Fault Refusal :=
  run w s (fun d => viewWrite d v Reg.PMC_CTL (fun d => wrImage d Reg.PMC_CTL x.toNat))

/-- A write of PMC_SMPb_CTL: ENGINES bits 2 and 3 are invalid in B4 (R460, R463). -/
def smpCtl (d : Device) (b x : Nat) : Device :=
  if valueOk d (Reg.PMC_SMP_CTL b) x then smpWrite d b x else reject d (Reg.PMC_SMP_CTL b)

/-- PMC_SMP_CTL_WRITE (R460). -/
def execPmcSmpCtlWrite (w : Nat) (v : View) (b : Fin 5) (x : Word) (s : State) : Host.Outcome State Fault Refusal :=
  run w s (fun d => viewWrite d v (Reg.PMC_SMP_CTL b) (fun d => smpCtl d b x.toNat))

/-- The oldest sampling record of a bed, taken out (R463). -/
def takeSample (b : Nat) (d : Device) : List Word × Device :=
  match tget (fun _ => []) d.eng.samples b with
  | r :: l => ((r ++ List.replicate 8 0).take 8, { d with eng := { d.eng with samples := tset (fun _ => []) d.eng.samples b l } })
  | [] => (List.replicate 8 0, d)

/-- PMC_SMP_READ (R463, R507). -/
def execPmcSmpRead (w : Nat) (v : View) (b : Fin 5) (first : Bool) (s : State) : Host.Outcome State Fault Refusal :=
  run w s (fun d => removeRead d v (Reg.PMC_SMP_D b 0) first (takeSample b))

end Sys2Proof.Machine
end

