-- ==== Sys2Proof/Machine/FwdWindow.lean ====
section
/-! DEFINITION. The FWD table window: the snapshot of an entry and its counters, and their clearing (R521, R522). -/

namespace Sys2Proof.Machine

open Sys2Proof

/-- TABLE and INDEX of FWD_SEL. -/
def fwdTable (d : Device) : Nat := fld d Reg.FWD_SEL 3 0
def fwdIndex (d : Device) : Nat := fld d Reg.FWD_SEL 29 8

/-- INDEX is in the range of its table (R522). -/
def fwdInRange (table i : Nat) : Bool :=
  match table with
  | 0 => decide (i < 65536)
  | 1 => decide (i < 4096)
  | 2 => decide (i < 4096)
  | 3 => decide (i < 16384)
  | 4 => inRange i 1 4096
  | 5 => inRange i 1 512
  | 6 => inRange i 1 4096
  | 7 => decide (i < 8192)
  | 8 => inRange i 1 4096
  | 9 => inRange i 1 4096
  | _ => false

/-- The words of a valid entry, or those last written to one that is not valid. -/
def fwdHeld (d : Device) (table i : Nat) (ws : List Word) : List Word :=
  if ws.isEmpty then tget (fun _ => []) d.fwd.stale (entryKey table i) else ws

/-- The entry words of a snapshot from D0, and VALID. -/
def fwdEntry (d : Device) (table i : Nat) : List Word × Bool :=
  match table with
  | 0 => let e := fdbAt d (i / 4) (i % 4); (fdbWords e, e.isSome)
  | 1 => let v := tget (fun _ => {}) d.fwd.vlan i; (vlanWords i v, v.valid)
  | 2 => (ruleWords d i, !(tget (fun _ => []) d.fwd.rules i).isEmpty)
  | 3 => let ws := tget (fun _ => []) d.fwd.streams i; (fwdHeld d 3 i ws, !ws.isEmpty)
  | 4 => let ws := tget (fun _ => []) d.fwd.filters i; (fwdHeld d 4 i ws, !ws.isEmpty)
  | 5 => let ws := tget (fun _ => []) d.fwd.gates i; (fwdHeld d 5 i ws, !ws.isEmpty)
  | 6 => let ws := tget (fun _ => []) d.fwd.meters i; (fwdHeld d 6 i ws, !ws.isEmpty)
  | 7 => (words2 (tget (fun _ => 0) d.fwd.mcast i), true)
  | 8 => let v := tget (fun _ => 0) d.fwd.gen i; ([w32 (v / 2 % 65536)], v % 2 == 1)
  | 9 => let ws := tget (fun _ => []) d.fwd.recov i; (fwdHeld d 9 i ws, !ws.isEmpty)
  | _ => ([], false)

/-- Counters of an entry: six of a stream filter, three of a recovery instance. -/
def fwdCounters (table : Nat) : Nat := if table = 4 then 6 else if table = 9 then 3 else 0

/-- Counter k of an entry. -/
def fwdCount (d : Device) (table i k : Nat) : Nat := tget (fun _ => 0) d.fwd.counts (entryKey table i * 8 + k)

/-- The 136 words of a snapshot; zeros where INDEX is out of range. -/
def fwdWords (d : Device) (table i : Nat) : List Word :=
  if !fwdInRange table i then List.replicate 136 0
  else
    let e := (fwdEntry d table i).1
    let c := ((upTo (fwdCounters table)).map (fun k => words2 (fwdCount d table i k))).flatten
    let ws := if c.isEmpty then e else (e ++ List.replicate 16 0).take 16 ++ c
    (ws ++ List.replicate 136 0).take 136

/-- A write of FWD_SEL: an invalid TABLE is ignored; else a snapshot is taken and BUSY is set (R521). -/
def fwdSel (d : Device) (x : Nat) : Device :=
  if 9 < bits x 3 0 then event d Reg.GLB_EVENT 5
  else
    let d := wr d Reg.FWD_SEL (Nat.land x 0x3FFFFF0F)
    modBus d (fun b => { b with fwdSnap := fwdWords d (fwdTable d) (fwdIndex d), fwdBusy := some d.dev })

/-- The snapshot is complete. -/
def fwdDone (d : Device) : Device := modBus d (fun b => { b with fwdBusy := none })

/-- FWD_STATUS as read: BUSY, VALID, RANGE. -/
def fwdStatus (d : Device) : Nat :=
  let t := fwdTable d
  let i := fwdIndex d
  let ok := fwdInRange t i
  b2n d.bus.fwdBusy.isSome + 2 * b2n (ok && (fwdEntry d t i).2) + 4 * b2n (!ok)

/-- CLEAR: the counters of the selected entry become 0. -/
def fwdClear (d : Device) : Device :=
  let t := fwdTable d
  let i := fwdIndex d
  if !fwdInRange t i then d
  else each (upTo (fwdCounters t)) d (fun d k =>
    modFwd d (fun f => { f with counts := tset (fun _ => 0) f.counts (entryKey t i * 8 + k) 0 }))

end Sys2Proof.Machine
end

