-- ==== Sys2Proof/Machine/ResetOps.lean ====
section
/-! DEFINITION. The resets and Dormant: what each reset keeps, the steps before a device reset, entry into Dormant and the wake, and
the choice of the main image at start-up (R597 to R613, R619 to R625). -/

namespace Sys2Proof.Machine

/-! ### What survives (R610, R619) -/

/-- The retention domain's registers (R619). -/
def retainedRegs : List Nat := [Reg.GLB_WAKE_TIMER, Reg.GLB_DORMANT_SEC] ++ (upTo 4).map Reg.GLB_RET

/-- The first-error capture (R538). -/
def captureRegs : List Nat := (upTo 8).map Reg.FLT_FEC_W

/-- Registers at their reset values but for those of a list, which keep what d holds. -/
def keepRegs (d new : Device) (l : List Nat) : Device := each l new (fun n a => wr n a (rd d a))

/-- The Cold Frame's channels as MRAM holds them: the committed records (R401, R402). -/
def cfTotalsKept (t : Table CfTotal) : Table CfTotal :=
  tmap (fun _ => {}) (fun (x : CfTotal) =>
    { x with total := (committed x).1, rseq := (committed x).2, uncommitted := false, qerrs := 0 }) t

/-- The Cold Frame after a reset: MRAM and the VBAT domain, and the counts since power-on where power stayed on; the image starts
again (R389, R405, R610). -/
def cfKept (c : ColdFrame) (power : Bool) : ColdFrame :=
  { c with
    totals := cfTotalsKept c.totals, up := false, coldStart := power || c.coldStart, rejectDue := c.rejectDue, actReply := none,
    imgDigest := 0, imgVer := 0, note := 0, reqs := [], replies := [], rings := [], widx := [], cursor := [], cond := [],
    mism := if power then [] else c.mism, mismCount := if power then 0 else c.mismCount,
    lockv := if power then 0 else c.lockv }

/-- A piece under programming when a reset comes stays unfinished (R478; log 31). -/
def flashCut (d : Device) : Device := each ((working d 0x0D00).filter (fun c => c.aux == [1])) d imageStopped

/-- Sync pins fall to high impedance and a pulse of PPS_OUT ends (R600). -/
def outputsOff (d : Device) : Device :=
  let d := each (upTo 16) d (fun d j => if (pinOf d j).drive.isSome then emit d (.pin j none) else d)
  if d.clk.ppsHigh.isSome then emit d (.pps false) else d

/-- The device held in power-on reset: the flash, the Cold Frame's MRAM and VBAT domain and the retention domain keep what they
hold (R610). CAUSE and WAKE_SRC are recorded at the release. -/
def powerOnHeld (d : Device) (cause src : Nat) : Device :=
  let d := outputsOff (flashCut d)
  let new : Device :=
    { now := d.now, dev := d.dev, fresh := d.fresh, emitted := d.emitted, fuse := d.fuse, cf := cfKept d.cf true,
      pwr :=
        { resetHeld := true, cause := cause, wakeSrc := src, flash := d.pwr.flash, slotBad := d.pwr.slotBad, vbatOk := d.pwr.vbatOk,
          vdd33 := d.pwr.vdd33, vddAt := d.pwr.vddAt } }
  keepRegs d new retainedRegs

/-! ### Device reset (R611) -/

/-- The steps before a device reset: the withdrawal message on both paths while joined, the final records of the Cold Frame's
channels, and the cut of every frame in serialisation. -/
def beforeReset (d : Device) : Device :=
  let d := if fld d Reg.RED_GRAFT_STATUS 2 0 = 0 then d else lastGaspNow d
  cutAll (cfFinal d)

/-- GLB_DEV_RESET: the steps of R611, and everything is reset but what R610 keeps; the root PLL stays locked and the synthesizers
relock from word 0. -/
def deviceReset (d : Device) : Device :=
  let d := outputsOff (flashCut (beforeReset d))
  let new : Device :=
    { now := d.now, dev := d.dev, fresh := d.fresh, emitted := d.emitted, fuse := d.fuse, cf := cfKept d.cf false,
      bus := { msixMask := d.bus.msixMask, msixPend := d.bus.msixPend },
      tb := { keeper := d.tb.keeper, keeperAcc := d.tb.keeperAcc },
      clk := { gated := false, rootLocked := true, bandChosen := true, tickStop := some d.dev },
      flt := { fecArmed := d.flt.fecArmed },
      pwr :=
        { resetHeld := false, t0 := d.now, cause := 4, flash := d.pwr.flash, slotBad := d.pwr.slotBad, vbatOk := d.pwr.vbatOk,
          vdd33 := d.pwr.vdd33, pcieUp := d.pwr.pcieUp } }
  let new := keepRegs d new (retainedRegs ++ captureRegs ++ [Reg.GLB_STRAPS])
  let new := setFlag new Reg.FLT_FEC_CTL 8 (flag d Reg.FLT_FEC_CTL 8)
  let new := wr new Reg.CLK_ROOT_STATUS (withBits (rd d Reg.CLK_ROOT_STATUS) 2 2 0)
  let new := setFlag (setFlag new (Reg.CLK_SYN_STATUS 0) 3 true) (Reg.CLK_SYN_STATUS 1) 3 true
  wr new Reg.GLB_RST_CAUSE (4 + 256 * fld d Reg.GLB_RST_CAUSE 8 8)

/-! ### Dormant (R620 to R623) -/

/-- Entry: the steps of R611, every output as in R600, PWR_REQ low, and the device holds itself in reset. -/
def dormantEnter (d : Device) : Device :=
  let d := powerOnHeld (beforeReset d) 5 0
  emit (modPwr d (fun p => { p with dormant := some d.now })) (.pwrReq false)

/-- Seconds that the RC oscillator has counted, within 5 %; the value within is free (R619; log 50). -/
def rcSeconds (d : Device) (ticks : Nat) : Nat :=
  let lo := ticks * 95 / (100 * secTicks)
  lo + freeVal d % (ticks * 105 / (100 * secTicks) - lo + 1)

/-- A wake event: PWR_REQ rises, the dormancy is measured, and the power-on reset that follows will record CAUSE 5 (R622, R623). -/
def wakeEvent (d : Device) (src : Nat) : Device :=
  match d.pwr.dormant with
  | none => d
  | some t =>
    let s := rcSeconds d (d.now - t)
    let d := nextFree (wr d Reg.GLB_DORMANT_SEC s)
    emit (modPwr d (fun p =>
      { p with dormant := none, railsKept := false, cause := 5, wakeSrc := if p.railsKept then 3 else src })) (.pwrReq true)

/-! ### Start-up (R603, R606 to R608) -/

/-- VDD33 is back: the Cold Frame's RC oscillator has counted the time its VBAT domain ran from VBAT (R397). -/
def vddBack (d : Device) : Device :=
  if d.pwr.vdd33 then d
  else
    let s := rcSeconds d (d.now - d.pwr.vddAt)
    modPwr (nextFree (modCf d (fun c => { c with dormSec := s }))) (fun p => { p with vdd33 := true })

/-- VDD33 is gone. -/
def vddGone (d : Device) : Device :=
  if d.pwr.vdd33 then modPwr d (fun p => { p with vdd33 := false, vddAt := d.now }) else d

/-- Contents of the retention domain after VBAT failed: free (R619). -/
def retentionLost (d : Device) : Device := each retainedRegs d (fun d a => nextFree (wr d a (freeVal d)))

/-- The release of power-on reset: straps, fuses, the keeper counter from 0, the cause of the reset (R608 step 1). -/
def powerRelease (d : Device) (straps : Nat) : Device :=
  if !d.pwr.resetHeld || d.pwr.dormant.isSome then d
  else
    let valid := d.pwr.vbatOk
    let d := if valid then d else retentionLost d
    let d := wr d Reg.GLB_STRAPS (Nat.land straps 0x37)
    let d := wr d Reg.GLB_RST_CAUSE (d.pwr.cause + 16 * (if d.pwr.cause = 5 then d.pwr.wakeSrc else 0) + 256 * b2n valid)
    let d := modPwr (vddBack d) (fun p => { p with resetHeld := false, t0 := d.now })
    nextFree { d with tb := { d.tb with keeper := 0, keeperAcc := freeVal d % (keeperQuarters d * 1000000000000000) } }

/-- GLB_BOOT_STATUS after the boot ROM's tries: those slots of the order that were tried and failed, and what was booted; none is
recovery (R606, R625). -/
def bootGo (d : Device) (err0 err1 : Bool) : List Nat → Nat × Option Nat
  | [] => (0, none)
  | s :: t =>
    let f := bootFail d s (if s = 0 then err0 else err1)
    if f = 0 then (0, some s)
    else
      let r := bootGo d err0 err1 t
      (r.1 + f * (if s = 0 then 256 else 1024), r.2)

/-- ME0 runs, from its boot ROM or from the image. -/
def me0Runs (d : Device) : Device := setFlag d 0x201000 0 true

/-- The firmware of slot s starts on ME0, ME1 and the runtime engines (R608 step 7). -/
def firmwareStart (d : Device) (s : Nat) : Device :=
  let img := slotImage d s
  let d := wr (wr d Reg.GLB_FW_VER (Config.imageVersion img).toNat) Reg.GLB_FW_CHK (Config.imageChecksum img).toNat
  let d := each (upTo 4) d (fun d b => setFlag d (Reg.ENG_FE_STATUS (4 * b)) 0 true)
  setFlag (me0Runs d) 0x201100 0 true

/-- The boot ROM's choice of the main image (R606, R607). -/
def boot (d : Device) (err0 err1 : Bool) : Device :=
  let order := bootOrder d
  let r := bootGo d err0 err1 order
  let forced := b2n (fld d Reg.GLB_STRAPS 5 4 != 0)
  let d := modPwr d (fun p => { p with imageDone := true })
  match r.2 with
  | some s => firmwareStart (wr d Reg.GLB_BOOT_STATUS (r.1 + s + 2 * b2n (order.head? != some s) + 4 * forced)) s
  | none => setFlag (me0Runs (wr d Reg.GLB_BOOT_STATUS (r.1 + 4 * forced + 8))) Reg.GLB_PWR_STATUS 1 true

/-- Core ready: every transport accepts commands; lanes take their power states (R608 step 8). -/
def coreUp (d : Device) : Device :=
  let d := setFlag d Reg.GLB_PWR_STATUS 0 true
  let d := setFld d Reg.GLB_BOOT_STATUS 23 16 (min 255 ((d.now - d.pwr.t0) / msTicks))
  each (upTo 40) d lanePower

end Sys2Proof.Machine
end

