-- ==== Sys2Proof/Machine/BusOps.lean ====
section
/-! DEFINITION. The write side of the control bus: pair-protected and write-once registers, write requests to ME1, and the
write of a register by its fields' access codes (R10 to R13, R504, R512 to R516, R526). -/

namespace Sys2Proof.Machine

open Sys2Proof

/-! ### Pair protection (R515) -/

/-- The key that a pair-protected register allows; none elsewhere (R524, R544, R546, R577, R620). -/
def ppKey (a : Nat) : Option Nat :=
  if a = Reg.GLB_DEV_RESET then some 0x73400001
  else if a = Reg.GLB_DORMANT then some 0x73400D00
  else if a = Reg.FLT_SHEARS_REQ then some 0x5AFE0001
  else if a = Reg.FLT_SHEARS_REL then some 0x5AFE0002
  else if a = Reg.RED_GRAFT_FORCE then some 0x734000A1
  else none

/-- PP_FAIL with the offset and the view in GLB_PP_ADDR. -/
def ppFailAt (d : Device) (v : View) (off : Nat) : Device :=
  event (wr d Reg.GLB_PP_ADDR (off + 2 ^ 24 * viewNum v + 2 ^ 31)) Reg.GLB_EVENT 2

/-- A failure found at the companion. R515 records "the offset": that of the register or that of the companion (log 51). -/
def ppFailComp (d : Device) (v : View) (a : Nat) : Device := nextFree (ppFailAt d v (a + 4 * (freeVal d % 2)))

/-- The pending value at a register: view, value, tick of the write. -/
def ppPending (d : Device) (a : Nat) : Option (Nat × Word × Nat) := tget (fun _ => none) d.bus.pp a

def setPending (d : Device) (a : Nat) (p : Option (Nat × Word × Nat)) : Device :=
  modBus d (fun b => { b with pp := tset (fun _ => none) b.pp a p })

/-- 64 control-bus cycles of 3.2 ns, in ticks. -/
def ppWindow : Nat := 256

/-- The view of a number. -/
def viewOf (n : Nat) : View := if n = 0 then .pcie else if n = 1 then .spi else .fw

/-- A pending value whose window has run out by a tick is discarded. -/
def ppExpire (d : Device) (a t : Nat) : Device :=
  match ppPending d a with
  | some p => if p.2.2 + ppWindow < t then ppFailAt (setPending d a none) (viewOf p.1) a else d
  | none => d

/-- A write of the register by a view, that arrived at a tick. -/
def ppWrite (d : Device) (v : View) (a : Nat) (x : Word) (t : Nat) : Device :=
  let d := ppExpire d a t
  match ppPending d a with
  | some p => if p.1 = viewNum v then setPending d a (some (viewNum v, x, t)) else ppFailAt d v a
  | none => setPending d a (some (viewNum v, x, t))

/-- An applied value takes its effect. -/
def ppApply (d : Device) (v : View) (a : Nat) (x : Word) : Device :=
  let d := wr (wr d a x.toNat) (a + 4) (~~~x).toNat
  if a = Reg.GLB_DEV_RESET then deviceReset d
  else if a = Reg.GLB_DORMANT then dormantEnter d
  else if a = Reg.FLT_SHEARS_REQ then shearsRequest d (0x70 + viewNum v)
  else if a = Reg.FLT_SHEARS_REL then shearsRelease d
  else graftForce d

/-- A write of the companion of the register at a, that arrived at a tick. -/
def ppComp (d : Device) (v : View) (a : Nat) (x : Word) (t : Nat) : Device :=
  let d := ppExpire d a t
  match ppPending d a with
  | none => ppFailComp d v a
  | some p =>
    if p.1 ≠ viewNum v then ppFailComp d v a
    else
      let d := setPending d a none
      if x = ~~~p.2.1 && ppKey a == some p.2.1.toNat then ppApply d v a p.2.1 else ppFailComp d v a

/-- The two writes of a pair, in consecutive cycles. -/
def ppPair (d : Device) (v : View) (a : Nat) (x comp : Word) : Device := ppComp (ppWrite d v a x d.dev) v a comp d.dev

/-- The window of a view's pending value has elapsed without its complement. -/
def ppElapsed (d : Device) (v : View) (a : Nat) : Device :=
  match ppPending d a with
  | some p => if p.1 = viewNum v then ppExpire d a d.dev else d
  | none => d

/-! ### The write-once register (R514) -/

/-- GLB_LOCK takes its first write after a reset, whatever the value; a later one is ignored and noted. -/
def lockWrite (d : Device) (v : View) (x : Nat) : Device :=
  if d.bus.wolLocked then
    event (wr d Reg.GLB_LOCKV_ADDR (Reg.GLB_LOCK + 2 ^ 24 * viewNum v + 2 ^ 31)) Reg.GLB_EVENT 1
  else modBus (wr d Reg.GLB_LOCK (bits x 1 0)) (fun b => { b with wolLocked := true })

/-! ### Plain registers (R11, R513, R516) -/

/-- RO fields that the block chapters say firmware or a command writes, which the firmware view may write (R504; log 52). -/
def fwMask (a : Nat) : Nat :=
  if a = Reg.GLB_FW_VER || a = Reg.GLB_FW_CHK then 0xFFFFFFFF
  else if a = Reg.GLB_LT_DEV || (0x240 ≤ a && a < 0x2E0) then 0xFFFFF
  else if (0x50000 ≤ a && a < 0x60000) && a % 0x8000 = 0 then 0xF30
  else if (0x50000 ≤ a && a < 0x60000) && 0x100 ≤ a % 0x8000 && a % 0x8000 < 0x300 then candMask (a % 0x20 / 4)
  else if 0x70100 ≤ a && a < 0x70200 && a % 0x10 = 0 then 0x31377
  else if 0x70100 ≤ a && a < 0x70200 && a % 0x10 = 4 then 0x7F7
  else if 0x70200 ≤ a && a < 0x70240 then 0xF7F7
  else if 0x70600 ≤ a && a < 0x70700 then
    (if a % 0x10 = 0 then 0x1FF0001 else if a % 0x10 = 4 then 0xFFFFFFFF else if a % 0x10 = 8 then 0xFF else 0)
  else if a = Reg.RED_SIDE_CFG then 0x11F1F
  else if a = Reg.RED_GRAFT_CFG then 0x1F01
  else if 0x100000 ≤ a && a < 0x128000 && a % 0x1000 = 0 then 1
  else if 0x140000 ≤ a && a < 0x168000 then
    (if a % 0x1000 = 0 then 1 else if a % 0x1000 = 0x230 || a % 0x1000 = 0x238 then 0xFFFFFFFF
      else if a % 0x1000 = 0x234 then 0xFFFF else 0)
  else if 0x1BE110 ≤ a && a < 0x1BF100 then (if a % 0x10 = 0 then 0x1F else 0x3FFFFFFF)
  else if 0x200000 ≤ a && a < 0x201200 then
    (if a % 0x100 = 0xC then 0x3FFF else if a % 0x100 = 0x14 then 0xFFFFFFFF
      else if 0x20 ≤ a % 0x100 && a % 0x100 < 0x30 then 0x3FF else 0)
  else if 0x280100 ≤ a && a < 0x280200 then 0x7FFFFFF
  else 0

/-- Set or keep the fields of a register by their codes: RW, RWE while the block's enable is clear, W1C (R11, R513), and RO
fields of fwMask in the firmware view. The value is valid. -/
def fieldWrite (d : Device) (v : View) (a x : Nat) (i : RegInfo) : Device :=
  let e := rweAt d a
  let refused := e.1 && Nat.land x i.rwe != Nat.land (rd d a) i.rwe
  let mask := if e.1 then i.rw else Nat.lor i.rw i.rwe
  let mask := if v = .fw then Nat.lor mask (fwMask a) else mask
  let new := merge (rd d a) mask x
  let d := wr d a (new - Nat.land new (Nat.land x i.w1c))
  match refused, e.2 with
  | true, some ev => event d ev.1 ev.2
  | _, _ => d

/-- What follows a write that has changed a register: PORTn_DLY_CHG (R268), lane power by TEST_EN (R82, R617), and the
restart of the holdover model (R307). -/
def afterWrite (d : Device) (a old : Nat) : Device :=
  if 0x100000 ≤ a && a < 0x128000 && a % 0x1000 = 0 then
    let n := (a - 0x100000) / 0x1000
    if rd d a = old then d else lanePower (setFlag d (Reg.LANE_PRBS_STAT n) 0 false) n
  else if 0x140000 ≤ a && a < 0x168000 && (a % 0x1000 = 0x200 || a % 0x1000 = 0x204 || a % 0x1000 = 0x210) then
    let n := (a - 0x140000) / 0x1000
    if rd d a = old then d else wr d (Reg.PORT_DLY_CHG n) (rd d (Reg.PORT_DLY_CHG n) + 1)
  else if a = Reg.TRL_MODEL 0 then modelRestart d 0
  else if a = Reg.TRL_MODEL 1 then modelRestart d 1
  else d

/-- A write of a register, or of a word of a counter, with no rule beyond its map (R11 to R13, R512). -/
def plainWrite (d : Device) (v : View) (a x : Nat) : Device :=
  match cntInfo a with
  | some c => if a = c.lo then setCnt d a x else d
  | none =>
    match regInfo a with
    | none => d
    | some i =>
      if i.rw = 0 && i.rwe = 0 && i.w1c ≠ 0 then clearEvents d a (Nat.land x i.w1c)
      else if !valueOk d a x then reject d a
      else afterWrite (fieldWrite d v a x i) a (rd d a)

/-! ### Write requests (R526) -/

/-- An offset of the FLT block. -/
def inFlt (a : Nat) : Bool := decide (0x20000 ≤ a) && decide (a < 0x30000)

/-- A write of the PCIe or SPI view to an FLT address becomes a request to ME1. -/
def fltRequest (d : Device) (v : View) (a : Nat) (x : Word) : Device :=
  modFlt d (fun s => { s with requests := s.requests ++ [(viewNum v, a, x, d.dev)] })

/-- ME1 carries out a write of an FLT address for a view, that arrived at a tick. -/
def fltWrite (d : Device) (v : View) (a : Nat) (x : Word) (t : Nat) : Device :=
  if a = Reg.FLT_SHEARS_REQ || a = Reg.FLT_SHEARS_REL then ppWrite d v a x t
  else if a = Reg.FLT_SHEARS_REQ_N || a = Reg.FLT_SHEARS_REL_N then ppComp d v (a - 4) x t
  else if a = Reg.FLT_PIN then pinWrite d x.toNat
  else if a = Reg.FLT_FEC_CTL then
    let d := fieldWrite d v a x.toNat ⟨0x40, 4, 1, 0, 0x1F, 0, 0, true⟩
    if bit x.toNat 9 then fecRearm d else d
  else plainWrite d v a x.toNat

/-- ME1 carries out the oldest request. -/
def fltNext (d : Device) : Device :=
  match d.flt.requests with
  | [] => d
  | r :: l => fltWrite (modFlt d (fun s => { s with requests := l })) (viewOf r.1) r.2.1 r.2.2.1 r.2.2.2

/-- ME1 carries out the requests that have arrived. -/
def fltDrain (d : Device) : Device := each d.flt.requests d (fun d _ => fltNext d)

end Sys2Proof.Machine
end

