-- ==== Sys2Proof/Machine/FaultRows.lean ====
section
/-! DEFINITION. The rows of the safety partition (R525 to R549). -/

namespace Sys2Proof.Machine

open Sys2Proof

/-- FLT_WRITE_REQUEST: ME1 carries out the oldest request (R526). -/
def execFltWriteRequest (w : Nat) (s : State) : Host.Outcome State Fault Refusal :=
  run w s (fun d => onlyIf (running d) d fltNext)

/-- ME1, which runs, has not restarted its watchdog for 1 ms (R527). -/
def me1Late (d : Device) : Device :=
  onlyIf (running d && flag d 0x201100 0) d (fun d => condBegins d { cause := 0x22, unit := uME 1 })

/-- ME1_WDT (R527). -/
def execMe1Wdt (w : Nat) (s : State) : Host.Outcome State Fault Refusal := run w s me1Late

/-- The two copies of the reaction logic disagree, of themselves or by factory injection (R525, R549). -/
def selfcheckDiffers (d : Device) : Device :=
  onlyIf (running d) d (fun d =>
    occur d { cause := 0x21, unit := uService 6, injected := injMode d (uService 6) 1 1 != 0 })

/-- SAFETY_SELFCHECK (R525). -/
def execSafetySelfcheck (w : Nat) (s : State) : Host.Outcome State Fault Refusal := run w s selfcheckDiffers

/-- REARM: ME1 carries out a write of FLT_FEC_CTL.REARM (R526, R538). -/
def execRearm (w : Nat) (v : View) (s : State) : Host.Outcome State Fault Refusal :=
  run w s (fun d => viewWrite d v Reg.FLT_FEC_CTL fecRearm)

/-- FLT_PIN_WRITE: ME1 carries out a write of FLT_PIN (R526, R542). -/
def execFltPinWrite (w : Nat) (v : View) (x : Word) (s : State) : Host.Outcome State Fault Refusal :=
  run w s (fun d => viewWrite d v Reg.FLT_PIN (fun d => pinWrite d x.toNat))

/-- FAULT_PULSE_END (R543): the keeper domain times the pulse, which stands while LOCAL_OSC is lost. -/
def execFaultPulseEnd (w : Nat) (s : State) : Host.Outcome State Fault Refusal :=
  run w s (fun d => onlyIf (!d.clk.oscLost && !d.pwr.resetHeld) d pulseDone)

/-- Factory mode has run for 1,000 ms. -/
def factoryEnds (d : Device) : Device :=
  match d.flt.factoryEnd with
  | some t => if t ≤ d.now then factoryStop d else d
  | none => d

/-- FACTORY_MODE_END (R549). -/
def execFactoryModeEnd (w : Nat) (s : State) : Host.Outcome State Fault Refusal :=
  run w s (fun d => onlyIf (!d.pwr.resetHeld) d factoryEnds)

end Sys2Proof.Machine
end

