-- ==== Sys2Proof/Machine/FrontRows.lean ====
section
/-! DEFINITION. The rows of the command transports: rings, mailbox, Brely commands, fence waits and time-outs (R472 to R489). -/

namespace Sys2Proof.Machine

open Sys2Proof

/-- CMD_SQ_DOORBELL (R481, R483). -/
def execCmdSqDoorbell (w : Nat) (v : View) (k : Fin 4) (x : Word) (s : State) : Host.Outcome State Fault Refusal :=
  run w s (fun d => viewWrite d v (Reg.CMD_SQ_TAIL k) (fun d => sqDoorbell d k x.toNat))

/-- A write of CMD_RINGk_CTL: EN, vector and coalescing, and RESET (R483, R502). COAL_CNT 0 is invalid. -/
def ringCtl (d : Device) (k : Fin 4) (x : Nat) : Device :=
  if bits x 23 16 = 0 then event d Reg.CMD_EVENT 6
  else
    let d := wr d (Reg.CMD_RING_CTL k) (Nat.land x 0xFFFF3F01)
    if bit x 1 then ringReset d k else d

/-- CMD_RING_RESET (R483). -/
def execCmdRingReset (w : Nat) (v : View) (k : Fin 4) (x : Word) (s : State) : Host.Outcome State Fault Refusal :=
  run w s (fun d => viewWrite d v (Reg.CMD_RING_CTL k) (fun d => ringCtl d k x.toNat))

/-- A write of CMD_CQk_HEAD frees space, and replies that waited are written (R482). -/
def cqHead (d : Device) (k : Fin 4) (x : Nat) : Device :=
  if x % 65536 % 16 ≠ 0 then event d Reg.CMD_EVENT 6 else deliverRing k 513 (wr d (Reg.CMD_CQ_HEAD k) (x % 65536))

/-- CMD_CQ_HEAD_WRITE (R482). -/
def execCmdCqHeadWrite (w : Nat) (v : View) (k : Fin 4) (x : Word) (s : State) : Host.Outcome State Fault Refusal :=
  run w s (fun d => viewWrite d v (Reg.CMD_CQ_HEAD k) (fun d => cqHead d k x.toNat))

/-- COAL_US microseconds have passed since the first unsignalled reply of ring k (R482). -/
def coalExpiry (d : Device) (k : Fin 4) : Device :=
  let u := tget (fun _ => (0, 0)) d.cmd.unsig k
  let us := fld d (Reg.CMD_RING_CTL k) 31 24
  if running d && u.1 != 0 && us != 0 && decide (u.2 + us * usTicks ≤ d.now) then
    sendMsix (modCmd d (fun t => { t with unsig := tset (fun _ => (0, 0)) t.unsig k (0, 0) })) (fld d (Reg.CMD_RING_CTL k) 13 8)
  else d

/-- COAL_US_EXPIRY (R482). -/
def execCoalUsExpiry (w : Nat) (k : Fin 4) (s : State) : Host.Outcome State Fault Refusal := run w s (fun d => coalExpiry d k)

/-- CMD_MBX_WDATA, through the SPI view only (R485). -/
def execCmdMbxWdata (w : Nat) (x : Word) (s : State) : Host.Outcome State Fault Refusal :=
  run w s (fun d => onlyIf (running d) d (fun d => mbxPut d x))

/-- SUBMIT of CMD_MBX_CTL (R485). -/
def execSubmit (w : Nat) (s : State) : Host.Outcome State Fault Refusal :=
  run w s (fun d => onlyIf (running d) d mbxSubmit)

/-- DISCARD of CMD_MBX_CTL (R485). -/
def execDiscard (w : Nat) (s : State) : Host.Outcome State Fault Refusal :=
  run w s (fun d => onlyIf (running d) d mbxEmpty)

/-- A read of CMD_MBX_RDATA, through the SPI view only (R486, R507). -/
def execCmdMbxRdata (w : Nat) (s : State) : Host.Outcome State Fault Refusal :=
  run w s (fun d => onlyIf (running d) d mbxReadWord)

/-- BRELY_COMMAND: a command frame of the Brely link (R489). -/
def execBrelyCommand (w : Nat) (bytes : List Byte) (s : State) : Host.Outcome State Fault Refusal :=
  run w s (fun d => brelyCommandFrame d bytes)

/-- The command in flight of an origin with a tag. -/
def tagged (d : Device) (o : Origin) (tag : BitVec 10) (p : InFlight → Bool) : Option InFlight :=
  d.cmd.inflight.find? (fun c => c.origin == o && c.pkt.tag == tag && p c)

/-- FENCE_WAIT_END: a command leaves fence wait (R473). -/
def execFenceWaitEnd (w : Nat) (o : Origin) (tag : BitVec 10) (s : State) : Host.Outcome State Fault Refusal :=
  run w s (fun d =>
    match tagged d o tag (fun c => c.stage == .wait) with
    | some c => fenceEnd d c
    | none => d)

/-- TIMEOUT: a command in work has reached CMD_CFG.WDT_MS (R476). -/
def execTimeout (w : Nat) (o : Origin) (tag : BitVec 10) (s : State) : Host.Outcome State Fault Refusal :=
  run w s (fun d =>
    match tagged d o tag (fun c => running d && timedOut d c) with
    | some c => timeOut d c
    | none => d)

end Sys2Proof.Machine
end

