-- ==== Sys2Proof/Machine/Ladder.lean ====
section
/-! DEFINITION. The ladder rows: messages that ME0 receives, and the repeats and time-outs of its states (R55 to R64). -/

namespace Sys2Proof.Machine

open Sys2Proof

/-- A ladder message of a kind comes in on lane n of a port that is not DISABLED, once the firmware runs (R61, R62, R646). -/
def ladderIn (d : Device) (n kind : Nat) (m : LadderMsg) : Device :=
  onlyIf (ticking d && coreReady d && portSt d (laneOwner d n) != 0) d (fun d => ladderRx d n kind m)

/-- The firmware's ladder of lane n: the lane is the timing lane of a port, and the firmware runs. -/
def ladderRuns (d : Device) (n : Nat) : Bool := running d && coreReady d && isTiming d n

/-- LADDER_OFFER_RX (R61, R62). -/
def execLadderOfferRx (w : Nat) (n : Fin 40) (m : LadderMsg) (s : State) : Host.Outcome State Fault Refusal :=
  run w s (fun d => ladderIn d n 1 m)

/-- LADDER_STEP_RX (R61, R62). -/
def execLadderStepRx (w : Nat) (n : Fin 40) (m : LadderMsg) (s : State) : Host.Outcome State Fault Refusal :=
  run w s (fun d => ladderIn d n 2 m)

/-- LADDER_STEP_ACK_RX (R61, R62). -/
def execLadderStepAckRx (w : Nat) (n : Fin 40) (m : LadderMsg) (s : State) : Host.Outcome State Fault Refusal :=
  run w s (fun d => ladderIn d n 3 m)

/-- LADDER_REPORT_RX (R61, R62). -/
def execLadderReportRx (w : Nat) (n : Fin 40) (m : LadderMsg) (s : State) : Host.Outcome State Fault Refusal :=
  run w s (fun d => ladderIn d n 4 m)

/-- LADDER_FINAL_RX (R61, R62). -/
def execLadderFinalRx (w : Nat) (n : Fin 40) (m : LadderMsg) (s : State) : Host.Outcome State Fault Refusal :=
  run w s (fun d => ladderIn d n 5 m)

/-- LADDER_FINAL_ACK_RX (R61, R62). -/
def execLadderFinalAckRx (w : Nat) (n : Fin 40) (m : LadderMsg) (s : State) : Host.Outcome State Fault Refusal :=
  run w s (fun d => ladderIn d n 6 m)

/-- LADDER_ABANDON_RX (R61, R62). -/
def execLadderAbandonRx (w : Nat) (n : Fin 40) (m : LadderMsg) (s : State) : Host.Outcome State Fault Refusal :=
  run w s (fun d => ladderIn d n 7 m)

/-- A state's message is sent again: each 1 ms, in NO_PEER each second (R62). -/
def ladderRepeat (d : Device) (n : Nat) : Device :=
  let x := ladderOf d n
  let gap := if ladderSt d n = 9 then secTicks else msTicks
  match x.sent with
  | some (k, m) =>
    if ladderRuns d n && decide (x.lastSent + gap ≤ d.dev) then
      emit (modLadder d n (fun y => { y with lastSent := d.dev })) (.ladder n k m)
    else d
  | none => d

/-- LADDER_REPEAT (R62). -/
def execLadderRepeat (w : Nat) (n : Fin 40) (s : State) : Host.Outcome State Fault Refusal :=
  run w s (fun d => ladderRepeat d n)

/-- OFFER_TMO in OFFERING with no partner OFFER: NO_PEER, which sends OFFER every second, and the port works as 1000BASE-X
(R62 row 2 (g)). -/
def offerOver (d : Device) (n : Nat) : Device :=
  let x := ladderOf d n
  if ladderRuns d n && ladderSt d n == 2 && x.peer.isNone && decide (x.t0 + offerTmo d n ≤ d.dev) then
    let q := (x.seq + 1) % 1024
    let d := event (setLadderSt d n 9) (Reg.LANE_EVENT n) 7
    let d := modLadder d n (fun y =>
      { y with seq := q, sent := some (1, ladderMsg d n 0 (rateMax d n) 0 [] q), lastSent := d.dev })
    linkEval d n
  else d

/-- OFFER_TMO (R62). -/
def execOfferTmo (w : Nat) (n : Fin 40) (s : State) : Host.Outcome State Fault Refusal := run w s (fun d => offerOver d n)

/-- ADAPT_TMO after the switch or the revert (R62 rows 4 (b), 6 (b)). -/
def adaptOver (d : Device) (n : Nat) : Device :=
  let x := ladderOf d n
  if ladderRuns d n && decide (x.t0 + adaptTmo d n ≤ d.dev) then
    match ladderSt d n with
    | 4 => ladderRevert d n 1
    | 6 => ladderAbandon (ladderFailed d n x.rung 5) n false false
    | _ => d
  else d

/-- ADAPT_TMO (R62). -/
def execAdaptTmo (w : Nat) (n : Fin 40) (s : State) : Host.Outcome State Fault Refusal := run w s (fun d => adaptOver d n)

/-- ADAPT_TMO + REPORT_TMO in STEPPING of the leader and in REPORTING, REPORT_TMO in FINALISING (R62 rows 3 (c), 5 (f), 7 (b)).
A revert that brings no REPORT fails for want of one. -/
def reportOver (d : Device) (n : Nat) : Device :=
  let x := ladderOf d n
  let both := decide (x.t0 + adaptTmo d n + reportTmo d n ≤ d.dev)
  if !ladderRuns d n then d
  else
    match ladderSt d n with
    | 3 =>
      if both && x.sent.isSome && x.switchAt.isNone then ladderAbandon (ladderFailed d n x.target 4) n false false else d
    | 5 =>
      if !both then d
      else if x.reverted then ladderAbandon (ladderFailed d n x.rung 2) n false false
      else ladderRevert d n 2
    | 7 =>
      if x.t0 + reportTmo d n ≤ d.dev then ladderAbandon (ladderFailed d n x.rung 6) n false false else d
    | _ => d

/-- ADAPT_REPORT_TMO (R62). -/
def execAdaptReportTmo (w : Nat) (n : Fin 40) (s : State) : Host.Outcome State Fault Refusal :=
  run w s (fun d => reportOver d n)

/-- 100 us after STEP_ACK: the rate switches, and the ladder adapts (R62 rows 3 (a), 3 (b)). -/
def switchOver (d : Device) (n : Nat) : Device :=
  match (ladderOf d n).switchAt with
  | some t => if ladderRuns d n && ladderSt d n == 3 && decide (t ≤ d.dev) then ladderSwitch d n else d
  | none => d

/-- LADDER_SWITCH_DELAY (R62). -/
def execLadderSwitchDelay (w : Nat) (n : Fin 40) (s : State) : Host.Outcome State Fault Refusal :=
  run w s (fun d => switchOver d n)

end Sys2Proof.Machine
end

