-- ==== Sys2Proof/Machine/Lanes.lean ====
section
/-! DEFINITION. The lane rows: eye figure windows, CDR lock, adaptation, power states, equaliser and pattern registers (R49,
R65 to R85). -/

namespace Sys2Proof.Machine

open Sys2Proof

/-! ### The eye figure (R66 to R68) -/

/-- Samples of a level. -/
def levelCount (h : List Nat) : Nat := h.foldl (fun a b => a + b) 0

/-- Sum of bin numbers over the samples of a level, counted from bin i. -/
def levelSum : Nat → List Nat → Nat
  | _, [] => 0
  | i, c :: t => i * c + levelSum (i + 1) t

/-- Lowest bin b, counted from i, such that the samples in bins at or above b are at most t (R66). -/
def topBin (t : Nat) : Nat → List Nat → Nat
  | i, [] => i
  | i, c :: l => if levelCount (c :: l) ≤ t then i else topBin t (i + 1) l

/-- Highest bin b such that the samples in bins at or below b are at most t, with i bins and a samples passed (R66); −1 where
bin 0 holds more. -/
def botBin (t : Nat) : Nat → Nat → List Nat → Int
  | i, _, [] => (i : Int) - 1
  | i, a, c :: l => if a + c ≤ t then botBin t (i + 1) (a + c) l else (i : Int) - 1

/-- fom of the eye between two levels (R66); a free value where a level has no samples, whose mean the spec does not give, and
a free rounding of the quotient (log 15). -/
def fomOf (d : Device) (lo hi : List Nat) : Nat :=
  let n0 := levelCount lo
  let n1 := levelCount hi
  if n0 = 0 || n1 = 0 then freeVal d % 256
  else
    let h := botBin (max 1 (n1 / 2 ^ 14)) 0 0 hi - topBin (max 1 (n0 / 2 ^ 14)) 0 lo
    -- D as a fraction over n0 · n1
    let dn : Int := (levelSum 0 hi * n0 : Nat) - (levelSum 0 lo * n1 : Nat)
    if dn ≤ 0 then 0
    else (min 255 (max 0 (rdiv d (256 * h * (n0 * n1 : Nat)) dn.toNat))).toNat

/-- The figures LOWER, MIDDLE, UPPER of a window (R66, R82), and EYE_FOM. -/
def eyes (d : Device) (pam4 : Bool) (hist : List (List Nat)) : Nat × Nat × Nat × Nat :=
  let h (k : Nat) : List Nat := hist.getD k []
  if pam4 then
    let a := fomOf d (h 0) (h 1)
    let b := fomOf d (h 1) (h 2)
    let c := fomOf d (h 2) (h 3)
    (a, b, c, min a (min b c))
  else (0, fomOf d (h 0) (h 1), 0, fomOf d (h 0) (h 1))

/-- TIMING_OK after a window or a gain of PHASE_ACQ: 16 good windows, or the shortcut of a wake (R68, R73). -/
def timingEval (d : Device) (n : Nat) : Device :=
  let l := lane d n
  if flag d (Reg.LANE_STATUS n) 7 && (decide (16 ≤ l.timingRun) || (l.wakeArmed && l.wakeWin == some true)) then
    setTiming (modLane d n (fun x => { x with wakeArmed := false, wakeWin := none })) n true
  else d

/-- A window's figure qualifies the lane (R68, R73). -/
def windowFlags (d : Device) (n fom : Nat) : Device :=
  let d := modLane d n (fun x =>
    { x with
      usableRun := if 64 ≤ fom then min (x.usableRun + 1) 2 else 0
      belowRun := if 64 ≤ fom then 0 else min (x.belowRun + 1) 2
      timingRun := if 96 ≤ fom then min (x.timingRun + 1) 16 else 0
      wakeWin := if x.wakeArmed && x.wakeWin.isNone then some (decide (96 ≤ fom)) else x.wakeWin
      wakeArmed := x.wakeArmed && (x.wakeWin == some true || decide (96 ≤ fom)) })
  let l := lane d n
  let d := if l.usableRun = 2 then setUsable d n true else if l.belowRun = 2 then setUsable d n false else d
  if fom < 96 then setTiming d n false else timingEval d n

/-- A window of 2^20 symbols ends on lane n with its histograms, level by level (R66 to R68, R82). -/
def windowEnd (d : Device) (n : Nat) (hist : List (List Nat)) : Device :=
  let st := rd d (Reg.LANE_STATUS n)
  if !running d || !bit st 3 || !bit st 4 || bit st 10 then d
  else
    let (a, b, c, f) := eyes d (bit st 2) hist
    let free := hist.any (fun h => levelCount h == 0)
    let fr := rd d (Reg.LANE_FOM n)
    let d := wr d (Reg.LANE_EYE n) (a + 2 ^ 8 * b + 2 ^ 16 * c)
    let d := wr d (Reg.LANE_FOM n) (f + 2 ^ 8 * min (bits fr 15 8) f + 2 ^ 16 * min (bits fr 31 16 + 1) 0xFFFF)
    let d := laneChanged (windowFlags d n f) n
    if free then nextFree d else d

/-- LANE_WINDOW_END (R66). -/
def execLaneWindowEnd (w : Nat) (n : Fin 40) (hist : List (List Nat)) (s : State) : Host.Outcome State Fault Refusal :=
  run w s (fun d => windowEnd d n hist)

/-! ### CDR and adaptation (R49, R65, R67, R73) -/

/-- CDR lock is lost (R67). -/
def cdrLoss (d : Device) (n : Nat) : Device :=
  if running d && flag d (Reg.LANE_STATUS n) 4 then
    let d := modLane d n (fun x => { x with wakeArmed := false, wakeWin := none })
    laneChanged (event (laneUnlock d n) (Reg.LANE_EVENT n) 0) n
  else d

/-- CDR_LOST (R67). -/
def execCdrLost (w : Nat) (n : Fin 40) (s : State) : Host.Outcome State Fault Refusal := run w s (fun d => cdrLoss d n)

/-- The receiver of a lane reaches CDR lock on a signal whose rate is ppb parts in 10^9 off its lane reference: within 1,100
ppm, with the receiver ON or waking (R49, R71, R82). -/
def cdrGain (d : Device) (n : Nat) (ppb : Int) : Device :=
  let l := lane d n
  let on := fld d (Reg.LANE_STATUS n) 10 10 == 0 || l.rxWake.isSome
  if !ticking d || !on || flag d (Reg.LANE_STATUS n) 4 || decide (1100000 < ppb.natAbs) then d
  else
    let d := setFlag (setFlag d (Reg.LANE_STATUS n) 3 true) (Reg.LANE_STATUS n) 4 true
    let d := setFld d (Reg.LANE_FOM n) 31 16 0
    let d := setFlag d (Reg.LANE_PH_STATUS n) 2 false
    let d := modLane d n (fun x =>
      { x with acqFrom := some d.dev, winSlip := false, usableRun := 0, belowRun := 0, timingRun := 0 })
    laneChanged d n

/-- CDR_LOCK (R73). -/
def execCdrLock (w : Nat) (n : Fin 40) (ppb : Int) (s : State) : Host.Outcome State Fault Refusal :=
  run w s (fun d => cdrGain d n ppb)

/-- The setting with the highest figure of the sweep, the lowest such one, of the first 16. -/
def bestSetting (foms : List Nat) : Nat :=
  ((upTo 16).foldl (fun (b : Nat × Nat) (i : Nat) => if b.2 < foms.getD i 0 then (i, foms.getD i 0) else b) (0, foms.getD 0 0)).1

/-- The coarse sweep ends; the fine phase begins (R65). -/
def sweepDone (d : Device) (n : Nat) (foms : List Nat) : Device :=
  onlyIf (running d && flag d (Reg.LANE_STATUS n) 4 && (lane d n).coarse) d (fun d =>
    modLane d n (fun x => { x with coarse := false, peaking := bestSetting foms }))

/-- COARSE_SWEEP_DONE (R65). -/
def execCoarseSweepDone (w : Nat) (n : Fin 40) (foms : List Nat) (s : State) : Host.Outcome State Fault Refusal :=
  run w s (fun d => sweepDone d n foms)

/-- ADAPT_RESTART of LANEn_CTL (R65, R79). -/
def adaptAgain (d : Device) (n : Nat) : Device :=
  if refSelected d (laneOwner d n) then event d (Reg.LANE_EVENT n) 11 else modLane d n (fun x => { x with coarse := true })

/-- ADAPT_RESTART (R65). -/
def execAdaptRestart (w : Nat) (v : View) (n : Fin 40) (s : State) : Host.Outcome State Fault Refusal :=
  run w s (fun d => viewWrite d v (Reg.LANE_CTL n) (fun d => adaptAgain d n))

/-- FOM_MIN_CLR of LANEn_CTL (R79). -/
def fomClear (d : Device) (n : Nat) : Device := setFld d (Reg.LANE_FOM n) 15 8 0xFF

/-- FOM_MIN_CLR (R79). -/
def execFomMinClr (w : Nat) (v : View) (n : Fin 40) (s : State) : Host.Outcome State Fault Refusal :=
  run w s (fun d => viewWrite d v (Reg.LANE_CTL n) (fun d => fomClear d n))

/-! ### Power states (R70 to R75, R84) -/

/-- A write of LANEn_PWR (R74, R75, R84). -/
def pwrWrite (d : Device) (n x : Nat) : Device :=
  if bits x 2 1 = 3 then event d (Reg.LANE_EVENT n) 12 else lanePower (setFld d (Reg.LANE_PWR n) 3 0 (bits x 3 0)) n

/-- LANE_PWR_WRITE (R74). -/
def execLanePwrWrite (w : Nat) (v : View) (n : Fin 40) (x : Word) (s : State) : Host.Outcome State Fault Refusal :=
  run w s (fun d => viewWrite d v (Reg.LANE_PWR n) (fun d => pwrWrite d n x.toNat))

/-- An entry sequence of a direction ends; a request to ON that came meanwhile takes effect (R71, R72). -/
def entryDone (d : Device) (n : Nat) (dir : Dir) : Device :=
  let l := lane d n
  if !running d then d
  else
    match dir with
    | .tx =>
      match l.txEntry with
      | some t =>
        let d := setFld d (Reg.LANE_STATUS n) 9 8 t
        modLane d n (fun x =>
          { x with txEntry := none, txOnAfter := false, txWake := if x.txOnAfter then some d.dev else none })
      | none => d
    | .rx =>
      match l.rxEntry with
      | some _ =>
        let d := laneUnlock (setFld d (Reg.LANE_STATUS n) 10 10 1) n
        let d := modLane d n (fun x =>
          { x with rxEntry := none, rxOnAfter := false, rxWake := if x.rxOnAfter then some d.dev else none })
        laneChanged d n
      | none => d

/-- LANE_POWER_ENTRY_DONE (R71). -/
def execLanePowerEntryDone (w : Nat) (n : Fin 40) (dir : Dir) (s : State) : Host.Outcome State Fault Refusal :=
  run w s (fun d => entryDone d n dir)

/-- A direction has woken: the transmitter to the state asked for, the receiver ON, adapting from its retained state (R70,
R71). -/
def laneWoken (d : Device) (n : Nat) (dir : Dir) : Device :=
  if !running d then d
  else
    match dir with
    | .tx =>
      onlyIf (lane d n).txWake.isSome d (fun d =>
        modLane (setFld d (Reg.LANE_STATUS n) 9 8 (powerWanted d n).1) n (fun x => { x with txWake := none }))
    | .rx =>
      onlyIf (lane d n).rxWake.isSome d (fun d =>
        modLane (setFld d (Reg.LANE_STATUS n) 10 10 0) n (fun x => { x with rxWake := none, coarse := false }))

/-- LANE_WAKE_DONE (R70). -/
def execLaneWakeDone (w : Nat) (n : Fin 40) (dir : Dir) (s : State) : Host.Outcome State Fault Refusal :=
  run w s (fun d => laneWoken d n dir)

/-! ### Transmit taps and patterns (R69, R77, R85) -/

/-- A write of LANEn_TXEQk (R69, R81). -/
def txeqWrite (d : Device) (n k x : Nat) : Device :=
  if 63 < bits x 5 0 + bits x 13 8 + bits x 21 16 + bits x 29 24 then event d (Reg.LANE_EVENT n) 12
  else wr d (Reg.LANE_TXEQ n k) (Nat.land x 0x3F3F3F3F)

/-- LANE_TXEQ_WRITE (R69). -/
def execLaneTxeqWrite (w : Nat) (v : View) (n : Fin 40) (k : Fin 4) (x : Word) (s : State) : Host.Outcome State Fault Refusal :=
  run w s (fun d => viewWrite d v (Reg.LANE_TXEQ n k) (fun d => txeqWrite d n k x.toNat))

/-- A pattern fits a rate: PAM4 patterns at rate 3, NRZ patterns at the others (R77, R85). -/
def patternFits (rate p : Nat) : Bool := if rate = 3 then p == 3 || p == 4 else decide (p < 3)

/-- A write of LANEn_PRBS_CTL (R85): both patterns must fit the modulation. -/
def prbsWrite (d : Device) (n x : Nat) : Device :=
  let rate := fld d (Reg.LANE_STATUS n) 1 0
  if patternFits rate (bits x 3 1) && patternFits rate (bits x 7 5) then
    let d := wr d (Reg.LANE_PRBS_CTL n) (bits x 7 0)
    if bit x 4 then d else setFlag d (Reg.LANE_PRBS_STAT n) 0 false
  else event d (Reg.LANE_EVENT n) 12

/-- PRBS_CTL_WRITE (R85). -/
def execPrbsCtlWrite (w : Nat) (v : View) (n : Fin 40) (x : Word) (s : State) : Host.Outcome State Fault Refusal :=
  run w s (fun d => viewWrite d v (Reg.LANE_PRBS_CTL n) (fun d => prbsWrite d n x.toNat))

/-- Errors counted in LANEn_PRBS_ERR (R85). -/
def prbsCount (d : Device) (n k : Nat) : Device :=
  let v := fld d (Reg.LANE_PRBS_ERR n) 30 0 + k
  let d := setFld d (Reg.LANE_PRBS_ERR n) 30 0 (v % 2 ^ 31)
  if v < 2 ^ 31 then d else setFlag d (Reg.LANE_PRBS_ERR n) 31 true

/-- The checker of a lane reports its lock and what it has counted (R77, R85). -/
def checker (d : Device) (n : Nat) (lock : Bool) (errors : Nat) : Device :=
  let on := running d && flag d (Reg.LANE_PRBS_CTL n) 4 && !flag d (Reg.LANE_CTL n) 0 && flag d (Reg.LANE_CTL n) 1
    && fld d (Reg.LANE_STATUS n) 10 10 == 0
  if !on then d
  else
    let was := flag d (Reg.LANE_PRBS_STAT n) 0
    let d := setFlag d (Reg.LANE_PRBS_STAT n) 0 lock
    if lock || was then prbsCount d n errors else d

/-- CHK_LOCK (R85). -/
def execChkLock (w : Nat) (n : Fin 40) (lock : Bool) (errors : Nat) (s : State) : Host.Outcome State Fault Refusal :=
  run w s (fun d => checker d n lock errors)

end Sys2Proof.Machine
end

