-- ==== Sys2Proof/Machine/MeterRows.lean ====
section
/-! DEFINITION. The rows of the fine interval meters: calibration, self-test, edges, gates and the read window (R345 to R381). -/

namespace Sys2Proof.Machine

open Sys2Proof

/-- METER_CAL_START (R346). -/
def execMeterCalStart (w : Nat) (s : State) : Host.Outcome State Fault Refusal :=
  run w s (fun d => onlyIf (ticking d) d calStart)

/-- CAL_DONE (R347). -/
def execCalDone (w : Nat) (m : MeterId) (r : CalResult) (s : State) : Host.Outcome State Fault Refusal :=
  run w s (fun d => onlyIf (ticking d) d (fun d => calEnd d (meterKey m) r))

/-- SHADOW_BLOCK_END (R349). -/
def execShadowBlockEnd (w : Nat) (m : MeterId) (mean : Int) (rms : Nat) (s : State) : Host.Outcome State Fault Refusal :=
  run w s (fun d => onlyIf (ticking d) d (fun d => shadowEnd d (meterKey m) mean rms))

/-- RING_PERIOD_CHECK (R346). -/
def execRingPeriodCheck (w : Nat) (m : MeterId) (pStart pStop : Nat) (s : State) : Host.Outcome State Fault Refusal :=
  run w s (fun d => onlyIf (ticking d) d (fun d => ringCheck d (meterKey m) pStart pStop))

/-- An edge reaches the ball: stamped while the tick runs; else lost, though the input keeps its new level (R376). -/
def edgeIn (d : Device) (k : Nat) (rising : Bool) (c : Conv) : Device :=
  if decide (60 ≤ k) && !d.fuse.ma then d
  else if ticking d then meterEdge d k rising c
  else modMeter d k (fun m => { m with level := rising })

/-- METER_EDGE (R352 to R354). -/
def execMeterEdge (w : Nat) (m : MeterId) (rising : Bool) (c : Conv) (s : State) : Host.Outcome State Fault Refusal :=
  run w s (fun d => edgeIn d (meterKey m) rising c)

/-- MEAS_GATE_CLOSE: the time base of a job reaches the end of its gate (R365, R370). -/
def execMeasGateClose (w : Nat) (m : MeterId) (s : State) : Host.Outcome State Fault Refusal :=
  run w s (fun d => onlyIf (ticking d) d (fun d =>
    match (meterOf d (meterKey m)).job with
    | some j => gatesTo d (meterKey m) (domNs d j.domain)
    | none => d))

/-- The oldest record of the queue that CLK_MTR_RD_SEL selects, taken out, in 16 words (R377). -/
def takeRecord (d : Device) : List Word × Device :=
  let k := 40 + fld d Reg.CLK_MTR_RD_SEL 4 0
  let st := flag d Reg.CLK_MTR_RD_SEL 8
  match mtrQueue d k st with
  | r :: _ => ((r ++ List.replicate 16 0).take 16, mtrTake d k st 1)
  | [] => (List.replicate 16 0, d)

/-- CLK_MTR_RD_W0: a read of the record window's first word (R377, R507). -/
def execClkMtrRdW0 (w : Nat) (v : View) (first : Bool) (s : State) : Host.Outcome State Fault Refusal :=
  run w s (fun d => removeRead d v (Reg.CLK_MTR_RD_W 0) first takeRecord)

end Sys2Proof.Machine
end

