-- ==== Sys2Proof/Machine/Phase.lean ====
section
/-! DEFINITION. The lane phase rows: slips, acquisition, published windows, skew, transmit alignment, temperature and the fibre
asymmetry coefficient (R249 to R267). -/

namespace Sys2Proof.Machine

open Sys2Proof

/-- The lane meter of lane n measures (R253): receiver ON, CDR locked. -/
def phaseRuns (d : Device) (n : Nat) : Bool :=
  ticking d && flag d (Reg.LANE_STATUS n) 4 && fld d (Reg.LANE_STATUS n) 10 10 == 0

/-- The means of two consecutive blocks differ by dfs femtoseconds beyond the drift: a slip at SLIP_THR or more (R254, R255). -/
def slipAt (d : Device) (n dfs : Nat) : Device :=
  if phaseRuns d n && decide (fld d (Reg.LANE_PH_CFG n) 15 8 * 1000 ≤ dfs) then
    let d := event d (Reg.LANE_PH_EVENT n) 0
    let d := setFld d (Reg.LANE_PH_STATUS n) 31 16 (min (fld d (Reg.LANE_PH_STATUS n) 31 16 + 1) 0xFFFF)
    let d := setTiming (setAcq d n false) n false
    laneChanged (modLane d n (fun x => { x with acqFrom := some d.dev, winSlip := true })) n
  else d

/-- SLIP (R254). -/
def execSlip (w : Nat) (n : Fin 40) (dfs : Nat) (s : State) : Host.Outcome State Fault Refusal :=
  run w s (fun d => slipAt d n dfs)

/-- CDR_LOCK has held for 200 us with no slip: PHASE_ACQ, and TIMING_OK where its windows allow (R68, R73, R255). -/
def acqTimer (d : Device) (n : Nat) : Device :=
  match (lane d n).acqFrom with
  | some t =>
    if phaseRuns d n && !flag d (Reg.LANE_STATUS n) 7 && decide (t + 200 * usTicks ≤ d.dev) then
      laneChanged (timingEval (setAcq d n true) n) n
    else d
  | none => d

/-- PHASE_ACQ_TIMER (R255). -/
def execPhaseAcqTimer (w : Nat) (n : Fin 40) (s : State) : Host.Outcome State Fault Refusal := run w s (fun d => acqTimer d n)

/-- What a published window of lane n tells the LANE entries of a side: f against LOCAL_OSC, and the time error (R284, R285). -/
def laneMeasures (d : Device) (n : Nat) (rate : Int) (x : Nat) : Device :=
  each (upTo 16) d (fun d e =>
    let c := candOf d x e
    if cValid d x e && cType d x e == 0 && cIndex d x e == n && c.present then
      measured d x e (c.base - ((lane d n).phi - c.phi0) * 2 ^ 32) (rate + dcoWord d (activeSide d))
    else d)

/-- An averaging window ends (R257): the unwrapped phase at its centre, in 2^-16 ns, and the slope, in 10^-15. A window with a
slip publishes nothing. The phase is reduced modulo 0.8 ns, which is 262,144 fifths of 2^-16 ns. -/
def windowPublish (d : Device) (n : Nat) (u rate : Int) : Device :=
  if !phaseRuns d n then d
  else if (lane d n).winSlip then modLane d n (fun x => { x with winSlip := false })
  else
    let seq := fld d (Reg.LANE_PH_AVG n) 31 16
    let d := wr d (Reg.LANE_PH_AVG n) ((5 * u % 262144).toNat / 5 + 2 ^ 16 * ((seq + 1) % 2 ^ 16))
    let d := wr48 d (Reg.LANE_PH_RATE_LO n) (Reg.LANE_PH_RATE_HI n) (unsigned 48 rate)
    let d := modLane d n (fun x => { x with phi := u })
    let d := each (upTo 2) d (fun d x => laneMeasures d n rate x)
    if isTiming d n then l1Eval d n else d

/-- PHASE_WINDOW_PUBLISH (R257). -/
def execPhaseWindowPublish (w : Nat) (n : Fin 40) (unwrapped rate : Int) (s : State) : Host.Outcome State Fault Refusal :=
  run w s (fun d => windowPublish d n unwrapped rate)

/-- A marker period of a gang lane ends: the marker's time at its ball less that at the timing lane's, in 2^-16 ns, enters
S_RX, the mean over the last 256 (R260, R261). The mean's rounding is free (log 15). -/
def markerPeriod (d : Device) (n : Nat) (diff : Int) : Device :=
  let p := laneOwner d n
  if !ticking d || p == n || !flag d (Reg.PORT_STATUS p) 14 then d
  else
    let l := lane d n
    let s := (diff :: l.skews).take 256
    let m := rdiv d (s.foldl (fun a b => a + b) 0) s.length
    let jump := match l.skewBase with
      | some b => l.skews.isEmpty && decide (655360 < (m - b).natAbs * 1000)
      | none => false
    let d := wr d (Reg.LANE_SKEW_RX n) (unsigned 32 m)
    eventIf jump (modLane d n (fun x => { x with skews := s })) (Reg.LANE_PH_EVENT n) 4

/-- SKEW_MARKER_PERIOD (R261). -/
def execSkewMarkerPeriod (w : Nat) (n : Fin 40) (diff : Int) (s : State) : Host.Outcome State Fault Refusal :=
  run w s (fun d => markerPeriod d n diff)

/-- The alignment monitor of lane n has seen 16 misaligned edges (R250). -/
def txMisaligned (d : Device) (n : Nat) : Device :=
  if !ticking d || fld d (Reg.LANE_STATUS n) 9 8 != 0 then d
  else
    let d := modLane (event d (Reg.LANE_PH_EVENT n) 3) n (fun x => { x with realign := true })
    condBegins d { cause := 0x0D, unit := uLane n }

/-- TX_ALIGN_ERR (R250). -/
def execTxAlignErr (w : Nat) (n : Fin 40) (s : State) : Host.Outcome State Fault Refusal := run w s (fun d => txMisaligned d n)

/-- The transmitter has realigned: the condition of its fault ends (R250, R532). -/
def txAligned (d : Device) (n : Nat) : Device :=
  onlyIf (ticking d && (lane d n).realign) d (fun d =>
    condEnds (modLane d n (fun x => { x with realign := false })) 0x0D (uLane n) 0)

/-- TX_REALIGN (R250). -/
def execTxRealign (w : Nat) (n : Fin 40) (s : State) : Host.Outcome State Fault Refusal := run w s (fun d => txAligned d n)

/-- One step of at most 2^-16 ns from a constant in force toward its target (R264): K_25 in 2^-16 ns, the coefficient in 2^-20
ns per degree, Tj in thousandths of a degree. The target's rounding is free (log 15). -/
def kStep (d : Device) (cur k25 : Nat) (tc tj : Int) : Nat :=
  let t := (k25 : Int) + rdiv d (tc * (tj - 25000)) 16000
  if (cur : Int) < t then cur + 1 else if t < cur then cur - 1 else cur

/-- The constants of lane n for its rate take a step (R264). -/
def kUpdate (d : Device) (n : Nat) (tj : Int) : Device :=
  if !running d then d
  else
    let k := fld d (Reg.LANE_STATUS n) 1 0
    let tc := rd d (Reg.LANE_KTC n)
    let d' := wr d (Reg.LANE_KTX_CUR n)
      (kStep d (rd d (Reg.LANE_KTX_CUR n)) (rd d (Reg.LANE_KTX n k)) (signed 16 (bits tc 15 0)) tj % 2 ^ 20)
    wr d' (Reg.LANE_KRX_CUR n)
      (kStep d (rd d (Reg.LANE_KRX_CUR n)) (rd d (Reg.LANE_KRX n k)) (signed 16 (bits tc 31 16)) tj % 2 ^ 20)

/-- K_TEMP_UPDATE (R264). -/
def execKTempUpdate (w : Nat) (n : Fin 40) (tjMilli : Int) (s : State) : Host.Outcome State Fault Refusal :=
  run w s (fun d => kUpdate d n tjMilli)

/-- A write of PORTn_ALPHA_HI: the high word with the staged low word, where α is in its range (R267, R268, R512). -/
def alphaHi (d : Device) (v : View) (n x : Nat) : Device :=
  let lo := stagedOr d v (Reg.PORT_ALPHA_LO n)
  if !alphaOk (lo + 2 ^ 32 * x) then event d (Reg.LANE_PH_EVENT n) 5
  else
    let changed := rd64 d (Reg.PORT_ALPHA_LO n) (Reg.PORT_ALPHA_HI n) != lo + 2 ^ 32 * x
    let d := unstage (wr (wr d (Reg.PORT_ALPHA_LO n) lo) (Reg.PORT_ALPHA_HI n) x) v (Reg.PORT_ALPHA_LO n)
    if changed then wr d (Reg.PORT_DLY_CHG n) (rd d (Reg.PORT_DLY_CHG n) + 1) else d

/-- PORT_ALPHA_HI_WRITE (R267). -/
def execPortAlphaHiWrite (w : Nat) (v : View) (n : Fin 40) (x : Word) (s : State) : Host.Outcome State Fault Refusal :=
  run w s (fun d => viewWrite d v (Reg.PORT_ALPHA_HI n) (fun d => if absorbed d n then d else alphaHi d v n x.toNat))

end Sys2Proof.Machine
end

