-- ==== Sys2Proof/Machine/Ports.lean ====
section
/-! DEFINITION. The port rows: frames received and injected, link faults and recovery, drains, auto-negotiation and L1Sync
(R34, R53, R96 to R109, R273 to R282, R646). -/

namespace Sys2Proof.Machine

open Sys2Proof

/-! ### Frames that enter -/

/-- RX_FRAME: a frame ends on the wire of port n (R646). -/
def execRxFrame (w : Nat) (n : Fin 40) (f : RxFrame) (s : State) : Host.Outcome State Fault Refusal :=
  run w s (fun d => receiveFrame d n f)

/-- Host software places a frame with its prefix on a DMA ring; in STANDBY the frame waits there and the core wakes (R34,
R617). The frame is given without its FCS (log 36). -/
def hostInject (d : Device) (pre : List Word) (bytes : List Byte) : Device :=
  if !(running d && d.pwr.pcieUp && coreReady d) then d
  else if standby d then wakeCore (modPwr d (fun p => { p with held := p.held ++ [(40, pre, bytes)] }))
  else hostFrame d (tagOfWords pre) (withFcs bytes) none

/-- HOST_FRAME_INJECT (R34). -/
def execHostFrameInject (w : Nat) (pre : List Word) (bytes : List Byte) (s : State) : Host.Outcome State Fault Refusal :=
  run w s (fun d => hostInject d pre bytes)

/-! ### Link conditions and the link-state machine (R96 to R102) -/

/-- The PCS, the MAC and auto-negotiation of port n work: it is out of DISABLED, and not absorbed. -/
def portRuns (d : Device) (n : Nat) : Bool := ticking d && !absorbed d n && portSt d n != 0

/-- After a change of a port's own conditions: the ladder, link_ok and L1Sync. -/
def portChanged (d : Device) (n : Nat) : Device := l1Eval (linkEval (ladderEval d n) n) n

/-- A condition of link_ok beside those of the lanes fails (R96). -/
def linkCause (d : Device) (n : Nat) (c : LinkCause) : Device :=
  onlyIf (portRuns d n) d (fun d =>
    portChanged (match c with
      | .pcs => setFlag d (Reg.PORT_STATUS n) 14 false
      | .autoneg => setFlag d (Reg.PORT_STATUS n) 18 false
      | .localFault => setFlag d (Reg.PORT_STATUS n) 15 true
      | .remoteFault => setFlag d (Reg.PORT_STATUS n) 16 true) n)

/-- LINK_FAULT (R96). -/
def execLinkFault (w : Nat) (n : Fin 40) (c : LinkCause) (s : State) : Host.Outcome State Fault Refusal :=
  run w s (fun d => linkCause d n c)

/-- LINK_OK_HELD (R97): link_ok has held for 100 us. -/
def execLinkOkHeld (w : Nat) (n : Fin 40) (s : State) : Host.Outcome State Fault Refusal :=
  run w s (fun d => onlyIf (running d) d (fun d => l1Eval (linkHeld d n) n))

/-- DOWN_HOLD of port n has elapsed: DOWN after the flush, unless link_ok had held for 100 us by then (R98 row 3). -/
def holdOver (d : Device) (n : Nat) : Device :=
  match (portOf d n).holdEnd with
  | some t =>
    if running d && portSt d n == 3 && decide (t ≤ d.dev) then
      match (portOf d n).okSince with
      | some u =>
        if u + 100 * usTicks ≤ t then l1Eval (linkHeld d n) n else linkOkUpdate (setLinkState (flushPort d n) n 4) n
      | none => linkOkUpdate (setLinkState (flushPort d n) n 4) n
    else d
  | none => d

/-- DOWN_HOLD_ELAPSED (R98). -/
def execDownHoldElapsed (w : Nat) (n : Fin 40) (s : State) : Host.Outcome State Fault Refusal := run w s (fun d => holdOver d n)

/-- A recovery attempt of port n has failed: the next begins; the third in a row in Ladder mode at DONE returns the ladder to
SEEDLING (R62 row 8 (a), R102). -/
def recoveryFail (d : Device) (n : Nat) : Device :=
  match (portOf d n).recoverAt with
  | some t =>
    if running d && (portSt d n == 3 || portSt d n == 4) && decide (t + adaptTmo d n ≤ d.dev) then
      let fails := (ladderOf d n).fails + 1
      let d := modLadder d n (fun x => { x with fails := fails })
      if bringup d n == 0 && ladderSt d n == 8 && decide (3 ≤ fails) then
        ladderSeed (modPort d n (fun x => { x with recoverAt := none })) n
      else linkOkUpdate (attemptBegin d n) n
    else d
  | none => d

/-- RECOVERY_ATTEMPT_FAIL (R102). -/
def execRecoveryAttemptFail (w : Nat) (n : Fin 40) (s : State) : Host.Outcome State Fault Refusal :=
  run w s (fun d => recoveryFail d n)

/-- The queues of a draining port are empty (R104). -/
def drainEmpty (d : Device) (n : Nat) : Device :=
  onlyIf (running d && portSt d n == 5 && queuesEmpty d n) d (fun d => drainFinish d n)

/-- DRAIN_QUEUES_EMPTY (R104). -/
def execDrainQueuesEmpty (w : Nat) (n : Fin 40) (s : State) : Host.Outcome State Fault Refusal := run w s (fun d => drainEmpty d n)

/-- DRAIN_TMO has elapsed (R104). -/
def drainOver (d : Device) (n : Nat) : Device :=
  match (portOf d n).drainEnd with
  | some t => if running d && portSt d n == 5 && decide (t ≤ d.dev) then drainFinish d n else d
  | none => d

/-- DRAIN_TMO (R104). -/
def execDrainTmo (w : Nat) (n : Fin 40) (s : State) : Host.Outcome State Fault Refusal := run w s (fun d => drainOver d n)

/-- LINK_RESTART of PORTn_CTL: one link fault while UP (R109). -/
def linkRestart (d : Device) (n : Nat) : Device :=
  if portSt d n = 2 then l1Eval (eligEval (faultFromUp d n) n) n else d

/-- LINK_RESTART (R109). -/
def execLinkRestart (w : Nat) (v : View) (n : Fin 40) (s : State) : Host.Outcome State Fault Refusal :=
  run w s (fun d => viewWrite d v (Reg.PORT_CTL n) (fun d => linkRestart d n))

/-- S_RX of a gang lane starts over with the alignment; its last value is kept for comparison (R261). -/
def skewRestart (d : Device) (n : Nat) : Device :=
  modLane d n (fun x =>
    { x with
      skewBase := if x.skews.isEmpty then x.skewBase else some (signed 32 (rd d (Reg.LANE_SKEW_RX n)))
      skews := [] })

/-- Every lane that carries the mode has CDR_LOCK. -/
def lanesLocked (d : Device) (n : Nat) : Bool :=
  (if fld d (Reg.LANE_STATUS n) 1 0 = 0 then [n] else portLanes d n).all (fun k => flag d (Reg.LANE_STATUS k) 4)

/-- The PCS of port n has block lock and alignment, and receives no fault (R96, R110). -/
def pcsAlign (d : Device) (n : Nat) : Device :=
  onlyIf (portRuns d n && lanesLocked d n) d (fun d =>
    let d := if flag d (Reg.PORT_STATUS n) 14 then d else each ((portLanes d n).drop 1) d skewRestart
    portChanged (setFld d (Reg.PORT_STATUS n) 16 14 1) n)

/-- PCS_ALIGNED (R96). -/
def execPcsAligned (w : Nat) (n : Fin 40) (s : State) : Host.Outcome State Fault Refusal := run w s (fun d => pcsAlign d n)

/-- Auto-negotiation of port n completes: Clause 37 at 1000BASE-X, or Clause 73 with the technology resolved, by its rate, and
RS-FEC where both ends have it and one requests it, which takes FEC_REQ here (R53, R54, R91, R92). -/
def anEnd (d : Device) (n rate : Nat) (fec : Bool) : Device :=
  if !portRuns d n then d
  else if bringup d n = 1 then
    let fits := decide (rate ≤ rateMax d n) && (portWidth d n == 1 || (portWidth d n == 4 && decide (2 ≤ rate)))
    if !fits || portSt d n == 2 then d
    else
      let d := portRate d n rate false
      let mode := modeCur d n
      let d := setMode d n rate (some (if mode = 2 || mode = 5 then fec && flag d (Reg.PORT_CFG n) 0 else fecOf mode false))
      portChanged (setFlag d (Reg.PORT_STATUS n) 18 true) n
  else if fld d (Reg.LANE_STATUS n) 1 0 = 0 && flag d (Reg.PORT_CFG n) 1 then
    portChanged (setFlag d (Reg.PORT_STATUS n) 18 true) n
  else d

/-- AN_DONE (R53). -/
def execAnDone (w : Nat) (n : Fin 40) (rate : Fin 4) (fec : Bool) (s : State) : Host.Outcome State Fault Refusal :=
  run w s (fun d => anEnd d n rate fec)

/-! ### L1Sync (R273 to R276, R282) -/

/-- Ticks between TLVs: 2^LOG_INTERVAL s (R275, R282). -/
def tlvGap (d : Device) (n : Nat) : Nat :=
  let k := signed 4 (fld d (Reg.PORT_L1_CFG n) 11 8)
  if k < 0 then secTicks / 2 ^ k.natAbs else secTicks * 2 ^ k.natAbs

/-- The firmware's L1Sync of port n runs outside DISABLED. -/
def l1Runs (d : Device) (n : Nat) : Bool :=
  running d && coreReady d && l1On d n && fld d (Reg.PORT_L1_STATUS n) 2 0 != 0

/-- A partner's TLV: its required flags in bits 0 to 2, its is-flags in bits 3 to 5; optional fields are ignored (R273, R275). -/
def tlvIn (d : Device) (n : Nat) (flags : Nat) : Device :=
  onlyIf (l1Runs d n && portSt d n == 2) d (fun d =>
    let d := setFlag (setFld d (Reg.PORT_L1_STATUS n) 11 6 flags) (Reg.PORT_L1_STATUS n) 12 true
    l1Eval (modPort d n (fun x => { x with tlvAt := d.dev })) n)

/-- L1_SYNC_TLV_RX (R275): optParamsEnabled makes no difference. -/
def execL1SyncTlvRx (w : Nat) (n : Fin 40) (flags : BitVec 6) (_optParams : Bool) (s : State) :
    Host.Outcome State Fault Refusal :=
  run w s (fun d => tlvIn d n flags.toNat)

/-- The port's own TLV goes out each interval (R273, R275). -/
def tlvOut (d : Device) (n : Nat) : Device :=
  let due := match (portOf d n).tlvSent with
    | some t => decide (t + tlvGap d n ≤ d.dev)
    | none => true
  onlyIf (l1Runs d n && due) d (fun d =>
    let own := fld d (Reg.PORT_L1_CFG n) 3 1 + 8 * fld d (Reg.PORT_L1_STATUS n) 5 3
    emit (modPort d n (fun x => { x with tlvSent := some d.dev })) (.tlv n own false))

/-- L1_SYNC_TLV_SEND (R275). -/
def execL1SyncTlvSend (w : Nat) (n : Fin 40) (s : State) : Host.Outcome State Fault Refusal := run w s (fun d => tlvOut d n)

/-- RX_TMO intervals without a TLV: IDLE (R275). -/
def tlvTmo (d : Device) (n : Nat) : Device :=
  onlyIf (l1Runs d n && decide (2 ≤ fld d (Reg.PORT_L1_STATUS n) 2 0)
      && decide ((portOf d n).tlvAt + fld d (Reg.PORT_L1_CFG n) 23 16 * tlvGap d n ≤ d.dev)) d
    (fun d => l1Idle d n)

/-- L1_SYNC_RECEIPT_TMO (R275). -/
def execL1SyncReceiptTmo (w : Nat) (n : Fin 40) (s : State) : Host.Outcome State Fault Refusal := run w s (fun d => tlvTmo d n)

/-- A write of PORTn_L1_CFG (R282): evaluated against the partner's flags at once. -/
def l1Cfg (d : Device) (n x : Nat) : Device :=
  if absorbed d n then d
  else if portValueOk 0x220 x then l1Eval (wrImage d (Reg.PORT_L1_CFG n) x) n
  else reject d (Reg.PORT_L1_CFG n)

/-- L1_CFG_WRITE (R282). -/
def execL1CfgWrite (w : Nat) (v : View) (n : Fin 40) (x : Word) (s : State) : Host.Outcome State Fault Refusal :=
  run w s (fun d => viewWrite d v (Reg.PORT_L1_CFG n) (fun d => l1Cfg d n x.toNat))

end Sys2Proof.Machine
end

