-- ==== Sys2Proof/Machine/BrelyOps.lean ====
section
/-! DEFINITION. Data frames of the Brely link at the receiving member (R32, R122, R569, R617). -/

namespace Sys2Proof.Machine

open Sys2Proof

/-- A data frame of the Brely link enters at the buffer write with the Brely source. Its destination follows from R121 and R122 for
the VLAN of its outer tag; the class, and the VLAN of an untagged frame, are free values, since no rule names them (log 41). -/
def brelyData (d : Device) (f : List Byte) : Device :=
  let vid := if vlanBytes f = 0 then 1 + freeVal d % 4094 else beAt f 14 2 % 4096
  let d := nextFree d
  let tc := freeVal d % 7
  let d := nextFree d
  let v : Vlan := tget (fun _ => {}) d.fwd.vlan vid
  let hit := lookup d v.fid (beAt f 0 6)
  let dst : Bool × Nat := match hit with | some (o, g) => (g, o) | none => (true, v.flood)
  let d := if hit.isNone then bump d (Reg.CORE_CNT 12) else d
  let t : Tag :=
    { src := 41, tc := tc, destKind := b2n dst.1, dest := dst.2, len := f.length, arrTick := tickcnt d, vid := vid }
  let outs := copyOuts d t false (some (if v.valid then v.members else 0))
  sendFrame outs.1
    { bytes := f, tag := t, cells := [], copies := 0, dests := [], mcast := dst.1, recov := 0, rtag := none,
      gen := false, sender := none, noVlan := false } outs.2

/-- A frame of the Brely link with a good FCS and a legal length: EtherType 0x88B5 carries commands, which have a row of their own
(R489). In STANDBY the frame waits in the receiver and the core wakes (R617). -/
def brelyFrame (d : Device) (f : List Byte) : Device :=
  if !ticking d || !coreReady d || beAt f 12 2 == 0x88B5 || !inRange f.length 64 10240 || !fcsGood f then d
  else if standby d then brelyHold d f
  else brelyData d f

end Sys2Proof.Machine
end

