-- ==== Sys2Proof/Machine/PowerRows.lean ====
section
/-! DEFINITION. The rows of power, reset, start-up and low power (R597 to R623). -/

namespace Sys2Proof.Machine

open Sys2Proof

/-- POWER_ON_RESET_RELEASE (R603, R608, R612). -/
def execPowerOnResetRelease (w : Nat) (straps : BitVec 6) (s : State) : Host.Outcome State Fault Refusal :=
  run w s (fun d => powerRelease d straps.toNat)

/-- A rail (0 VDD33, 1 VDDIO, 2 VDDH_L, 3 VDD, 4 VDDA_L) has been below its brown-out threshold for so many ticks: from 1 µs it
starts a power-on reset (R597, R601). While the device is held in reset only the loss of VDD33 matters; in Dormant it ends the
keeping of the rails. -/
def brownOut (d : Device) (rail ticks : Nat) : Device :=
  if ticks < usTicks then d
  else
    let d := if d.pwr.resetHeld then modPwr d (fun p => { p with railsKept := false }) else powerOnHeld d 3 0
    if rail = 0 then vddGone d else d

/-- BROWN_OUT (R601). -/
def execBrownOut (w : Nat) (rail : Fin 5) (ticks : Nat) (s : State) : Host.Outcome State Fault Refusal :=
  run w s (fun d => brownOut d rail ticks)

/-- RESET_N has been low for so many ticks: from 10 µs it starts a power-on reset (R602). -/
def resetLow (d : Device) (ticks : Nat) : Device :=
  if ticks < 10 * usTicks || d.pwr.resetHeld then d else powerOnHeld d 2 0

/-- RESET_N (R602). -/
def execResetN (w : Nat) (ticks : Nat) (s : State) : Host.Outcome State Fault Refusal := run w s (fun d => resetLow d ticks)

/-- A PCIe fundamental reset, of whatever source: the endpoint, BAR2 and the CMD ring registers are reset, and the rings' commands
aborted (R610, R613). Frames that waited on the host's DMA rings are gone (log 36). -/
def fundamentalReset (d : Device) : Device :=
  if d.pwr.resetHeld then d
  else
    let d := each rings d (fun d k => rstReg (ringReset d k) (Reg.CMD_RING_CTL k))
    let d := modPwr d (fun p => { p with pcieUp := false, held := p.held.filter (fun h => h.1 != 40) })
    functionReset (modCmd d (fun t => { t with bar2 := [] }))

/-- PCIE_FUNDAMENTAL_RESET (R613): PERST_N, a hot reset and a link disable act alike. -/
def execPcieFundamentalReset (w : Nat) (_k : PcieReset) (s : State) : Host.Outcome State Fault Refusal := run w s fundamentalReset

/-- The start-up check of the safety partition ends; a failed check leaves the device at this step (R608 step 4). -/
def selfcheckEnd (d : Device) (pass : Bool) : Device :=
  onlyIf (ticking d && !d.flt.checkPassed && pass) d (fun d => modFlt d (fun s => { s with checkPassed := true }))

/-- SAFETY_SELFCHECK_PASS (R608). -/
def execSafetySelfcheckPass (w : Nat) (pass : Bool) (s : State) : Host.Outcome State Fault Refusal :=
  run w s (fun d => selfcheckEnd d pass)

/-- MAIN_IMAGE_VERIFIED (R606, R607): the boot ROM's tries end; which slots met a flash read error comes with the row. -/
def execMainImageVerified (w : Nat) (readErr0 readErr1 : Bool) (s : State) : Host.Outcome State Fault Refusal :=
  run w s (fun d => onlyIf (running d && d.flt.checkPassed && !d.pwr.imageDone) d (fun d => boot d readErr0 readErr1))

/-- CORE_READY (R608 step 8): the firmware of a booted image completes start-up. -/
def execCoreReady (w : Nat) (s : State) : Host.Outcome State Fault Refusal :=
  run w s (fun d => onlyIf (running d && d.pwr.imageDone && !recovery d && !coreReady d) d coreUp)

/-- WAKE_N (R622): low for 1 ms wakes. -/
def execWakeN (w : Nat) (ticks : Nat) (s : State) : Host.Outcome State Fault Refusal :=
  run w s (fun d => onlyIf (decide (msTicks ≤ ticks)) d (fun d => wakeEvent d 1))

/-- The wake timer has counted GLB_WAKE_TIMER seconds since entry, within 5 % of its oscillator; 0 disables it (R619, R622). -/
def timerWake (d : Device) : Device :=
  match d.pwr.dormant with
  | none => d
  | some t =>
    let n := rd d Reg.GLB_WAKE_TIMER
    onlyIf (n != 0 && decide (n * secTicks * 95 ≤ (d.now - t) * 100)) d (fun d => wakeEvent d 2)

/-- WAKE_TIMER (R622). -/
def execWakeTimer (w : Nat) (s : State) : Host.Outcome State Fault Refusal := run w s timerWake

/-- The rails stand 100 ms after PWR_REQ fell: the device waits in reset for a wake (R623). -/
def railsStay (d : Device) : Device :=
  match d.pwr.dormant with
  | none => d
  | some t => onlyIf (d.pwr.vdd33 && decide (t + 100 * msTicks ≤ d.now)) d (fun d => modPwr d (fun p => { p with railsKept := true }))

/-- DORMANT_RAILS_KEPT (R623). -/
def execDormantRailsKept (w : Nat) (s : State) : Host.Outcome State Fault Refusal := run w s railsStay

/-- FLASH_PROGRAMMING_DONE (R476): the oldest piece. -/
def execFlashProgrammingDone (w : Nat) (s : State) : Host.Outcome State Fault Refusal :=
  run w s (fun d => onlyIf (running d) d flashDone)

/-- A frame that waited for the core goes on by its source (R617). -/
def heldFrame (d : Device) (h : Nat × List Word × List Byte) : Device :=
  if h.1 = 40 then hostFrame d (tagOfWords h.2.1) (withFcs h.2.2) none
  else if h.1 = 41 then (if beAt h.2.2 12 2 = 0x88B5 then brelyCommandIn d h.2.2 else brelyData d h.2.2)
  else hostFrame d (tagOfWords h.2.1) (withFcs h.2.2) (some (h.1 - 42))

/-- A bed leaves IDLE, or the core leaves STANDBY: frames that waited go on; commands that waited try again as the device settles
(R617). -/
def wakeDone (d : Device) (u : WakeUnit) : Device :=
  match u with
  | .bed b =>
    if (d.pwr.bedWake.getD b none).isSome then
      setFlag (modPwr d (fun p => { p with bedWake := p.bedWake.set b none })) Reg.GLB_PWR_STATUS (8 + b) false
    else d
  | .core =>
    if d.pwr.coreWake.isSome then
      let l := d.pwr.held
      let d := setFlag (modPwr d (fun p => { p with coreWake := none, held := [] })) Reg.GLB_PWR_STATUS 12 false
      each l d heldFrame
    else d

/-- LOW_POWER_WAKE_DONE (R617). -/
def execLowPowerWakeDone (w : Nat) (u : WakeUnit) (s : State) : Host.Outcome State Fault Refusal :=
  run w s (fun d => onlyIf (running d) d (fun d => wakeDone d u))

/-- PCIE_LINK_UP (R323, R608): link training completes. -/
def execPcieLinkUp (w : Nat) (s : State) : Host.Outcome State Fault Refusal :=
  run w s (fun d => onlyIf (running d) d (fun d => modPwr d (fun p => { p with pcieUp := true })))

end Sys2Proof.Machine
end

