-- ==== Sys2Proof/Machine/Queues.lean ====
section
/-! DEFINITION. The rows of the switch core and of the queues: linking, the Rake, ageing, banks, selection, timed launch and
gates (R119 to R158, R165 to R191). -/

namespace Sys2Proof.Machine

open Sys2Proof

/-! ### Writing, linking and the Rake (R130 to R144) -/

/-- The last cell of the frame on a write plane is written: the frame is linked, and the plane takes the next (R130, R131). -/
def planeLink (d : Device) (pl : Nat) (ram : Option RamErr) : Device :=
  if !running d then d
  else
    let d := ramErrOpt d ram
    match d.core.planes.find? (fun p => p.1 == pl) with
    | some (_, fid) =>
      let d := linkFrame (modCore d (fun c => { c with planes := c.planes.filter (fun p => p.1 != pl) })) fid
      fillPlanes (d.core.waiting.length) d
    | none => d

/-- FRAME_LINK (R131). -/
def execFrameLink (w : Nat) (pl : Fin 4) (ram : Option RamErr) (s : State) : Host.Outcome State Fault Refusal :=
  run w s (fun d => planeLink d pl ram)

/-- The gap timer of a stream of an output has reached CORE_RAKE_GAP (R138). -/
def gapOver (d : Device) (o src tc : Nat) : Device :=
  let k := streamKey src tc
  let s := streamOf d o k
  if ticking d && decide (0 < heldCopies s) && decide (s.gapAt + fld d Reg.CORE_RAKE_GAP 16 0 ≤ d.tick) then
    skipExp (rakeLast (event (bump d (Reg.CORE_CNT 3)) Reg.CORE_EVENT 1) o k 1 s.exp) o k
  else d

/-- RAKE_GAP (R138). -/
def execRakeGap (w : Nat) (out src : Fin 42) (tc : Fin 8) (s : State) : Host.Outcome State Fault Refusal :=
  run w s (fun d => gapOver d out src tc)

/-- The held TC7 copies of an output whose release tick has come are released in key order (R141, R142). -/
def tendedGo (d : Device) (o : Nat) : Device :=
  onlyIf (ticking d) d (fun d => releaseWhile o (fun c => tickGe (tickcnt d) (releaseTick d c)) 4096 d)

/-- TENDED_RELEASE (R141). -/
def execTendedRelease (w : Nat) (out : Fin 42) (s : State) : Host.Outcome State Fault Refusal := run w s (fun d => tendedGo d out)

/-- The head of a release list, or of the timed-launch list, is examined for age (R146). -/
def ageExamine (d : Device) (o tc : Nat) (timed : Bool) : Device :=
  if !ticking d then d
  else if timed then
    match (outOf d o).launch with
    | c :: t => if c.tag.tc == tc && aged d c then ageDropCopy (modOut d o (fun x => { x with launch := t })) c else d
    | [] => d
  else
    match relOf d o tc with
    | c :: _ => if aged d c then ageDropCopy (popRel d o tc) c else d
    | [] => d

/-- AGE_DROP (R146). -/
def execAgeDrop (w : Nat) (out : Fin 42) (tc : Fin 8) (timed : Bool) (s : State) : Host.Outcome State Fault Refusal :=
  run w s (fun d => ageExamine d out tc timed)

/-- A copy's transmission on a port's wire completes (R132). -/
def wireEnd (d : Device) (o : Nat) (ram : Option RamErr) : Device :=
  if !ticking d then d
  else
    let d := ramErrOpt d ram
    match (outOf d o).wire with
    | some x => if x.endAt ≤ d.tick * 80 then endWire d o else d
    | none => d

/-- TX_COMPLETE (R132). -/
def execTxComplete (w : Nat) (out : Fin 42) (ram : Option RamErr) (s : State) : Host.Outcome State Fault Refusal :=
  run w s (fun d => wireEnd d out ram)

/-! ### Tables, free lists and banks (R120, R154 to R157, R191) -/

/-- Ageing visits a way of an FDB bucket (R120). -/
def fdbAge (d : Device) (b w : Nat) : Device :=
  let age := fld d Reg.CORE_FDB_AGE 15 0
  match fdbAt d b w with
  | some e => if running d && age != 0 && !e.static_ && decide (e.fresh + age * secTicks ≤ d.dev) then setFdb d b w none else d
  | none => d

/-- FDB_AGEING (R120). -/
def execFdbAgeing (w : Nat) (bucket : Fin 16384) (way : Fin 4) (s : State) : Host.Outcome State Fault Refusal :=
  run w s (fun d => fdbAge d bucket way)

/-- A recovery instance has accepted nothing for RESET_TMO: it takes any number next, and counts the reset (R191, R522). -/
def recoveryReset (d : Device) (i : Nat) : Device :=
  match tget (fun _ => []) d.fwd.recov i with
  | _ :: w2 :: _ =>
    if running d && (tget (fun _ => none) d.fwd.recovSt i).isSome
        && decide (tget (fun _ => 0) d.fwd.recovAt i + bits w2.toNat 25 16 * msTicks ≤ d.dev) then
      modFwd d (fun f =>
        { f with
          recovSt := tset (fun _ => none) f.recovSt i none
          counts := tmod (fun _ => 0) f.counts ((9 * 65536 + i) * 8 + 2) (fun n => min (n + 1) (2 ^ 64 - 1)) })
    else d
  | _ => d

/-- RECOVERY_RESET_TMO (R191). -/
def execRecoveryResetTmo (w : Nat) (i : Fin 4097) (s : State) : Host.Outcome State Fault Refusal := run w s (fun d => recoveryReset d i)

/-- The free-list audit returns the cells that no list reaches (R154). -/
def freeAudit (d : Device) (ram : Option RamErr) : Device :=
  onlyIf (running d) d (fun d => ramErrOpt (modCore d (fun c => { c with lost := [] })) ram)

/-- FREE_LIST_AUDIT (R154). -/
def execFreeListAudit (w : Nat) (ram : Option RamErr) (s : State) : Host.Outcome State Fault Refusal :=
  run w s (fun d => freeAudit d ram)

/-- BANK_RETIRED (R155): a retiring bank holds no cell. -/
def execBankRetired (w : Nat) (b : Fin 16) (s : State) : Host.Outcome State Fault Refusal :=
  run w s (fun d => onlyIf (running d) d (fun d => bankEmpty d b))

/-- BANK_TEST_DONE (R155): the test of a bank ends. -/
def execBankTestDone (w : Nat) (b : Fin 16) (pass : Bool) (s : State) : Host.Outcome State Fault Refusal :=
  run w s (fun d => onlyIf (running d) d (fun d => bankTest d b pass))

/-- BANK_RATE_WINDOW (R157): a window of corrected words ends. -/
def execBankRateWindow (w : Nat) (b : Fin 16) (s : State) : Host.Outcome State Fault Refusal :=
  run w s (fun d => onlyIf (running d) d (fun d => bankWindow d b))

/-! ### Selection, launch and gates (R167 to R182) -/

/-- SELECTION_POINT (R167): the scheduler of an output chooses, where its wire is free. -/
def execSelectionPoint (w : Nat) (out : Fin 42) (errs : List ReadErr) (ram : Option RamErr) (s : State) :
    Host.Outcome State Fault Refusal :=
  run w s (fun d => onlyIf (ticking d) d (fun d => selectAt (ramErrOpt d ram) out errs))

/-- Copies of the timed-launch list that entered 100 ticks ago or earlier are ready (R179). -/
def markReady (d : Device) (n : Nat) : Device :=
  modOut d n (fun x => { x with launch := x.launch.map (fun c => { c with ready := isReady d c }) })

/-- TIMED_LAUNCH_READY (R179). -/
def execTimedLaunchReady (w : Nat) (n : Fin 40) (s : State) : Host.Outcome State Fault Refusal :=
  run w s (fun d => onlyIf (ticking d) d (fun d => markReady d n))

/-- LAUNCH_TICK (R180): the head of the timed-launch list at its launch tick, or within its tolerance. -/
def execLaunchTick (w : Nat) (n : Fin 40) (errs : List ReadErr) (s : State) : Host.Outcome State Fault Refusal :=
  run w s (fun d => onlyIf (ticking d) d (fun d => launchAt d n errs))

/-- LAUNCH_DROP (R180): a TC7 head past its tolerance. -/
def execLaunchDrop (w : Nat) (n : Fin 40) (s : State) : Host.Outcome State Fault Refusal :=
  run w s (fun d => onlyIf (ticking d) d (fun d => launchExpire d n))

/-- GATE_BOUNDARY (R173): the entry in force and its gates show in QUEn_GL_STATUS; what they let through is read from the
list at each use. -/
def execGateBoundary (w : Nat) (n : Fin 40) (s : State) : Host.Outcome State Fault Refusal :=
  run w s (fun d => onlyIf (ticking d) d (fun d => gateStatus d n))

/-- GATE_SWAPPED (R175): an armed change reaches its time. -/
def execGateSwapped (w : Nat) (n : Fin 40) (s : State) : Host.Outcome State Fault Refusal :=
  run w s (fun d => onlyIf (ticking d) d (fun d => gateSwap d n))

/-! ### The pool (R187) -/

/-- A write of QUEG_POOL_CFG. -/
def poolWrite (d : Device) (x : Nat) : Device :=
  let v := bits x 14 0
  if v ≤ 16384 && tendedFits d v then setTended d v else event d Reg.QUEG_EVENT 1

/-- QUEG_POOL_CFG_WRITE (R187). -/
def execQuegPoolCfgWrite (w : Nat) (v : View) (x : Word) (s : State) : Host.Outcome State Fault Refusal :=
  run w s (fun d => viewWrite d v Reg.QUEG_POOL_CFG (fun d => poolWrite d x.toNat))

end Sys2Proof.Machine
end

