-- ==== Sys2Proof/Machine/RedRows.lean ====
section
/-! DEFINITION. The rows of redundancy: claim messages and their time-outs, alignment, mirroring, last gasp, handover (R558 to
R582). -/

namespace Sys2Proof.Machine

open Sys2Proof

/-! ### Claim messages (R568 to R571) -/

/-- A message goes out on both Brely lanes. -/
def brelySend (d : Device) : Device :=
  let m := ownMessage d false
  emit (emit d (.claimBrely 0 m)) (.claimBrely 1 m)

/-- BRELY_CLAIM_SEND (R569): the Brely lanes stop in a freeze (R325). -/
def execBrelyClaimSend (w : Nat) (s : State) : Host.Outcome State Fault Refusal :=
  run w s (fun d => onlyIf (running d) d brelySend)

/-- BRELY_CLAIM_RX (R569). -/
def execBrelyClaimRx (w : Nat) (k : Fin 2) (msg : BitVec 24) (s : State) : Host.Outcome State Fault Refusal :=
  run w s (fun d => onlyIf (running d) d (fun d => brelyClaim d k msg.toNat))

/-- CLAIM_PIN_SEND (R570, R571): CLAIM_OUT runs on through a freeze. -/
def execClaimPinSend (w : Nat) (s : State) : Host.Outcome State Fault Refusal :=
  run w s (fun d => onlyIf (!d.pwr.resetHeld) d (fun d => emit d (.claimPin (ownMessage d false))))

/-- CLAIM_PIN_RX (R570). -/
def execClaimPinRx (w : Nat) (msg : BitVec 24) (s : State) : Host.Outcome State Fault Refusal :=
  run w s (fun d => onlyIf (running d) d (fun d => pinClaim d msg.toNat))

/-- BRELY_PATH_TMO (R569). -/
def execBrelyPathTmo (w : Nat) (k : Fin 2) (s : State) : Host.Outcome State Fault Refusal :=
  run w s (fun d => onlyIf (running d) d (fun d => brelyTmo d k))

/-- PIN_PATH_TMO (R570). -/
def execPinPathTmo (w : Nat) (s : State) : Host.Outcome State Fault Refusal :=
  run w s (fun d => onlyIf (running d) d pinTmo)

/-! ### Sides (R558 to R561) -/

/-- ALIGNED_TIMER (R561). -/
def execAlignedTimer (w : Nat) (errFs : Int) (s : State) : Host.Outcome State Fault Refusal :=
  run w s (fun d => alignedSet d errFs)

/-- ALIGN_LOST (R561, R566). -/
def execAlignLost (w : Nat) (errFs : Int) (s : State) : Host.Outcome State Fault Refusal :=
  run w s (fun d => alignedLost d errFs)

/-- DIVERGED: ψ or the frequency difference has crossed its limit with time, and the claim logic sees it (R558, R566). -/
def execDiverged (w : Nat) (s : State) : Host.Outcome State Fault Refusal :=
  run w s (fun d => onlyIf (running d) d redEval)

/-- RESTORE_HOLD_END (R559, R567). -/
def execRestoreHoldEnd (w : Nat) (s : State) : Host.Outcome State Fault Refusal :=
  run w s (fun d => onlyIf (running d) d restoreEnd)

/-! ### Mirroring (R575, R576) -/

/-- Firmware of a member that is past JOINING sends a mirror record every 1 ms. -/
def mirrorSend (d : Device) : Device :=
  let due := match d.red.mirrorSent with
    | some t => decide (t + msTicks ≤ d.dev)
    | none => true
  if coreReady d && decide (2 ≤ graftSt d) && due then
    modRed (emit d (.mirror (ownRecord d))) (fun r => { r with mirrorSent := some d.dev })
  else d

/-- MIRROR_RECORD_SEND (R575). -/
def execMirrorRecordSend (w : Nat) (s : State) : Host.Outcome State Fault Refusal :=
  run w s (fun d => onlyIf (running d) d mirrorSend)

/-- MIRROR_RECORD_RX (R575, R576). -/
def execMirrorRecordRx (w : Nat) (r : MirrorRec) (s : State) : Host.Outcome State Fault Refusal :=
  run w s (fun d => onlyIf (running d && coreReady d) d (fun d => mirrorIn d r))

/-- MIRROR_DONE (R575). -/
def execMirrorDone (w : Nat) (s : State) : Host.Outcome State Fault Refusal :=
  run w s (fun d => onlyIf (running d) d mirrorComplete)

/-! ### Last gasp, handover, PAIR_HOLD (R571, R580, R582) -/

/-- LAST_GASP (R571). -/
def execLastGasp (w : Nat) (s : State) : Host.Outcome State Fault Refusal :=
  run w s (fun d => onlyIf (!d.pwr.resetHeld) d lastGaspNow)

/-- HANDOVER_TMO (R580). -/
def execHandoverTmo (w : Nat) (s : State) : Host.Outcome State Fault Refusal :=
  run w s (fun d => onlyIf (running d) d handoverTmo)

/-- PAIR_HOLD_CLR of RED_GRAFT_CTL (R582). -/
def execPairHoldClr (w : Nat) (v : View) (s : State) : Host.Outcome State Fault Refusal :=
  run w s (fun d => viewWrite d v Reg.RED_GRAFT_CTL (fun d => outEnable (setFlag d Reg.RED_GRAFT_STATUS 7 false)))

/-- BRELY_FRAME_RX (R569). -/
def execBrelyFrameRx (w : Nat) (bytes : List Byte) (s : State) : Host.Outcome State Fault Refusal :=
  run w s (fun d => brelyFrame d bytes)

end Sys2Proof.Machine
end

