-- ==== Sys2Proof/Machine/TimeRows.lean ====
section
/-! DEFINITION. The rows of the time bases: increments, enables, snapshots, scheduled steps, slews and captures (R207 to R216,
R240 to R244). -/

namespace Sys2Proof.Machine

open Sys2Proof

/-- TB_INCR_LO_WRITE (R211): staged; TB0_INCR is read-only (R210). -/
def execTbIncrLoWrite (w : Nat) (v : View) (n : Fin 8) (x : Word) (s : State) : Host.Outcome State Fault Refusal :=
  run w s (fun d => viewWrite d v (Reg.TB_INCR_LO n) (fun d =>
    if n.val = 0 then d else stage d v (Reg.TB_INCR_LO n) x.toNat))

/-- A write of TBn_INCR_HI: the staged low word with this high word, where R210 accepts it; else the word stays staged
(R512). -/
def incrHi (d : Device) (v : View) (n x : Nat) : Device :=
  if n = 0 then d
  else
    let i := stagedOr d v (Reg.TB_INCR_LO n) + 2 ^ 32 * bits x 23 0
    if incrOk n i then setIncr (unstage d v (Reg.TB_INCR_LO n)) n i else event d Reg.TB_EVENT 8

/-- TB_INCR_HI_WRITE (R211). -/
def execTbIncrHiWrite (w : Nat) (v : View) (n : Fin 8) (x : Word) (s : State) : Host.Outcome State Fault Refusal :=
  run w s (fun d => viewWrite d v (Reg.TB_INCR_HI n) (fun d => incrHi d v n x.toNat))

/-- The snapshot registers latch one tick (R243, R244). -/
def snapshot (d : Device) : Device :=
  let d := wr64 d Reg.TB_SNAP_TICK_LO Reg.TB_SNAP_TICK_HI (tickcnt d)
  let d := wr64 d Reg.TB_SNAP_KEEP_LO Reg.TB_SNAP_KEEP_HI d.tb.keeper
  let d := wr d Reg.TB_SNAP_INFO (keeperPhase d % 128 + 256 * activeSide d)
  let d := each (upTo 2) d (fun d x => each (upTo 8) d (fun d n =>
    let t := (tbOf d x n).val
    let d := wr d (Reg.TB_SNAPV_NS x n) (tvNs t)
    let d := wr64 d (Reg.TB_SNAPV_SEC_LO x n) (Reg.TB_SNAPV_SEC_HI x n) (tvSec t)
    wr d (Reg.TB_SNAPV_FNS x n) (tvFns t)))
  event d Reg.TB_EVENT 10

/-- SNAP of TB_CTL (R244). -/
def execSnap (w : Nat) (v : View) (s : State) : Host.Outcome State Fault Refusal :=
  run w s (fun d => viewWrite d v Reg.TB_CTL (fun d => onlyIf (ticking d) d snapshot))

/-- A write of TB_CTL: the enables of TB1 to TB7, and SNAP where it is set (R207, R244). -/
def tbCtl (d : Device) (x : Nat) : Device :=
  let d := each (upTo 8) d (fun d n =>
    if n = 0 || tbEn d n == bit x (8 + n) then d
    else if bit x (8 + n) then
      let d := setTbEn d n true
      -- pin schedules of a base that goes on realign (R420)
      pinsMoved (each (jobsOn d n) d goJobGates) n
    else
      let d := each (jobsOn d n) d (fun d k => stopJobGates d k 6)
      setTbEn d n false)
  if bit x 0 then onlyIf (ticking d) d snapshot else d

/-- TB_ENABLE_WRITE (R207). A disabled base's measurement gates stop, and an enabled one's go on (R366). -/
def execTbEnableWrite (w : Nat) (v : View) (x : Word) (s : State) : Host.Outcome State Fault Refusal :=
  run w s (fun d => viewWrite d v Reg.TB_CTL (fun d => tbCtl d x.toNat))

/-- SCHEDULED_STEP (R214). -/
def execScheduledStep (w : Nat) (n : Fin 8) (s : State) : Host.Outcome State Fault Refusal :=
  run w s (fun d => onlyIf (ticking d) d (fun d => schedDue d n))

/-- SLEW_DONE (R215). -/
def execSlewDone (w : Nat) (n : Fin 8) (s : State) : Host.Outcome State Fault Refusal :=
  run w s (fun d => onlyIf (running d) d (fun d => slewEnd d n))

/-- The oldest entry of the selected capture FIFO, taken out; zeros where it is empty (R245). -/
def takeCapture (d : Device) : List Word × Device :=
  let p := fld d Reg.TB_CAP_SEL 5 0
  match tget (fun _ => []) d.tb.caps p with
  | e :: l => (e, { d with tb := { d.tb with caps := tset (fun _ => []) d.tb.caps p l } })
  | [] => ([0, 0, 0, 0], d)

/-- TB_CAP_READ: a read of TB_CAP_D0 (R245, R507). -/
def execTbCapRead (w : Nat) (v : View) (first : Bool) (s : State) : Host.Outcome State Fault Refusal :=
  run w s (fun d => removeRead d v Reg.TB_CAP_D0 first takeCapture)

end Sys2Proof.Machine
end

