-- ==== Sys2Proof/Machine/WriteOps.lean ====
section
/-! DEFINITION. A register write of a view: which registers have a rule of their own, and the accesses that do not reach a
register (R504 to R509, R512). -/

namespace Sys2Proof.Machine

open Sys2Proof

/-! ### Registers with a rule of their own, block by block -/

/-- GLB: the lock and the pair-protected registers, the source enables. -/
def glbWrite (d : Device) (v : View) (a : Nat) (x : Word) : Device :=
  if a = Reg.GLB_LOCK then lockWrite d v x.toNat
  else if a = Reg.GLB_DEV_RESET || a = Reg.GLB_DORMANT then ppWrite d v a x d.dev
  else if a = Reg.GLB_DEV_RESET_N || a = Reg.GLB_DORMANT_N then ppComp d v (a - 4) x d.dev
  else if a = Reg.GLB_SRC_EN then srcEnWrite d x.toNat
  else plainWrite d v a x.toNat

/-- The ring of a CMD offset. -/
def ringOf (a : Nat) : Fin 4 := Fin.ofNat 4 ((a - 0x10100) / 0x20)

/-- CMD: ring control, doorbells and the mailbox, which the SPI view alone reaches (R481 to R485). -/
def cmdWrite (d : Device) (v : View) (a : Nat) (x : Word) : Device :=
  if 0x10200 ≤ a && a < 0x10210 then
    if v != .spi then d
    else if a = Reg.CMD_MBX_WDATA then mbxPut d x
    else if a = Reg.CMD_MBX_CTL then
      let d := if bit x.toNat 0 then mbxSubmit d else d
      if bit x.toNat 1 then mbxEmpty d else d
    else d
  else if 0x10100 ≤ a && a < 0x10180 then
    match a % 0x20 with
    | 0x00 => ringCtl d (ringOf a) x.toNat
    | 0x08 => sqDoorbell d (ringOf a) x.toNat
    | 0x14 => cqHead d (ringOf a) x.toNat
    | _ => d
  else plainWrite d v a x.toNat

/-- The low word of a pair of words is staged, and its high word applies both (R512). -/
def pairHi (d : Device) (v : View) (lo x mask : Nat) : Device :=
  let l := stagedOr d v lo
  unstage (wr (wr d lo l) (lo + 4) (Nat.land x mask)) v lo

/-- TB: the enables and SNAP, the increments, the link delays. -/
def tbWrite (d : Device) (v : View) (a : Nat) (x : Word) : Device :=
  if a = Reg.TB_CTL then tbCtl d x.toNat
  else if 0x40080 ≤ a && a < 0x40100 && a % 0x10 = 0 then if a = Reg.TB_INCR_LO 0 then d else stage d v a x.toNat
  else if 0x40080 ≤ a && a < 0x40100 && a % 0x10 = 4 then
    incrHi d v ((a - 0x40080) / 0x10) x.toNat
  else if 0x40400 ≤ a && a < 0x40540 then
    if a % 8 = 0 then stage d v a x.toNat else pairHi d v (a - 4) x.toNat 0xFFFF
  else plainWrite d v a x.toNat

/-- LANEn. -/
def laneWrite (d : Device) (v : View) (a : Nat) (x : Word) : Device :=
  let n := (a - 0x100000) / 0x1000
  match a % 0x1000 with
  | 0x000 =>
    let d := plainWrite d v a x.toNat
    let d := if bit x.toNat 2 then adaptAgain d n else d
    if bit x.toNat 3 then fomClear d n else d
  | 0x010 => txeqWrite d n 0 x.toNat
  | 0x014 => txeqWrite d n 1 x.toNat
  | 0x018 => txeqWrite d n 2 x.toNat
  | 0x01C => txeqWrite d n 3 x.toNat
  | 0x040 => pwrWrite d n x.toNat
  | 0x050 => prbsWrite d n x.toNat
  | _ => plainWrite d v a x.toNat

/-- PORTn. The registers of an absorbed port read zero and hold nothing (R89): writes are ignored (log 37). -/
def portWrite (d : Device) (v : View) (a : Nat) (x : Word) : Device :=
  let n := (a - 0x140000) / 0x1000
  if absorbed d n then d
  else
    match a % 0x1000 with
    | 0x000 =>
      let d := plainWrite d v a x.toNat
      if bit x.toNat 1 then linkRestart d n else d
    | 0x208 => stage d v a x.toNat
    | 0x20C => alphaHi d v n x.toNat
    | 0x220 => l1Cfg d n x.toNat
    | _ => plainWrite d v a x.toNat

/-- ENG: TO_FULL and FROM_FULL of an applet engine's mailbox (R462). -/
def engWrite (d : Device) (v : View) (a : Nat) (x : Word) : Device :=
  let e := (a - 0x200000) / 0x100
  if a % 0x100 = 0x18 then
    if !isApplet e then d
    else
      let d := if bit x.toNat 0 then setFlag d a 0 true else d
      if bit x.toNat 1 then setFlag d a 1 false else d
  else plainWrite d v a x.toNat

/-- A word written to an aligned BAR0 offset reaches its register; reserved offsets, the TEST block and the CF block ignore it
(R405, R508, R509; log 53). -/
def regWrite (d : Device) (v : View) (a : Nat) (x : Word) : Device :=
  if reserved a then d
  else if a < 0x1000 then glbWrite d v a x
  else if a < 0x20000 then cmdWrite d v a x
  else if inFlt a then if v = .fw then fltWrite d v a x d.dev else fltRequest d v a x
  else if a < 0x50000 then tbWrite d v a x
  else if a = Reg.RED_GRAFT_CTL then
    if bit x.toNat 0 then outEnable (setFlag d Reg.RED_GRAFT_STATUS 7 false) else d
  else if a = Reg.RED_GRAFT_FORCE then ppWrite d v a x d.dev
  else if a = Reg.RED_GRAFT_FORCE_N then ppComp d v (a - 4) x d.dev
  else if a < 0x100000 then plainWrite d v a x.toNat
  else if a < 0x140000 then laneWrite d v a x
  else if a < 0x180000 then portWrite d v a x
  else if a = Reg.QUEG_POOL_CFG then poolWrite d x.toNat
  else if a = Reg.FWD_SEL then fwdSel d x.toNat
  else if a = Reg.FWD_CLR then if bit x.toNat 0 then fwdClear d else d
  else if a < 0x200000 then plainWrite d v a x.toNat
  else if a < 0x280000 then engWrite d v a x
  else if 0x280400 ≤ a && a < 0x2804A0 && a % 0x20 = 0 then smpCtl d ((a - 0x280400) / 0x20) x.toNat
  else if a < 0x300000 then plainWrite d v a x.toNat
  else d

/-! ### Accesses (R505 to R507) -/

/-- A word placed in BAR2 at a byte offset by a host memory write (R481, R483; log 40). -/
def barWrite (d : Device) (a : Nat) (x : Word) : Device :=
  modCmd d (fun t =>
    { t with bar2 := (wordBytes x.toNat).zipIdx.foldl (fun m b => tset (fun _ => (0 : Byte)) m (a + b.2) b.1) t.bar2 })

/-- The registers that SPI_WLOCK leaves open (R507). -/
def spiOpen (a : Nat) : Bool := a == Reg.CMD_MBX_WDATA || a == Reg.CMD_MBX_CTL

/-- One word of a view at an offset, the view's transport open. -/
def wordWrite (d : Device) (v : View) (a : Nat) (x : Word) : Device :=
  if v = .spi && flag d Reg.GLB_LOCK 1 && !spiOpen a then accessErr d v a else regWrite d v a x

/-- The second word of a pair: at the next offset, but at the same one for the FIFO address CMD_MBX_WDATA (R506, R507). -/
def nextOffset (v : View) (a : Nat) : Nat :=
  if v = .spi && a == Reg.CMD_MBX_WDATA then a else (a + 4) % 2 ^ 24

/-- A view can write now: the PCIe view while it is open (R609), the others while clocks run. -/
def viewOpen (d : Device) (v : View) : Bool := if v = .pcie then pcieOpen d else running d

/-- An access that is not carried out sets ACCESS_ERR in the PCIe and SPI views; firmware makes none. -/
def refuseAccess (d : Device) (v : View) (a : Nat) : Device := if v = .fw then d else accessErr d v a

/-- A write access of a view (R505, R506). A 64-bit PCIe access has an offset that is a multiple of 8. A lone SPI word at a
pair-protected register is held for a word that does not come (R515; log 51). -/
def access (d : Device) (v : View) (a : Nat) (acc : Access) : Device :=
  if !viewOpen d v then d
  else if 2 ^ 24 ≤ a then
    match v, acc with
    | .pcie, .whole x => if (a - 2 ^ 24) % 4 = 0 && a - 2 ^ 24 < 0x80000 then barWrite d (a - 2 ^ 24) x else d
    | .pcie, .pair x y =>
      if (a - 2 ^ 24) % 8 = 0 && a - 2 ^ 24 < 0x80000 then barWrite (barWrite d (a - 2 ^ 24) x) (a - 2 ^ 24 + 4) y else d
    | _, _ => d
  else
    match acc with
    | .partialBytes _ => if v = .spi then d else refuseAccess d v a
    | .badOpcode => if v = .spi then refuseAccess d v a else d
    | .whole x =>
      if a % 4 ≠ 0 then refuseAccess d v a
      else if v = .spi && (ppKey a).isSome then d
      else wordWrite d v a x
    | .pair x y =>
      if a % 4 ≠ 0 || (v = .pcie && a % 8 != 0) then refuseAccess d v a
      else wordWrite (wordWrite d v a x) v (nextOffset v a) y

end Sys2Proof.Machine
end

