-- ==== Sys2Proof/Machine/ReadOps.lean ====
section
/-! DEFINITION. A register read of a view: the words that the device works out as they are read, the groups and their shadows,
and the reads that remove an entry (R89, R507 to R511, and the block maps). -/

namespace Sys2Proof.Machine

open Sys2Proof

/-! ### Words worked out when they are read -/

/-- Which of m units at a stride have an enabled event, in an event register or in one 0x8C above it for lanes (R518). -/
def pendMask (d : Device) (base stride n : Nat) (also : Option Nat) : Nat :=
  let on (a : Nat) : Bool := Nat.land (rd d a) (rd d (a + 4)) != 0
  (upTo n).foldl (fun (m : Nat) k =>
    let a := base + stride * k
    if on a || (match also with | some o => on (a + o) | none => false) then m + 2 ^ k else m) 0

def lanePend (d : Device) : Nat := pendMask d 0x100044 0x1000 40 (some 0x8C)
def portPend (d : Device) : Nat := pendMask d 0x140040 0x1000 40 none
def quePend (d : Device) : Nat :=
  pendMask d 0x1A0080 0x800 42 none + 2 ^ 42 * b2n (Nat.land (rd d Reg.QUEG_EVENT) (rd d Reg.QUEG_IRQ_EN) != 0)

/-- The TEST block is open (R509). -/
def testOpen (d : Device) : Bool := flag d Reg.GLB_STRAPS 2 && !flag d Reg.GLB_LOCK 0

/-- GLB. -/
def glbRead (d : Device) (a : Nat) : Nat :=
  match a with
  | 0x000 => idWord d
  | 0x004 => d.fuse.serial % 2 ^ 32
  | 0x008 => d.fuse.serial / 2 ^ 32 % 2 ^ 32
  | 0x020 => withBits (withBits (rd d a) 2 2 (b2n (testOpen d))) 3 3 (b2n (flag d Reg.GLB_LOCK 1))
  | 0x034 => sourcesPending d
  | 0x038 => lanePend d % 2 ^ 32
  | 0x03C => lanePend d / 2 ^ 32
  | 0x040 => portPend d % 2 ^ 32
  | 0x044 => portPend d / 2 ^ 32
  | 0x048 => quePend d % 2 ^ 32
  | 0x04C => quePend d / 2 ^ 32
  | _ => rd d a

/-- Words of the oldest waiting mailbox reply (R486). -/
def mbxLength (d : Device) : Nat := match nextReply d isSpi with | some c => (replyWords c).length | none => 0

/-- CMD. The mailbox reads zero but through the SPI view (R485). -/
def cmdRead (d : Device) (v : View) (a : Nat) : Nat :=
  if a = Reg.CMD_STATUS then slotsUsed d (fun o => !isFirmware o)
  else if 0x10100 ≤ a && a < 0x10180 && a % 0x20 = 4 then
    withBits (rd d a) 25 16 (slotsUsed d (isRing ((a - 0x10100) / 0x20)))
  else if a = Reg.CMD_MBX_STATUS then
    if v = .spi then d.cmd.mbxIn.length % 2 ^ 11 + 2 ^ 16 * (slotsUsed d isSpi % 32) + 2 ^ 21 * (mbxLength d % 2 ^ 11) else 0
  else rd d a

/-- The value of a time base's slew that is left, in ns, toward zero (R243). -/
def slewLeft (d : Device) (n : Nat) : Nat :=
  match (tbOf d (activeSide d) n).slew with
  | some (r, _) => unsigned 32 (Int.tdiv r (2 ^ 48 : Nat))
  | none => 0

/-- TB_STATUS: slews, uncertain bases, scheduled steps, the active side. -/
def tbStatus (d : Device) : Nat :=
  let t (n : Nat) : TimeBase := tbOf d (activeSide d) n
  let m (p : TimeBase → Bool) : Nat := (upTo 8).foldl (fun (s : Nat) n => if p (t n) then s + 2 ^ n else s) 0
  m (fun t => t.slew.isSome) + 2 ^ 8 * fld d Reg.TB_STATUS 15 8 + 2 ^ 16 * m (fun t => t.sched.isSome) + 2 ^ 24 * activeSide d

/-- TB. -/
def tbRead (d : Device) (a : Nat) : Nat :=
  if a = Reg.TB_STATUS then tbStatus d
  else if a = Reg.TB_KEEPER_LO then d.tb.keeper % 2 ^ 32
  else if a = Reg.TB_KEEPER_HI then d.tb.keeper / 2 ^ 32 % 2 ^ 32
  else if 0x40080 ≤ a && a < 0x40100 && a % 0x10 = 0xC then slewLeft d ((a - 0x40080) / 0x10)
  else if a = Reg.TB_CAP_STATUS then (tget (fun _ => []) d.tb.caps (fld d Reg.TB_CAP_SEL 5 0)).length
  else if 0x40608 ≤ a && a < 0x40618 then ((takeCapture d).1.getD ((a - 0x40608) / 4) 0).toNat
  else rd d a

/-- A Trellis block. -/
def trlRead (d : Device) (a : Nat) : Nat :=
  let x := (a - 0x50000) / 0x8000
  let r := (a - 0x50000) % 0x8000
  if r = 0x38 then deltaReg d x % 2 ^ 32
  else if r = 0x3C then deltaReg d x / 2 ^ 32
  else if 0x400 ≤ r && r < 0x500 && r % 0x10 = 0 then candStatus d x ((r - 0x400) / 0x10)
  else rd d a

/-- CLK_MTRm_STATUS (R378); the first bits are those of CF_MTRi_STATUS. -/
def meterStatus (d : Device) (k : Nat) (used : Bool) : Nat :=
  let m := meterOf d k
  let mode := match m.job with | some j => j.mode | none => 0
  let isOpen := match m.job with | some j => gateRuns j (domNs d j.domain) | none => false
  m.method + 8 * b2n used + 16 * mode + (if k < 60 then 256 * b2n isOpen + 65536 * m.results.length else 0)

/-- CLK with its meter window. -/
def clkRead (d : Device) (a : Nat) : Nat :=
  if 0x60010 ≤ a && a < 0x60020 then
    let v := unsigned 48 (applied d ((a - 0x60010) / 8))
    if a % 8 = 0 then v % 2 ^ 32 else v / 2 ^ 32
  else if 0x64000 ≤ a && a < 0x64500 && a % 0x40 = 0 then
    let m := (a - 0x64000) / 0x40
    if m < 4 then withBits (rd d a) 1 0 (edgeOf d (40 + m)) else rd d a
  else if 0x64000 ≤ a && a < 0x64500 && a % 0x40 = 4 then
    let m := (a - 0x64000) / 0x40
    meterStatus d (40 + m) (mtrUsed d m)
  else if a = Reg.CLK_MTR_RD_COUNT then (mtrQueue d (40 + fld d Reg.CLK_MTR_RD_SEL 4 0) (flag d Reg.CLK_MTR_RD_SEL 8)).length
  else if 0x64840 ≤ a && a < 0x64880 then ((takeRecord d).1.getD ((a - 0x64840) / 4) 0).toNat
  else rd d a

/-- SYN: edges waiting at a pin, and a shaft's master as published. -/
def synRead (d : Device) (a : Nat) : Nat :=
  if 0x70100 ≤ a && a < 0x70200 && a % 0x10 = 8 then
    let j := (a - 0x70100) / 0x10
    withBits (rd d a) 8 4 (if pinFn d j = 1 then pendingEdges (pinOf d j) else 0)
  else if 0x70400 ≤ a && a < 0x70500 && 8 ≤ a % 0x40 && a % 0x40 < 0x20 then
    let p := published d ((a - 0x70400) / 0x40)
    let v := if a % 0x40 < 0x10 then p.1 else if a % 0x40 < 0x18 then p.2.1 else p.2.2
    if a % 8 = 0 then v % 2 ^ 32 else v / 2 ^ 32 % 2 ^ 32
  else rd d a

/-- ψ in 2^-16 ns, with a free rounding (R562, R581; log 15). -/
def psiReg (d : Device) : Nat := unsigned 64 (rdiv d (d.red.psi * 262144) 5000000000000000)

/-- Seconds of RESTORE_HOLD left, rounded up. -/
def wtrLeft (d : Device) (x : Nat) : Nat :=
  match (sideState d x).holdEnd with
  | some t => if (sideState d x).hold then (t - d.dev + secTicks - 1) / secTicks else 0
  | none => 0

/-- RED. -/
def redRead (d : Device) (a : Nat) : Nat :=
  if a = Reg.RED_SIDEA_HEALTH then withBits (rd d a) 31 16 (wtrLeft d 0)
  else if a = Reg.RED_SIDEB_HEALTH then withBits (rd d a) 31 16 (wtrLeft d 1)
  else if a = Reg.RED_PSI_LO then psiReg d % 2 ^ 32
  else if a = Reg.RED_PSI_HI then psiReg d / 2 ^ 32
  else if a = Reg.RED_FDIFF then unsigned 32 (rdiv d (fDiff d) 1000)
  else rd d a

/-- LANEn: the side, REF_SELECTED, and the transmit skew against the timing lane (R80, R262). -/
def laneRead (d : Device) (a : Nat) : Nat :=
  let n := (a - 0x100000) / 0x1000
  match a % 0x1000 with
  | 0x020 => withBits (withBits (rd d a) 11 11 (activeSide d)) 12 12 (b2n (refSelected d (laneOwner d n)))
  | 0x098 => unsigned 32 (signed 32 (rd d (Reg.LANE_KTX_CUR n)) - signed 32 (rd d (Reg.LANE_KTX_CUR (laneOwner d n))))
  | _ => rd d a

/-- PORTn; an absorbed port's registers read zero but ABSORBED and the FLUSH_TCc counters (R89). -/
def portRead (d : Device) (a : Nat) : Nat :=
  let n := (a - 0x140000) / 0x1000
  if absorbed d n then (if a % 0x1000 = 0x20 then 0x800 else 0)
  else if a % 0x1000 = 0x2C then holdLeft d n
  else rd d a

/-- CORE. -/
def coreRead (d : Device) (a : Nat) : Nat :=
  if a = Reg.CORE_STATUS then activeBanks d
  else if a = Reg.CORE_FREE_CELLS then freeCells d
  else if a = Reg.CORE_FREE_DESC then 131072 - d.core.descUsed
  else if a = Reg.CORE_TICKCNT_LO then tickcnt d % 2 ^ 32
  else if a = Reg.CORE_TICKCNT_HI then tickcnt d / 2 ^ 32
  else if 0x180400 ≤ a && a < 0x180500 && a % 0x10 = 0 then withBits (rd d a) 28 16 (bankUsed d ((a - 0x180400) / 0x10))
  else rd d a

/-- The gate entry that GL_IDX names: interval and gates (R194). -/
def gateAt (d : Device) (n : Nat) : Nat × Nat :=
  let i := fld d (Reg.QUE_GL_IDX n) 9 0
  let x := outOf d n
  if flag d (Reg.QUE_GL_IDX n) 16 then
    match x.pend with
    | some p => (tget (fun _ => none) p.written i).getD (0, 0)
    | none => (0, 0)
  else
    match x.active with
    | some l => l.entries.getD i (0, 0)
    | none => (0, 0)

/-- Launch time of the head of an output's list, in ns; 0 where it is empty. -/
def launchHead (d : Device) (n : Nat) : Nat := match (outOf d n).launch with | c :: _ => c.launch | [] => 0

/-- QUEn. -/
def queRead (d : Device) (a : Nat) : Nat :=
  let n := (a - 0x1A0000) / 0x800
  if 40 ≤ n then rd d a
  else
    match (a - 0x1A0000) % 0x800 with
    | 0x068 => (gateAt d n).1
    | 0x06C => (gateAt d n).2
    | 0x090 => launchCount d n true + 2 ^ 16 * launchCount d n false
    | 0x094 => launchHead d n % 1000000000
    | 0x098 => launchHead d n / 1000000000 % 2 ^ 32
    | 0x09C => launchHead d n / 1000000000 / 2 ^ 32 % 2 ^ 32
    | _ => rd d a

/-- QUEG and FWD. -/
def poolRead (d : Device) (a : Nat) : Nat :=
  if a = Reg.QUEG_POOL_STATUS then d.core.tendedUsed % 2 ^ 15 + 2 ^ 16 * b2n d.core.exhausted
  else if a = Reg.QUEG_SHARED_SIZE then sharedSize d
  else if a = Reg.QUEG_SHARED_USED then d.core.sharedUsed
  else if a = Reg.FWD_STATUS then fwdStatus d
  else if 0x1C0100 ≤ a && a < 0x1C0320 then (d.bus.fwdSnap.getD ((a - 0x1C0100) / 4) 0).toNat
  else rd d a

/-- PMC: the sampling buffers. -/
def pmcRead (d : Device) (a : Nat) : Nat :=
  if 0x280400 ≤ a && a < 0x2804A0 && a % 0x20 = 4 then (tget (fun _ => []) d.eng.samples ((a - 0x280400) / 0x20)).length
  else if 0x280500 ≤ a && a < 0x280640 then
    ((takeSample ((a - 0x280500) / 0x40) d).1.getD (a % 0x40 / 4) 0).toNat
  else rd d a

/-- Word k of a list. -/
def wordAt (ws : List Word) (k : Nat) : Nat := (ws.getD k 0).toNat

/-- CF (R405, R406); on a device without a Cold Frame the block is reserved (R4). -/
def cfWord (d : Device) (a : Nat) : Nat :=
  let r := a - 0x300000
  if !d.fuse.ma then 0
  else if r < 0x40 then
    match r with
    | 0x00 => cfStateWord d
    | 0x04 => d.cf.eventCnt
    | 0x08 => d.cf.imgVer
    | 0x0C => cfCheck d.cf.imgDigest
    | 0x10 => paramCheck d
    | 0x14 => d.cf.note
    | 0x18 => d.cf.lockv
    | 0x1C => d.cf.mismCount
    | 0x20 => instrId d % 2 ^ 32
    | 0x24 => instrId d / 2 ^ 32
    | 0x28 => d.cf.legalN
    | 0x2C => d.cf.generalN
    | _ => 0
  else if r < 0x70 then digestWord d ((r - 0x40) / 4)
  else if 0x100 ≤ r && r < 0x180 then
    let j := (r - 0x100) / 0x20
    match r % 0x20 with
    | 0x00 => wordAt (int2 (cfLive d j)) 0
    | 0x04 => wordAt (int2 (cfLive d j)) 1
    | 0x08 => wordAt (int2 (cfLen d j)) 0
    | 0x0C => wordAt (int2 (cfLen d j)) 1
    | 0x10 => (committed (cfTotal d j)).2
    | 0x14 => (cfTotal d j).qerrs
    | _ => 0
  else if 0x200 ≤ r && r < 0x220 then
    let k := 60 + (r - 0x200) / 4
    meterStatus d k (meterOf d k).job.isSome
  else if 0x280 ≤ r && r < 0x2A0 then tget (fun _ => 0) d.cf.widx ((r - 0x280) / 4)
  else if 0x1000 ≤ r && r < 0x3000 then wordAt (tget (fun _ => []) d.cf.rings ((r - 0x1000) / 0x40)) (r % 0x40 / 4)
  else 0

/-- The word at an aligned BAR0 offset, as it stands (R510). -/
def liveWord (d : Device) (v : View) (a : Nat) : Nat :=
  match cntInfo a with
  | some c =>
    if 0x140000 ≤ a && a < 0x168000 && absorbed d ((a - 0x140000) / 0x1000) && !(0x158 ≤ a % 0x1000 && a % 0x1000 < 0x198) then 0
    else if a = c.lo then cnt d c.lo % 2 ^ 32 else cnt d c.lo / 2 ^ 32
  | none =>
    if reserved a && a < 0x300000 then 0
    else if a < 0x1000 then glbRead d a
    else if a < 0x20000 then cmdRead d v a
    else if a < 0x40000 then (if a = Reg.FLT_STATUS then fltStatus d else rd d a)
    else if a < 0x50000 then tbRead d a
    else if a < 0x60000 then trlRead d a
    else if a < 0x70000 then clkRead d a
    else if a < 0x80000 then synRead d a
    else if a < 0x100000 then redRead d a
    else if a < 0x140000 then laneRead d a
    else if a < 0x180000 then portRead d a
    else if a < 0x1A0000 then coreRead d a
    else if a < 0x1B5000 then queRead d a
    else if a < 0x200000 then poolRead d a
    else if a < 0x280000 then rd d a
    else if a < 0x300000 then pmcRead d a
    else if a < 0x304000 then cfWord d a
    else 0

/-! ### Groups (R511) -/

/-- A group of n words from a low word, at a stride of m-fold repetition: the low word of the repetition that holds an offset. -/
def inGroup (a base stride count n : Nat) : Option (Nat × Nat) :=
  if base ≤ a && (a - base) / stride < count && (a - base) % stride < 4 * n then
    some (a - (a - base) % stride, n)
  else none

/-- The first group that holds an offset. -/
def firstGroup (a : Nat) : List (Nat × Nat × Nat × Nat) → Option (Nat × Nat)
  | [] => none
  | g :: l =>
    match inGroup a g.1 g.2.1 g.2.2.1 g.2.2.2 with
    | some r => some r
    | none => firstGroup a l

/-- The groups that the block maps name: low word, stride, count and words (R112, R243, R281, R306, R333, R377, R405, R438, R463,
R523, R553, R581). -/
def groups : List (Nat × Nat × Nat × Nat) :=
  [(0x4, 8, 1, 2), (0x20060, 32, 1, 8), (0x40010, 8, 1, 2), (0x40020, 8, 2, 2), (0x40034, 8, 1, 2), (0x40080, 16, 8, 2),
   (0x40100, 8, 2, 2), (0x40140, 16, 16, 4), (0x40400, 8, 40, 2), (0x40608, 16, 1, 4)] ++
  [(0x50024, 8, 2, 2), (0x50038, 8, 3, 2), (0x50404, 16, 16, 2), (0x58024, 8, 2, 2), (0x58038, 8, 3, 2), (0x58404, 16, 16, 2),
   (0x60010, 8, 2, 2), (0x64840, 64, 1, 16), (0x70408, 64, 4, 2), (0x70410, 64, 4, 2), (0x70418, 64, 4, 2),
   (0x70604, 16, 16, 2)] ++
  [(0x80028, 8, 1, 2), (0x100030, 0x1000, 40, 2), (0x10008C, 0x1000, 40, 2), (0x140024, 0x1000, 40, 2),
   (0x140208, 0x1000, 40, 2), (0x140230, 0x1000, 40, 2), (0x18002C, 8, 1, 2), (0x1A004C, 0x800, 40, 3), (0x1A0058, 0x800, 40, 3),
   (0x1A0094, 0x800, 40, 3), (0x280500, 64, 5, 8), (0x300020, 8, 1, 2), (0x300100, 32, 4, 2), (0x300108, 32, 4, 2)]

/-- The group of an offset: low word and number of words. Every counter is one. -/
def groupOf (a : Nat) : Option (Nat × Nat) :=
  match cntInfo a with
  | some c => some (c.lo, 2)
  | none => firstGroup a groups

/-- What a read of a removing low word takes out. -/
def takeAt (a : Nat) : Option (Device → List Word × Device) :=
  if a = Reg.TB_CAP_D0 then some takeCapture
  else if a = Reg.CLK_MTR_RD_W 0 then some takeRecord
  else if 0x280500 ≤ a && a < 0x280640 && a % 0x40 = 0 then some (takeSample ((a - 0x280500) / 0x40))
  else none

/-- A word answers a read. -/
def answerRead (d : Device) (v : Nat) : Device := emit d (.read [w32 v])

/-- A read of a register through a view: configuration parity is checked, the low word of a group latches the others, and an
upper word comes from the shadow, which it releases, or live (R510, R511, R516). -/
def regRead (d : Device) (v : View) (a : Nat) : Device :=
  let d := parityCheck d a (0x70 + viewNum v) 1
  match groupOf a with
  | none => if a = Reg.CMD_MBX_RDATA && v == .spi then mbxReadWord d else answerRead d (liveWord d v a)
  | some g =>
    if a = g.1 then
      match takeAt a with
      | some t => removeRead d v a true t
      | none =>
        latch (answerRead d (liveWord d v a)) v (a + 4) ((upTo (g.2 - 1)).map (fun k => w32 (liveWord d v (a + 4 + 4 * k))))
    else
      match tget (fun _ => none) d.bus.shadow (viewKey v a) with
      | some x =>
        modBus (answerRead d x.toNat) (fun b => { b with shadow := tset (fun _ => none) b.shadow (viewKey v a) none })
      | none => answerRead d (liveWord d v a)

/-- A read access of a view at an offset: unaligned ones have no effect but ACCESS_ERR, and offsets from 2^24 on are BAR2 of the
PCIe function (R505, R506; log 40). -/
def readAccess (d : Device) (v : View) (a : Nat) : Device :=
  if !viewOpen d v then closedRead d v
  else if a % 4 ≠ 0 then refuseAccess d v a
  else if 2 ^ 24 ≤ a then
    if v = .pcie && a - 2 ^ 24 < 0x80000 then
      emit d (.read (wordsOf 1 ((upTo 4).map (fun i => tget (fun _ => (0 : Byte)) d.cmd.bar2 (a - 2 ^ 24 + i)))))
    else d
  else regRead d v a

end Sys2Proof.Machine
end

