-- ==== Sys2Proof/Machine/Registers.lean ====
section
/-! DEFINITION. The rows of the control bus: register writes and reads, the locks, pair protection, event bits, the FWD window and
the parity scan (R504 to R522), with the pair-protected registers of other blocks (R544, R546, R577, R611, R620). -/

namespace Sys2Proof.Machine

open Sys2Proof

/-- REGISTER_WRITE (R513). -/
def execRegisterWrite (w : Nat) (v : View) (addr : Nat) (x : Access) (s : State) : Host.Outcome State Fault Refusal :=
  run w s (fun d => access d v addr x)

/-- A register whose fields are all event bits or sticky bits. -/
def isEventReg (a : Nat) : Bool :=
  match regInfo a with
  | some i => i.rw == 0 && i.rwe == 0 && i.w1c != 0
  | none => false

/-- EVENT_CLEAR: ones written to an event register (R517, R519). -/
def execEventClear (w : Nat) (v : View) (addr : Nat) (x : Word) (s : State) : Host.Outcome State Fault Refusal :=
  run w s (fun d => onlyIf (isEventReg addr) d (fun d => access d v addr (.whole x)))

/-- GLB_SRC_EN_WRITE (R519). -/
def execGlbSrcEnWrite (w : Nat) (v : View) (x : Word) (s : State) : Host.Outcome State Fault Refusal :=
  run w s (fun d => viewWrite d v Reg.GLB_SRC_EN (fun d => srcEnWrite d x.toNat))

/-- GLB_LOCK (R514). -/
def execGlbLock (w : Nat) (v : View) (x : Word) (s : State) : Host.Outcome State Fault Refusal :=
  run w s (fun d => viewWrite d v Reg.GLB_LOCK (fun d => lockWrite d v x.toNat))

/-- PP_FAIL (R515). -/
def execPpFail (w : Nat) (v : View) (addr : Nat) (s : State) : Host.Outcome State Fault Refusal :=
  run w s (fun d => onlyIf (running d) d (fun d => ppElapsed d v addr))

/-- GLB_DEV_RESET (R515, R611). -/
def execGlbDevReset (w : Nat) (v : View) (x comp : Word) (s : State) : Host.Outcome State Fault Refusal :=
  run w s (fun d => viewWrite d v Reg.GLB_DEV_RESET (fun d => ppPair d v Reg.GLB_DEV_RESET x comp))

/-- GLB_DORMANT (R515, R620). -/
def execGlbDormant (w : Nat) (v : View) (x comp : Word) (s : State) : Host.Outcome State Fault Refusal :=
  run w s (fun d => viewWrite d v Reg.GLB_DORMANT (fun d => ppPair d v Reg.GLB_DORMANT x comp))

/-- FLT_SHEARS_REQ: ME1 carries out the pair after the requests that came before it (R526, R544). -/
def execFltShearsReq (w : Nat) (v : View) (x comp : Word) (s : State) : Host.Outcome State Fault Refusal :=
  run w s (fun d => viewWrite d v Reg.FLT_SHEARS_REQ (fun d => ppPair (fltDrain d) v Reg.FLT_SHEARS_REQ x comp))

/-- FLT_SHEARS_REL (R526, R546). -/
def execFltShearsRel (w : Nat) (v : View) (x comp : Word) (s : State) : Host.Outcome State Fault Refusal :=
  run w s (fun d => viewWrite d v Reg.FLT_SHEARS_REL (fun d => ppPair (fltDrain d) v Reg.FLT_SHEARS_REL x comp))

/-- RED_GRAFT_FORCE (R515, R577). -/
def execRedGraftForce (w : Nat) (v : View) (x comp : Word) (s : State) : Host.Outcome State Fault Refusal :=
  run w s (fun d => viewWrite d v Reg.RED_GRAFT_FORCE (fun d => ppPair d v Reg.RED_GRAFT_FORCE x comp))

/-- FWD_SEL_WRITE (R521). -/
def execFwdSelWrite (w : Nat) (v : View) (x : Word) (s : State) : Host.Outcome State Fault Refusal :=
  run w s (fun d => viewWrite d v Reg.FWD_SEL (fun d => fwdSel d x.toNat))

/-- FWD_SNAPSHOT_DONE (R521). -/
def execFwdSnapshotDone (w : Nat) (s : State) : Host.Outcome State Fault Refusal :=
  run w s (fun d => onlyIf (running d) d fwdDone)

/-- FWD_CLR (R521). -/
def execFwdClr (w : Nat) (v : View) (s : State) : Host.Outcome State Fault Refusal :=
  run w s (fun d => viewWrite d v Reg.FWD_CLR fwdClear)

/-- The scan visits a configuration register; the stored word may have been upset since it was written (R516). -/
def parityVisit (d : Device) (a : Nat) (upset : Bool) : Device :=
  match regInfo a with
  | some i =>
    if !running d || !i.par then d
    else
      let d := if upset && !d.parityBad.contains a then { d with parityBad := a :: d.parityBad } else d
      parityCheck d a 0x80 4
  | none => d

/-- PARITY_SCAN (R516). -/
def execParityScan (w : Nat) (addr : Nat) (upset : Bool) (s : State) : Host.Outcome State Fault Refusal :=
  run w s (fun d => parityVisit d addr upset)

/-- GROUP_LOW_WORD_READ: a read of a register through a view (R510, R511). -/
def execGroupLowWordRead (w : Nat) (v : View) (addr : Nat) (s : State) : Host.Outcome State Fault Refusal :=
  run w s (fun d => readAccess d v addr)

end Sys2Proof.Machine
end

