-- ==== Sys2Proof/Machine/ShaftRows.lean ====
section
/-! DEFINITION. The rows of the line shafts, the sync pins and the halt frames (R416, R424, R437, R544). -/

namespace Sys2Proof.Machine

open Sys2Proof

/-- SHAFT_INJECTION (R424). -/
def execShaftInjection (w : Nat) (i : Fin 4) (s : State) : Host.Outcome State Fault Refusal :=
  run w s (fun d => onlyIf (ticking d) d (fun d => injectFrame d i))

/-- SYNC_PIN_EDGE (R416). -/
def execSyncPinEdge (w : Nat) (j : Fin 16) (s : State) : Host.Outcome State Fault Refusal :=
  run w s (fun d => onlyIf (ticking d) d (fun d => pinNext d j))

/-- SHEARS_ENTER (R544, R545). -/
def execShearsEnter (w : Nat) (s : State) : Host.Outcome State Fault Refusal :=
  run w s (fun d => onlyIf (running d) d shearsEnter)

/-- HALT_FRAME_DONE (R437). -/
def execHaltFrameDone (w : Nat) (n : Fin 40) (s : State) : Host.Outcome State Fault Refusal :=
  run w s (fun d => onlyIf (ticking d) d (fun d => haltDone d n))

end Sys2Proof.Machine
end

