-- ==== Sys2Proof/Machine/TrellisRows.lean ====
section
/-! DEFINITION. The rows of the Trellis: loop updates, the timers of candidates and sides, model samples, holdover writes, the
cross-check and delivered offsets (R283 to R304). -/

namespace Sys2Proof.Machine

open Sys2Proof

/-- A loop update of a side is due: 2,048 a second, none while its synthesizer is unlocked (R294, R319). -/
def loopDue (d : Device) (x : Nat) : Device :=
  onlyIf (ticking d && synLocked d x && decide ((trlOf d x).loopIdx < loopNow d)) d (fun d => loopUpdate d x)

/-- TRELLIS_LOOP_UPDATE (R294). -/
def execTrellisLoopUpdate (w : Nat) (x : Side) (s : State) : Host.Outcome State Fault Refusal :=
  run w s (fun d => loopDue d (sideNum x))

/-- A time-out since a tick has passed. -/
def passedSince (d : Device) (t : Option Nat) (n : Nat) : Bool :=
  match t with
  | some t => decide (t + n ≤ d.tick)
  | none => false

/-- The qualification timer of an entry, or a watch timer, reaches QUAL_TIME (R288 rows 2 and 4). -/
def qualDue (d : Device) (x e : Nat) : Device :=
  let c := candOf d x e
  let n := qualTicks d x e
  match candSt d x e with
  | 2 => if passedSince d c.softAt n then qualify d x e else d
  | 4 =>
    if passedSince d c.hardAt n then enterCand d x e 5 1
    else if passedSince d c.softAt n then enterCand d x e 3 0
    else d
  | _ => d

/-- QUAL_TIMER (R288). -/
def execQualTimer (w : Nat) (x : Side) (e : Fin 16) (s : State) : Host.Outcome State Fault Refusal :=
  run w s (fun d => onlyIf (ticking d) d (fun d => qualDue d (sideNum x) e))

/-- The wait-to-restore timer of an entry reaches WTR (R288 row 6). -/
def wtrDue (d : Device) (x e : Nat) : Device :=
  if candSt d x e = 6 ∧ (candOf d x e).wtrAt + cw d x e 3 27 16 * secTicks ≤ d.tick then enterCand d x e 3 0 else d

/-- WTR_TIMER (R288). -/
def execWtrTimer (w : Nat) (x : Side) (e : Fin 16) (s : State) : Host.Outcome State Fault Refusal :=
  run w s (fun d => onlyIf (ticking d) d (fun d => wtrDue d (sideNum x) e))

/-- A drift window of an entry ends: its slope, and the trip after two windows beyond DRIFT_THR (R289, R290). -/
def driftEnd (d : Device) (x e : Nat) : Device :=
  let d := driftCatch d x e
  let c := candOf d x e
  if !driftRuns d x e || decide (c.ys.length < cw d x e 5 9 0) then d
  else
    let slope := slopeOf c.ys
    let wide := qLt (qOf (cw d x e 5 31 16 : Nat)) (qAbs slope)
    let d := nextFree (wr d (Reg.TRL_CAND_DRIFT x e) (unsigned 32 (rq d slope)))
    let d := modCand d x e (fun c =>
      { c with ys := [], winAt := c.winAt + cw d x e 5 9 0 * secTicks, isOver := wide, winPassed := true })
    if wide && c.isOver then disqualify d x e 2 else d

/-- DRIFT_WINDOW_END (R290). -/
def execDriftWindowEnd (w : Nat) (x : Side) (e : Fin 16) (s : State) : Host.Outcome State Fault Refusal :=
  run w s (fun d => onlyIf (ticking d && cValid d (sideNum x) e) d (fun d => driftEnd d (sideNum x) e))

/-- The best selectable entry takes over through BRIDGE, or HOLDOVER follows (R299 rows 2 and 4). -/
def bridgeOrHold (d : Device) (x cause : Nat) : Device :=
  match bestOf d x with
  | some e => toBridge d x e cause
  | none => toHoldover d x

/-- HOLDOFF elapses: presence regained wins; else the candidate is ABSENT (R288, R299 row 2, R302). -/
def holdoffDue (d : Device) (x : Nat) : Device :=
  let e := selOf d x
  if sideSt d x = 2 ∧ (trlOf d x).enteredAt + cw d x e 4 13 0 * msTicks ≤ d.tick then
    let d := presenceOf d true x e
    if sideSt d x = 2 then bridgeOrHold (enterCand d x e 1 0) x (if forceMode d x = 1 then 3 else 1) else d
  else d

/-- HOLDOFF_ELAPSED (R299). -/
def execHoldoffElapsed (w : Nat) (x : Side) (s : State) : Host.Outcome State Fault Refusal :=
  run w s (fun d => onlyIf (ticking d) d (fun d => holdoffDue d (sideNum x)))

/-- An acquisition has lasted ACQ_TMO: its target is disqualified (R289, R299 row 4 (c)). -/
def acqDue (d : Device) (x : Nat) : Device :=
  if sideSt d x = 4 ∧ passedSince d (trlOf d x).acqAt (fld d (Reg.TRL_ACQ_TMO x) 9 0 * secTicks) then
    bridgeOrHold (disqualify d x (targetOf d x) 5) x (trlOf d x).cause
  else d

/-- ACQ_TMO (R299). -/
def execAcqTmo (w : Nat) (x : Side) (s : State) : Host.Outcome State Fault Refusal :=
  run w s (fun d => onlyIf (ticking d) d (fun d => acqDue d (sideNum x)))

/-- MODEL_SAMPLE: a second of the model has passed (R297). -/
def execModelSample (w : Nat) (x : Side) (s : State) : Host.Outcome State Fault Refusal :=
  run w s (fun d =>
    onlyIf (ticking d && decide ((trlOf d (sideNum x)).secAt + secTicks ≤ d.tick)) d (fun d => modelSecond d (sideNum x)))

/-- A second has passed since the last write in BRIDGE, HOLDOFF or HOLDOVER (R298). -/
def holdDue (d : Device) (x : Nat) : Bool :=
  (sideSt d x == 2 || sideSt d x == 3 || sideSt d x == 5) && decide ((trlOf d x).wroteAt + secTicks ≤ d.tick)

/-- HOLDOVER_DCO_WRITE (R298). -/
def execHoldoverDcoWrite (w : Nat) (x : Side) (s : State) : Host.Outcome State Fault Refusal :=
  run w s (fun d => onlyIf (ticking d && holdDue d (sideNum x)) d (fun d => holdoverWrite d (sideNum x)))

/-- The cross-check of an entry for one second: the spare meter's frequency and the mean of PH_RATE, in 10^-15 (R287). -/
def xchkDue (d : Device) (x e : Nat) (spare mean : Int) : Device :=
  if cValid d x e && cType d x e == 0 && flag d (Reg.TRL_CAND_STATUS x e) 7 && (candOf d x e).present then
    let off := decide (1000000 < (spare - mean).natAbs)
    let bad := off && (candOf d x e).xbad
    let d := modCand d x e (fun c => { c with xbad := off })
    if bad then disqualify d x e 4 else d
  else d

/-- XCHK_SECOND (R287). -/
def execXchkSecond (w : Nat) (x : Side) (e : Fin 16) (spare mean : Int) (s : State) : Host.Outcome State Fault Refusal :=
  run w s (fun d => onlyIf (ticking d) d (fun d => xchkDue d (sideNum x) e spare mean))

/-- The partner-to-port delay of R270 in 2^-16 ns; the rounding of the quotient is free (log 15). -/
def delayIn (d : Device) (n : Nat) (rtt : Int) : Int :=
  let alpha := signed 64 (rd64 d (Reg.PORT_ALPHA_LO n) (Reg.PORT_ALPHA_HI n))
  rdiv d (rtt * (2 ^ 62 + alpha)) ((2 ^ 63 + alpha).toNat) + signed 32 (rd d (Reg.PORT_ASYM_FIX n))

/-- An offset of port n, local time minus the partner's, in 2^-16 ns, reaches one entry: a PTP entry takes it as its time error,
a LANE entry with TIME as the anchor of its phase (R283, R285). -/
def offsetTo (d : Device) (n : Nat) (off : Int) (interval : Nat) (x e : Nat) : Device :=
  if !cValid d x e || cIndex d x e != n then d
  else if cType d x e = 1 then offsetAt d x e off interval
  else if cType d x e = 0 && cTime d x e then
    let phi := (lane d n).phi
    presenceOf (modCand d x e (fun c =>
      { c with base := off * (2 ^ 32 : Nat), phi0 := phi, seenAt := some d.now })) true x e
  else d

/-- Firmware ends an exchange on port n with the departure a at the partner, the arrival b and the departure c here and the
arrival d at the partner, in 2^-16 ns as stamped (R269 to R271, R276). The exchange counts where PORTn_DLY_CHG still reads what it
read at its first stamp. In MODE 1 the local stamps move to the reference plane and the offset goes to both sides' entries; in MODE
3 the delay alone is formed, at the pads. -/
def exchange (d : Device) (n : Nat) (ta tb tc td : Int) (chg0 : Word) (interval : Nat) : Device :=
  let mode := fld d (Reg.TB_PTP n) 2 0
  if !(mode == 1 || mode == 3) || rd d (Reg.PORT_DLY_CHG n) != chg0.toNat || absorbed d n then d
  else
    let tb := if mode = 1 then tb - rd d (Reg.PORT_EXT_RX n) else tb
    let tc := if mode = 1 then tc + rd d (Reg.PORT_EXT_TX n) else tc
    let rtt := (td - ta) - (tc - tb)
    let din := delayIn d n rtt
    let d := nextFree (wr48 d (Reg.PORT_RTT_LO n) (Reg.PORT_RTT_HI n) (unsigned 48 rtt))
    let d := wr d (Reg.PORT_RTT_SEQ n) (rd d (Reg.PORT_RTT_SEQ n) + 1)
    if mode = 3 then wr48 d (Reg.TB_LINKDLY_LO n) (Reg.TB_LINKDLY_HI n) (unsigned 48 din)
    else if !l1Lets d n then d
    else
      let off := (tb - ta) - din
      each (upTo 2) d (fun d x => each (upTo 16) d (fun d e => offsetTo d n off interval x e))

/-- PTP_OFFSET (R270, R283). -/
def execPtpOffset (w : Nat) (n : Fin 40) (a b c d : Int) (chg0 : Word) (intervalTicks : Nat) (s : State) :
    Host.Outcome State Fault Refusal :=
  run w s (fun dv => onlyIf (ticking dv && coreReady dv) dv (fun dv => exchange dv n a b c d chg0 intervalTicks))

/-- PRESENCE_LOST: a presence condition of R283 has timed out. -/
def execPresenceLost (w : Nat) (x : Side) (e : Fin 16) (s : State) : Host.Outcome State Fault Refusal :=
  run w s (fun d =>
    onlyIf (ticking d && (candOf d (sideNum x) e).present) d (fun d => presenceOf d true (sideNum x) e))

end Sys2Proof.Machine
end

