-- ==== Sys2Proof/Machine/Dispatch.lean ====
section
/-! DEFINITION. The dispatch: one arm per command, each one direct call of the command's meaning. -/

namespace Sys2Proof.Machine

open Sys2Proof

def exec (i : Instr) (s : State) : Host.Outcome State Fault Refusal :=
  match i with
  | .devInfo w o p => Sys2Proof.Machine.execDevInfo w o p s
  | .functionReset w o p => Sys2Proof.Machine.execFunctionReset w o p s
  | .setLatencyTolerance w o p => Sys2Proof.Machine.execSetLatencyTolerance w o p s
  | .abort w o p => Sys2Proof.Machine.execAbort w o p s
  | .fence w o p => Sys2Proof.Machine.execFence w o p s
  | .portConfig w o p => Sys2Proof.Machine.execPortConfig w o p s
  | .portEnable w o p => Sys2Proof.Machine.execPortEnable w o p s
  | .portDisable w o p => Sys2Proof.Machine.execPortDisable w o p s
  | .portStatus w o p => Sys2Proof.Machine.execPortStatus w o p s
  | .laneLadder w o p => Sys2Proof.Machine.execLaneLadder w o p s
  | .portRegang w o p => Sys2Proof.Machine.execPortRegang w o p s
  | .fdbWrite w o p => Sys2Proof.Machine.execFdbWrite w o p s
  | .fdbRead w o p => Sys2Proof.Machine.execFdbRead w o p s
  | .streamIdWrite w o p => Sys2Proof.Machine.execStreamIdWrite w o p s
  | .mcastGroupWrite w o p => Sys2Proof.Machine.execMcastGroupWrite w o p s
  | .queueConfig w o p => Sys2Proof.Machine.execQueueConfig w o p s
  | .gateListLoad w o p => Sys2Proof.Machine.execGateListLoad w o p s
  | .gateListSwap w o p => Sys2Proof.Machine.execGateListSwap w o p s
  | .timedLaunch w o p => Sys2Proof.Machine.execTimedLaunch w o p s
  | .tbRead w o p => Sys2Proof.Machine.execTbRead w o p s
  | .tbSet w o p => Sys2Proof.Machine.execTbSet w o p s
  | .tbStep w o p => Sys2Proof.Machine.execTbStep w o p s
  | .tbSetIncr w o p => Sys2Proof.Machine.execTbSetIncr w o p s
  | .ptpPortConfig w o p => Sys2Proof.Machine.execPtpPortConfig w o p s
  | .asymSet w o p => Sys2Proof.Machine.execAsymSet w o p s
  | .trellisTableLoad w o p => Sys2Proof.Machine.execTrellisTableLoad w o p s
  | .trellisForce w o p => Sys2Proof.Machine.execTrellisForce w o p s
  | .trellisStatus w o p => Sys2Proof.Machine.execTrellisStatus w o p s
  | .dcoSteer w o p => Sys2Proof.Machine.execDcoSteer w o p s
  | .measJobStart w o p => Sys2Proof.Machine.execMeasJobStart w o p s
  | .measResult w o p => Sys2Proof.Machine.execMeasResult w o p s
  | .cfIdentity w o p => Sys2Proof.Machine.execCfIdentity w o p s
  | .cfAuditRead w o p => Sys2Proof.Machine.execCfAuditRead w o p s
  | .shaftConfig w o p => Sys2Proof.Machine.execShaftConfig w o p s
  | .shaftMotion w o p => Sys2Proof.Machine.execShaftMotion w o p s
  | .syncPinClaim w o p => Sys2Proof.Machine.execSyncPinClaim w o p s
  | .syncPinRelease w o p => Sys2Proof.Machine.execSyncPinRelease w o p s
  | .appletLoad w o p => Sys2Proof.Machine.execAppletLoad w o p s
  | .appletStart w o p => Sys2Proof.Machine.execAppletStart w o p s
  | .appletStop w o p => Sys2Proof.Machine.execAppletStop w o p s
  | .pmcConfig w o p => Sys2Proof.Machine.execPmcConfig w o p s
  | .faultRead w o p => Sys2Proof.Machine.execFaultRead w o p s
  | .faultAck w o p => Sys2Proof.Machine.execFaultAck w o p s
  | .faultInjectArm w o p => Sys2Proof.Machine.execFaultInjectArm w o p s
  | .claimStatus w o p => Sys2Proof.Machine.execClaimStatus w o p s
  | .sidePrefer w o p => Sys2Proof.Machine.execSidePrefer w o p s
  | .graftJoin w o p => Sys2Proof.Machine.execGraftJoin w o p s
  | .graftLeave w o p => Sys2Proof.Machine.execGraftLeave w o p s
  | .bankRetire w o p => Sys2Proof.Machine.execBankRetire w o p s
  | .bankRestore w o p => Sys2Proof.Machine.execBankRestore w o p s
  | .imageWrite w o p => Sys2Proof.Machine.execImageWrite w o p s
  | .imageActivate w o p => Sys2Proof.Machine.execImageActivate w o p s
  | .cmdSqDoorbell w v k x => Sys2Proof.Machine.execCmdSqDoorbell w v k x s
  | .cmdRingReset w v k x => Sys2Proof.Machine.execCmdRingReset w v k x s
  | .cmdCqHeadWrite w v k x => Sys2Proof.Machine.execCmdCqHeadWrite w v k x s
  | .coalUsExpiry w k => Sys2Proof.Machine.execCoalUsExpiry w k s
  | .cmdMbxWdata w x => Sys2Proof.Machine.execCmdMbxWdata w x s
  | .submit w => Sys2Proof.Machine.execSubmit w s
  | .discard w => Sys2Proof.Machine.execDiscard w s
  | .cmdMbxRdata w => Sys2Proof.Machine.execCmdMbxRdata w s
  | .brelyCommand w bytes => Sys2Proof.Machine.execBrelyCommand w bytes s
  | .fenceWaitEnd w o tag => Sys2Proof.Machine.execFenceWaitEnd w o tag s
  | .timeout w o tag => Sys2Proof.Machine.execTimeout w o tag s
  | .ladderOfferRx w n m => Sys2Proof.Machine.execLadderOfferRx w n m s
  | .ladderStepRx w n m => Sys2Proof.Machine.execLadderStepRx w n m s
  | .ladderStepAckRx w n m => Sys2Proof.Machine.execLadderStepAckRx w n m s
  | .ladderReportRx w n m => Sys2Proof.Machine.execLadderReportRx w n m s
  | .ladderFinalRx w n m => Sys2Proof.Machine.execLadderFinalRx w n m s
  | .ladderFinalAckRx w n m => Sys2Proof.Machine.execLadderFinalAckRx w n m s
  | .ladderAbandonRx w n m => Sys2Proof.Machine.execLadderAbandonRx w n m s
  | .ladderRepeat w n => Sys2Proof.Machine.execLadderRepeat w n s
  | .offerTmo w n => Sys2Proof.Machine.execOfferTmo w n s
  | .adaptTmo w n => Sys2Proof.Machine.execAdaptTmo w n s
  | .adaptReportTmo w n => Sys2Proof.Machine.execAdaptReportTmo w n s
  | .ladderSwitchDelay w n => Sys2Proof.Machine.execLadderSwitchDelay w n s
  | .laneWindowEnd w n hist => Sys2Proof.Machine.execLaneWindowEnd w n hist s
  | .cdrLost w n => Sys2Proof.Machine.execCdrLost w n s
  | .cdrLock w n ppb => Sys2Proof.Machine.execCdrLock w n ppb s
  | .coarseSweepDone w n foms => Sys2Proof.Machine.execCoarseSweepDone w n foms s
  | .adaptRestart w v n => Sys2Proof.Machine.execAdaptRestart w v n s
  | .fomMinClr w v n => Sys2Proof.Machine.execFomMinClr w v n s
  | .lanePwrWrite w v n x => Sys2Proof.Machine.execLanePwrWrite w v n x s
  | .lanePowerEntryDone w n d => Sys2Proof.Machine.execLanePowerEntryDone w n d s
  | .laneWakeDone w n d => Sys2Proof.Machine.execLaneWakeDone w n d s
  | .laneTxeqWrite w v n k x => Sys2Proof.Machine.execLaneTxeqWrite w v n k x s
  | .prbsCtlWrite w v n x => Sys2Proof.Machine.execPrbsCtlWrite w v n x s
  | .slip w n dfs => Sys2Proof.Machine.execSlip w n dfs s
  | .phaseAcqTimer w n => Sys2Proof.Machine.execPhaseAcqTimer w n s
  | .phaseWindowPublish w n unwrapped rate => Sys2Proof.Machine.execPhaseWindowPublish w n unwrapped rate s
  | .skewMarkerPeriod w n diff => Sys2Proof.Machine.execSkewMarkerPeriod w n diff s
  | .txAlignErr w n => Sys2Proof.Machine.execTxAlignErr w n s
  | .txRealign w n => Sys2Proof.Machine.execTxRealign w n s
  | .kTempUpdate w n tjMilli => Sys2Proof.Machine.execKTempUpdate w n tjMilli s
  | .portAlphaHiWrite w v n x => Sys2Proof.Machine.execPortAlphaHiWrite w v n x s
  | .rxFrame w n f => Sys2Proof.Machine.execRxFrame w n f s
  | .linkFault w n c => Sys2Proof.Machine.execLinkFault w n c s
  | .linkOkHeld w n => Sys2Proof.Machine.execLinkOkHeld w n s
  | .downHoldElapsed w n => Sys2Proof.Machine.execDownHoldElapsed w n s
  | .recoveryAttemptFail w n => Sys2Proof.Machine.execRecoveryAttemptFail w n s
  | .drainQueuesEmpty w n => Sys2Proof.Machine.execDrainQueuesEmpty w n s
  | .drainTmo w n => Sys2Proof.Machine.execDrainTmo w n s
  | .linkRestart w v n => Sys2Proof.Machine.execLinkRestart w v n s
  | .l1SyncTlvRx w n flags optParams => Sys2Proof.Machine.execL1SyncTlvRx w n flags optParams s
  | .l1SyncTlvSend w n => Sys2Proof.Machine.execL1SyncTlvSend w n s
  | .l1SyncReceiptTmo w n => Sys2Proof.Machine.execL1SyncReceiptTmo w n s
  | .l1CfgWrite w v n x => Sys2Proof.Machine.execL1CfgWrite w v n x s
  | .hostFrameInject w pre bytes => Sys2Proof.Machine.execHostFrameInject w pre bytes s
  | .frameLink w pl ram => Sys2Proof.Machine.execFrameLink w pl ram s
  | .rakeGap w out src tc => Sys2Proof.Machine.execRakeGap w out src tc s
  | .tendedRelease w out => Sys2Proof.Machine.execTendedRelease w out s
  | .ageDrop w out tc timed => Sys2Proof.Machine.execAgeDrop w out tc timed s
  | .fdbAgeing w bucket way => Sys2Proof.Machine.execFdbAgeing w bucket way s
  | .recoveryResetTmo w j => Sys2Proof.Machine.execRecoveryResetTmo w j s
  | .txComplete w out ram => Sys2Proof.Machine.execTxComplete w out ram s
  | .freeListAudit w ram => Sys2Proof.Machine.execFreeListAudit w ram s
  | .bankRetired w b => Sys2Proof.Machine.execBankRetired w b s
  | .bankTestDone w b pass => Sys2Proof.Machine.execBankTestDone w b pass s
  | .bankRateWindow w b => Sys2Proof.Machine.execBankRateWindow w b s
  | .selectionPoint w out errs ram => Sys2Proof.Machine.execSelectionPoint w out errs ram s
  | .timedLaunchReady w n => Sys2Proof.Machine.execTimedLaunchReady w n s
  | .launchTick w n errs => Sys2Proof.Machine.execLaunchTick w n errs s
  | .launchDrop w n => Sys2Proof.Machine.execLaunchDrop w n s
  | .gateBoundary w n => Sys2Proof.Machine.execGateBoundary w n s
  | .gateSwapped w n => Sys2Proof.Machine.execGateSwapped w n s
  | .quegPoolCfgWrite w v x => Sys2Proof.Machine.execQuegPoolCfgWrite w v x s
  | .tbIncrLoWrite w v n x => Sys2Proof.Machine.execTbIncrLoWrite w v n x s
  | .tbIncrHiWrite w v n x => Sys2Proof.Machine.execTbIncrHiWrite w v n x s
  | .tbEnableWrite w v x => Sys2Proof.Machine.execTbEnableWrite w v x s
  | .snap w v => Sys2Proof.Machine.execSnap w v s
  | .scheduledStep w n => Sys2Proof.Machine.execScheduledStep w n s
  | .slewDone w n => Sys2Proof.Machine.execSlewDone w n s
  | .tbCapRead w v first => Sys2Proof.Machine.execTbCapRead w v first s
  | .trellisLoopUpdate w x => Sys2Proof.Machine.execTrellisLoopUpdate w x s
  | .qualTimer w x e => Sys2Proof.Machine.execQualTimer w x e s
  | .wtrTimer w x e => Sys2Proof.Machine.execWtrTimer w x e s
  | .driftWindowEnd w x e => Sys2Proof.Machine.execDriftWindowEnd w x e s
  | .holdoffElapsed w x => Sys2Proof.Machine.execHoldoffElapsed w x s
  | .acqTmo w x => Sys2Proof.Machine.execAcqTmo w x s
  | .modelSample w x => Sys2Proof.Machine.execModelSample w x s
  | .holdoverDcoWrite w x => Sys2Proof.Machine.execHoldoverDcoWrite w x s
  | .xchkSecond w x e spare mean => Sys2Proof.Machine.execXchkSecond w x e spare mean s
  | .ptpOffset w n a b c d chg0 intervalTicks => Sys2Proof.Machine.execPtpOffset w n a b c d chg0 intervalTicks s
  | .rootPllLock w => Sys2Proof.Machine.execRootPllLock w s
  | .rootUnlock w => Sys2Proof.Machine.execRootUnlock w s
  | .oscLoss w => Sys2Proof.Machine.execOscLoss w s
  | .oscReturn w => Sys2Proof.Machine.execOscReturn w s
  | .restarted w => Sys2Proof.Machine.execRestarted w s
  | .synLock w x => Sys2Proof.Machine.execSynLock w x s
  | .synUnlock w x => Sys2Proof.Machine.execSynUnlock w x s
  | .coreDivReq w v x => Sys2Proof.Machine.execCoreDivReq w v x s
  | .coreDivDone w => Sys2Proof.Machine.execCoreDivDone w s
  | .synSlewMove w x => Sys2Proof.Machine.execSynSlewMove w x s
  | .ppsOutPulse w => Sys2Proof.Machine.execPpsOutPulse w s
  | .ppsPulseEnd w => Sys2Proof.Machine.execPpsPulseEnd w s
  | .lockmonRefresh w => Sys2Proof.Machine.execLockmonRefresh w s
  | .meterCalStart w => Sys2Proof.Machine.execMeterCalStart w s
  | .calDone w m r => Sys2Proof.Machine.execCalDone w m r s
  | .shadowBlockEnd w m mean rms => Sys2Proof.Machine.execShadowBlockEnd w m mean rms s
  | .ringPeriodCheck w m pStart pStop => Sys2Proof.Machine.execRingPeriodCheck w m pStart pStop s
  | .meterEdge w m rising c => Sys2Proof.Machine.execMeterEdge w m rising c s
  | .measGateClose w m => Sys2Proof.Machine.execMeasGateClose w m s
  | .clkMtrRdW0 w v first => Sys2Proof.Machine.execClkMtrRdW0 w v first s
  | .cfRequest w => Sys2Proof.Machine.execCfRequest w s
  | .cfReplyRead w => Sys2Proof.Machine.execCfReplyRead w s
  | .tamperSample w open0 open1 => Sys2Proof.Machine.execTamperSample w open0 open1 s
  | .vbatLow w => Sys2Proof.Machine.execVbatLow w s
  | .cfPowerFail w => Sys2Proof.Machine.execCfPowerFail w s
  | .lockstep w => Sys2Proof.Machine.execLockstep w s
  | .cfImageStart w => Sys2Proof.Machine.execCfImageStart w s
  | .shaftInjection w sh => Sys2Proof.Machine.execShaftInjection w sh s
  | .syncPinEdge w j => Sys2Proof.Machine.execSyncPinEdge w j s
  | .shearsEnter w => Sys2Proof.Machine.execShearsEnter w s
  | .haltFrameDone w n => Sys2Proof.Machine.execHaltFrameDone w n s
  | .timeRead w e => Sys2Proof.Machine.execTimeRead w e s
  | .waitUntil w e t => Sys2Proof.Machine.execWaitUntil w e t s
  | .waitUntilWake w e => Sys2Proof.Machine.execWaitUntilWake w e s
  | .frameSend w e pre bytes => Sys2Proof.Machine.execFrameSend w e pre bytes s
  | .msgPut w e ws => Sys2Proof.Machine.execMsgPut w e ws s
  | .msgGet w e => Sys2Proof.Machine.execMsgGet w e s
  | .command w e opcode p => Sys2Proof.Machine.execCommand w e opcode p s
  | .pmcRead w e c => Sys2Proof.Machine.execPmcRead w e c s
  | .wdtKick w e => Sys2Proof.Machine.execWdtKick w e s
  | .exit w e => Sys2Proof.Machine.execExit w e s
  | .violation w e addr k => Sys2Proof.Machine.execViolation w e addr k s
  | .wdtExpired w e => Sys2Proof.Machine.execWdtExpired w e s
  | .appletStopped w e => Sys2Proof.Machine.execAppletStopped w e s
  | .toFull w v e => Sys2Proof.Machine.execToFull w v e s
  | .fromFullClear w v e => Sys2Proof.Machine.execFromFullClear w v e s
  | .globalEn w v x => Sys2Proof.Machine.execGlobalEn w v x s
  | .pmcSmpCtlWrite w v b x => Sys2Proof.Machine.execPmcSmpCtlWrite w v b x s
  | .pmcSmpRead w v b first => Sys2Proof.Machine.execPmcSmpRead w v b first s
  | .registerWrite w v addr x => Sys2Proof.Machine.execRegisterWrite w v addr x s
  | .eventClear w v addr x => Sys2Proof.Machine.execEventClear w v addr x s
  | .glbSrcEnWrite w v x => Sys2Proof.Machine.execGlbSrcEnWrite w v x s
  | .glbLock w v x => Sys2Proof.Machine.execGlbLock w v x s
  | .ppFail w v addr => Sys2Proof.Machine.execPpFail w v addr s
  | .glbDevReset w v x comp => Sys2Proof.Machine.execGlbDevReset w v x comp s
  | .glbDormant w v x comp => Sys2Proof.Machine.execGlbDormant w v x comp s
  | .fltShearsReq w v x comp => Sys2Proof.Machine.execFltShearsReq w v x comp s
  | .fltShearsRel w v x comp => Sys2Proof.Machine.execFltShearsRel w v x comp s
  | .redGraftForce w v x comp => Sys2Proof.Machine.execRedGraftForce w v x comp s
  | .fwdSelWrite w v x => Sys2Proof.Machine.execFwdSelWrite w v x s
  | .fwdSnapshotDone w => Sys2Proof.Machine.execFwdSnapshotDone w s
  | .fwdClr w v => Sys2Proof.Machine.execFwdClr w v s
  | .parityScan w addr upset => Sys2Proof.Machine.execParityScan w addr upset s
  | .fltWriteRequest w => Sys2Proof.Machine.execFltWriteRequest w s
  | .me1Wdt w => Sys2Proof.Machine.execMe1Wdt w s
  | .safetySelfcheck w => Sys2Proof.Machine.execSafetySelfcheck w s
  | .rearm w v => Sys2Proof.Machine.execRearm w v s
  | .fltPinWrite w v x => Sys2Proof.Machine.execFltPinWrite w v x s
  | .faultPulseEnd w => Sys2Proof.Machine.execFaultPulseEnd w s
  | .factoryModeEnd w => Sys2Proof.Machine.execFactoryModeEnd w s
  | .brelyClaimSend w => Sys2Proof.Machine.execBrelyClaimSend w s
  | .brelyClaimRx w k msg => Sys2Proof.Machine.execBrelyClaimRx w k msg s
  | .claimPinSend w => Sys2Proof.Machine.execClaimPinSend w s
  | .claimPinRx w msg => Sys2Proof.Machine.execClaimPinRx w msg s
  | .brelyPathTmo w k => Sys2Proof.Machine.execBrelyPathTmo w k s
  | .pinPathTmo w => Sys2Proof.Machine.execPinPathTmo w s
  | .alignedTimer w errFs => Sys2Proof.Machine.execAlignedTimer w errFs s
  | .restoreHoldEnd w => Sys2Proof.Machine.execRestoreHoldEnd w s
  | .mirrorRecordSend w => Sys2Proof.Machine.execMirrorRecordSend w s
  | .mirrorRecordRx w r => Sys2Proof.Machine.execMirrorRecordRx w r s
  | .mirrorDone w => Sys2Proof.Machine.execMirrorDone w s
  | .lastGasp w => Sys2Proof.Machine.execLastGasp w s
  | .handoverTmo w => Sys2Proof.Machine.execHandoverTmo w s
  | .pairHoldClr w v => Sys2Proof.Machine.execPairHoldClr w v s
  | .powerOnResetRelease w straps => Sys2Proof.Machine.execPowerOnResetRelease w straps s
  | .brownOut w rail ticks => Sys2Proof.Machine.execBrownOut w rail ticks s
  | .resetN w ticks => Sys2Proof.Machine.execResetN w ticks s
  | .pcieFundamentalReset w k => Sys2Proof.Machine.execPcieFundamentalReset w k s
  | .safetySelfcheckPass w pass => Sys2Proof.Machine.execSafetySelfcheckPass w pass s
  | .mainImageVerified w readErr0 readErr1 => Sys2Proof.Machine.execMainImageVerified w readErr0 readErr1 s
  | .coreReady w => Sys2Proof.Machine.execCoreReady w s
  | .wakeN w ticks => Sys2Proof.Machine.execWakeN w ticks s
  | .wakeTimer w => Sys2Proof.Machine.execWakeTimer w s
  | .dormantRailsKept w => Sys2Proof.Machine.execDormantRailsKept w s
  | .pcsAligned w n => Sys2Proof.Machine.execPcsAligned w n s
  | .anDone w n rate fec => Sys2Proof.Machine.execAnDone w n rate fec s
  | .chkLock w n lock errors => Sys2Proof.Machine.execChkLock w n lock errors s
  | .flashProgrammingDone w => Sys2Proof.Machine.execFlashProgrammingDone w s
  | .lowPowerWakeDone w u => Sys2Proof.Machine.execLowPowerWakeDone w u s
  | .presenceLost w x e => Sys2Proof.Machine.execPresenceLost w x e s
  | .alignLost w errFs => Sys2Proof.Machine.execAlignLost w errFs s
  | .diverged w => Sys2Proof.Machine.execDiverged w s
  | .brelyFrameRx w bytes => Sys2Proof.Machine.execBrelyFrameRx w bytes s
  | .pcieLinkUp w => Sys2Proof.Machine.execPcieLinkUp w s
  | .groupLowWordRead w v addr => Sys2Proof.Machine.execGroupLowWordRead w v addr s

end Sys2Proof.Machine
end

