-- ==== Sys2Proof/WellFormed.lean ====
section
/-! DEFINITION. Which operands of a command can come to the device at all: fields within the widths the spec gives them. The
meanings take every operand, well-formed or not (a wrong one has the effect the spec gives a wrong request), so this is a
description of the outside world, not a condition for running. -/

namespace Sys2Proof

/-- A packet: at most 2,047 parameter words, the count that LENGTH can state (R464). -/
def Pkt.wf (p : Pkt) : Bool := decide (p.words.length ≤ 2047)

/-- A ladder message: a width of R52, rungs 0 to 3, at most four figures of a byte (R59, R60). -/
def LadderMsg.wf (m : LadderMsg) : Bool :=
  (m.width == 1 || m.width == 2 || m.width == 4) && decide (m.lane < 40 ∧ m.rung ≤ 3 ∧ m.rateMax ≤ 3 ∧ m.foms.length ≤ 4)
    && m.foms.all (fun f => decide (f < 256))

/-- A received frame: it has bytes, and its phase lies below one tick, 52,428.8 units of 2^-16 ns (R225). -/
def RxFrame.wf (f : RxFrame) : Bool := !f.bytes.isEmpty && decide (f.phi ≤ 52428)

/-- A frame with its prefix of eight words (R34, R124). -/
def frameWf (pre : List Word) (bytes : List Byte) : Bool := pre.length == 8 && !bytes.isEmpty

/-- The histograms of a window: two levels or four, of at most 256 bins (R66, R82). -/
def histWf (h : List (List Nat)) : Bool := (h.length == 2 || h.length == 4) && h.all (fun l => decide (l.length ≤ 256))

/-- Symbol errors of one of a cell's four words: positions 0 to 71, error values other than zero (R152). -/
def ReadErr.wf (e : ReadErr) : Bool :=
  decide (e.word < 4) && e.errs.all (fun x => decide (x.1 < 72) && x.2 != 0)

/-- A conversion: a capacitor code of ten bits (R341). -/
def Conv.wf : Conv → Bool
  | .cap code => decide (code < 1024)
  | .vern _ _ => true

/-- A register's byte offset in BAR0, or a byte address of BAR2's 512 KiB from 2^24 on (R504, R508; log 40). -/
def addrWf (a : Nat) : Bool := decide (a < 2 ^ 24 + 0x80000)

/-- A mirror record: seven time bases with their fields in range, four shafts (R575). -/
def MirrorRec.wf (r : MirrorRec) : Bool :=
  r.tbs.length == 7 && r.tbs.all (fun t => decide (t.1 < 2 ^ 64 ∧ t.2.1 ≤ 999999999 ∧ t.2.2.1 < 2 ^ 16 ∧ t.2.2.2 < 2 ^ 56))
    && r.shafts.length == 4

/-- Well-formed commands. -/
def Instr.wf : Instr → Bool
  | .devInfo _ _ p => p.wf
  | .functionReset _ _ p => p.wf
  | .setLatencyTolerance _ _ p => p.wf
  | .abort _ _ p => p.wf
  | .fence _ _ p => p.wf
  | .portConfig _ _ p => p.wf
  | .portEnable _ _ p => p.wf
  | .portDisable _ _ p => p.wf
  | .portStatus _ _ p => p.wf
  | .laneLadder _ _ p => p.wf
  | .portRegang _ _ p => p.wf
  | .fdbWrite _ _ p => p.wf
  | .fdbRead _ _ p => p.wf
  | .streamIdWrite _ _ p => p.wf
  | .mcastGroupWrite _ _ p => p.wf
  | .queueConfig _ _ p => p.wf
  | .gateListLoad _ _ p => p.wf
  | .gateListSwap _ _ p => p.wf
  | .timedLaunch _ _ p => p.wf
  | .tbRead _ _ p => p.wf
  | .tbSet _ _ p => p.wf
  | .tbStep _ _ p => p.wf
  | .tbSetIncr _ _ p => p.wf
  | .ptpPortConfig _ _ p => p.wf
  | .asymSet _ _ p => p.wf
  | .trellisTableLoad _ _ p => p.wf
  | .trellisForce _ _ p => p.wf
  | .trellisStatus _ _ p => p.wf
  | .dcoSteer _ _ p => p.wf
  | .measJobStart _ _ p => p.wf
  | .measResult _ _ p => p.wf
  | .cfIdentity _ _ p => p.wf
  | .cfAuditRead _ _ p => p.wf
  | .shaftConfig _ _ p => p.wf
  | .shaftMotion _ _ p => p.wf
  | .syncPinClaim _ _ p => p.wf
  | .syncPinRelease _ _ p => p.wf
  | .appletLoad _ _ p => p.wf
  | .appletStart _ _ p => p.wf
  | .appletStop _ _ p => p.wf
  | .pmcConfig _ _ p => p.wf
  | .faultRead _ _ p => p.wf
  | .faultAck _ _ p => p.wf
  | .faultInjectArm _ _ p => p.wf
  | .claimStatus _ _ p => p.wf
  | .sidePrefer _ _ p => p.wf
  | .graftJoin _ _ p => p.wf
  | .graftLeave _ _ p => p.wf
  | .bankRetire _ _ p => p.wf
  | .bankRestore _ _ p => p.wf
  | .imageWrite _ _ p => p.wf
  | .imageActivate _ _ p => p.wf
  | .cmdSqDoorbell _ _ _ _ => true
  | .cmdRingReset _ _ _ _ => true
  | .cmdCqHeadWrite _ _ _ _ => true
  | .coalUsExpiry _ _ => true
  | .cmdMbxWdata _ _ => true
  | .submit _ => true
  | .discard _ => true
  | .cmdMbxRdata _ => true
  | .brelyCommand _ bytes => decide (bytes.length ≤ 65535)
  | .fenceWaitEnd _ _ _ => true
  | .timeout _ _ _ => true
  | .ladderOfferRx _ _ m => m.wf
  | .ladderStepRx _ _ m => m.wf
  | .ladderStepAckRx _ _ m => m.wf
  | .ladderReportRx _ _ m => m.wf
  | .ladderFinalRx _ _ m => m.wf
  | .ladderFinalAckRx _ _ m => m.wf
  | .ladderAbandonRx _ _ m => m.wf
  | .ladderRepeat _ _ => true
  | .offerTmo _ _ => true
  | .adaptTmo _ _ => true
  | .adaptReportTmo _ _ => true
  | .ladderSwitchDelay _ _ => true
  | .laneWindowEnd _ _ hist => histWf hist
  | .cdrLost _ _ => true
  | .cdrLock _ _ _ => true
  | .coarseSweepDone _ _ foms => foms.length == 16 && foms.all (fun f => decide (f < 256))
  | .adaptRestart _ _ _ => true
  | .fomMinClr _ _ _ => true
  | .lanePwrWrite _ _ _ _ => true
  | .lanePowerEntryDone _ _ _ => true
  | .laneWakeDone _ _ _ => true
  | .laneTxeqWrite _ _ _ _ _ => true
  | .prbsCtlWrite _ _ _ _ => true
  | .slip _ _ dfs => decide (dfs < 1000000)
  | .phaseAcqTimer _ _ => true
  | .phaseWindowPublish _ _ _ _ => true
  | .skewMarkerPeriod _ _ _ => true
  | .txAlignErr _ _ => true
  | .txRealign _ _ => true
  | .kTempUpdate _ _ _ => true
  | .portAlphaHiWrite _ _ _ _ => true
  | .rxFrame _ _ f => f.wf
  | .linkFault _ _ _ => true
  | .linkOkHeld _ _ => true
  | .downHoldElapsed _ _ => true
  | .recoveryAttemptFail _ _ => true
  | .drainQueuesEmpty _ _ => true
  | .drainTmo _ _ => true
  | .linkRestart _ _ _ => true
  | .l1SyncTlvRx _ _ _ _ => true
  | .l1SyncTlvSend _ _ => true
  | .l1SyncReceiptTmo _ _ => true
  | .l1CfgWrite _ _ _ _ => true
  | .hostFrameInject _ pre bytes => frameWf pre bytes
  | .frameLink _ _ _ => true
  | .rakeGap _ _ _ _ => true
  | .tendedRelease _ _ => true
  | .ageDrop _ _ _ _ => true
  | .fdbAgeing _ _ _ => true
  | .recoveryResetTmo _ _ => true
  | .txComplete _ _ _ => true
  | .freeListAudit _ _ => true
  | .bankRetired _ _ => true
  | .bankTestDone _ _ _ => true
  | .bankRateWindow _ _ => true
  | .selectionPoint _ _ errs _ => errs.all ReadErr.wf
  | .timedLaunchReady _ _ => true
  | .launchTick _ _ errs => errs.all ReadErr.wf
  | .launchDrop _ _ => true
  | .gateBoundary _ _ => true
  | .gateSwapped _ _ => true
  | .quegPoolCfgWrite _ _ _ => true
  | .tbIncrLoWrite _ _ _ _ => true
  | .tbIncrHiWrite _ _ _ _ => true
  | .tbEnableWrite _ _ _ => true
  | .snap _ _ => true
  | .scheduledStep _ _ => true
  | .slewDone _ _ => true
  | .tbCapRead _ _ _ => true
  | .trellisLoopUpdate _ _ => true
  | .qualTimer _ _ _ => true
  | .wtrTimer _ _ _ => true
  | .driftWindowEnd _ _ _ => true
  | .holdoffElapsed _ _ => true
  | .acqTmo _ _ => true
  | .modelSample _ _ => true
  | .holdoverDcoWrite _ _ => true
  | .xchkSecond _ _ _ _ _ => true
  | .ptpOffset _ _ _ _ _ _ _ _ => true
  | .rootPllLock _ => true
  | .rootUnlock _ => true
  | .oscLoss _ => true
  | .oscReturn _ => true
  | .restarted _ => true
  | .synLock _ _ => true
  | .synUnlock _ _ => true
  | .coreDivReq _ _ _ => true
  | .coreDivDone _ => true
  | .synSlewMove _ _ => true
  | .ppsOutPulse _ => true
  | .ppsPulseEnd _ => true
  | .lockmonRefresh _ => true
  | .meterCalStart _ => true
  | .calDone _ _ r => decide (0 < r.pStart ∧ 0 < r.pStop)
  | .shadowBlockEnd _ _ _ _ => true
  | .ringPeriodCheck _ _ pStart pStop => decide (0 < pStart ∧ 0 < pStop)
  | .meterEdge _ _ _ c => c.wf
  | .measGateClose _ _ => true
  | .clkMtrRdW0 _ _ _ => true
  | .cfRequest _ => true
  | .cfReplyRead _ => true
  | .tamperSample _ _ _ => true
  | .vbatLow _ => true
  | .cfPowerFail _ => true
  | .lockstep _ => true
  | .cfImageStart _ => true
  | .shaftInjection _ _ => true
  | .syncPinEdge _ _ => true
  | .shearsEnter _ => true
  | .haltFrameDone _ _ => true
  | .timeRead _ _ => true
  | .waitUntil _ _ _ => true
  | .waitUntilWake _ _ => true
  | .frameSend _ _ pre bytes => frameWf pre bytes
  | .msgPut _ _ ws => decide (ws.length ≤ 16)
  | .msgGet _ _ => true
  | .command _ _ _ p => p.wf
  | .pmcRead _ _ _ => true
  | .wdtKick _ _ => true
  | .exit _ _ => true
  | .violation _ _ _ _ => true
  | .wdtExpired _ _ => true
  | .appletStopped _ _ => true
  | .toFull _ _ _ => true
  | .fromFullClear _ _ _ => true
  | .globalEn _ _ _ => true
  | .pmcSmpCtlWrite _ _ _ _ => true
  | .pmcSmpRead _ _ _ _ => true
  | .registerWrite _ _ addr _ => addrWf addr
  | .eventClear _ _ addr _ => addrWf addr
  | .glbSrcEnWrite _ _ _ => true
  | .glbLock _ _ _ => true
  | .ppFail _ _ addr => addrWf addr
  | .glbDevReset _ _ _ _ => true
  | .glbDormant _ _ _ _ => true
  | .fltShearsReq _ _ _ _ => true
  | .fltShearsRel _ _ _ _ => true
  | .redGraftForce _ _ _ _ => true
  | .fwdSelWrite _ _ _ => true
  | .fwdSnapshotDone _ => true
  | .fwdClr _ _ => true
  | .parityScan _ addr _ => addrWf addr
  | .fltWriteRequest _ => true
  | .me1Wdt _ => true
  | .safetySelfcheck _ => true
  | .rearm _ _ => true
  | .fltPinWrite _ _ _ => true
  | .faultPulseEnd _ => true
  | .factoryModeEnd _ => true
  | .brelyClaimSend _ => true
  | .brelyClaimRx _ _ _ => true
  | .claimPinSend _ => true
  | .claimPinRx _ _ => true
  | .brelyPathTmo _ _ => true
  | .pinPathTmo _ => true
  | .alignedTimer _ _ => true
  | .restoreHoldEnd _ => true
  | .mirrorRecordSend _ => true
  | .mirrorRecordRx _ r => r.wf
  | .mirrorDone _ => true
  | .lastGasp _ => true
  | .handoverTmo _ => true
  | .pairHoldClr _ _ => true
  | .powerOnResetRelease _ _ => true
  | .brownOut _ _ _ => true
  | .resetN _ _ => true
  | .pcieFundamentalReset _ _ => true
  | .safetySelfcheckPass _ _ => true
  | .mainImageVerified _ _ _ => true
  | .coreReady _ => true
  | .wakeN _ _ => true
  | .wakeTimer _ => true
  | .dormantRailsKept _ => true
  | .pcsAligned _ _ => true
  | .anDone _ _ _ _ => true
  | .chkLock _ _ _ _ => true
  | .flashProgrammingDone _ => true
  | .lowPowerWakeDone _ _ => true
  | .presenceLost _ _ _ => true
  | .alignLost _ _ => true
  | .diverged _ => true
  | .brelyFrameRx _ bytes => decide (bytes.length ≤ 65535)
  | .pcieLinkUp _ => true
  | .groupLowWordRead _ _ addr => addrWf addr

end Sys2Proof
end

