-- ==== Sys2Proof/Safety.lean ====
section
/-! DEFINITION. The terms in which statements speak of the machine: what a step is for, how much time a command takes along,
what a row's own effect is, and what a safe run is. -/

namespace Sys2Proof

/-- How many ticks pass before a command: its first operand (log 3). -/
def Instr.ticks : Instr → Nat
  | .devInfo w _ _ => w
  | .functionReset w _ _ => w
  | .setLatencyTolerance w _ _ => w
  | .abort w _ _ => w
  | .fence w _ _ => w
  | .portConfig w _ _ => w
  | .portEnable w _ _ => w
  | .portDisable w _ _ => w
  | .portStatus w _ _ => w
  | .laneLadder w _ _ => w
  | .portRegang w _ _ => w
  | .fdbWrite w _ _ => w
  | .fdbRead w _ _ => w
  | .streamIdWrite w _ _ => w
  | .mcastGroupWrite w _ _ => w
  | .queueConfig w _ _ => w
  | .gateListLoad w _ _ => w
  | .gateListSwap w _ _ => w
  | .timedLaunch w _ _ => w
  | .tbRead w _ _ => w
  | .tbSet w _ _ => w
  | .tbStep w _ _ => w
  | .tbSetIncr w _ _ => w
  | .ptpPortConfig w _ _ => w
  | .asymSet w _ _ => w
  | .trellisTableLoad w _ _ => w
  | .trellisForce w _ _ => w
  | .trellisStatus w _ _ => w
  | .dcoSteer w _ _ => w
  | .measJobStart w _ _ => w
  | .measResult w _ _ => w
  | .cfIdentity w _ _ => w
  | .cfAuditRead w _ _ => w
  | .shaftConfig w _ _ => w
  | .shaftMotion w _ _ => w
  | .syncPinClaim w _ _ => w
  | .syncPinRelease w _ _ => w
  | .appletLoad w _ _ => w
  | .appletStart w _ _ => w
  | .appletStop w _ _ => w
  | .pmcConfig w _ _ => w
  | .faultRead w _ _ => w
  | .faultAck w _ _ => w
  | .faultInjectArm w _ _ => w
  | .claimStatus w _ _ => w
  | .sidePrefer w _ _ => w
  | .graftJoin w _ _ => w
  | .graftLeave w _ _ => w
  | .bankRetire w _ _ => w
  | .bankRestore w _ _ => w
  | .imageWrite w _ _ => w
  | .imageActivate w _ _ => w
  | .cmdSqDoorbell w _ _ _ => w
  | .cmdRingReset w _ _ _ => w
  | .cmdCqHeadWrite w _ _ _ => w
  | .coalUsExpiry w _ => w
  | .cmdMbxWdata w _ => w
  | .submit w => w
  | .discard w => w
  | .cmdMbxRdata w => w
  | .brelyCommand w _ => w
  | .fenceWaitEnd w _ _ => w
  | .timeout w _ _ => w
  | .ladderOfferRx w _ _ => w
  | .ladderStepRx w _ _ => w
  | .ladderStepAckRx w _ _ => w
  | .ladderReportRx w _ _ => w
  | .ladderFinalRx w _ _ => w
  | .ladderFinalAckRx w _ _ => w
  | .ladderAbandonRx w _ _ => w
  | .ladderRepeat w _ => w
  | .offerTmo w _ => w
  | .adaptTmo w _ => w
  | .adaptReportTmo w _ => w
  | .ladderSwitchDelay w _ => w
  | .laneWindowEnd w _ _ => w
  | .cdrLost w _ => w
  | .cdrLock w _ _ => w
  | .coarseSweepDone w _ _ => w
  | .adaptRestart w _ _ => w
  | .fomMinClr w _ _ => w
  | .lanePwrWrite w _ _ _ => w
  | .lanePowerEntryDone w _ _ => w
  | .laneWakeDone w _ _ => w
  | .laneTxeqWrite w _ _ _ _ => w
  | .prbsCtlWrite w _ _ _ => w
  | .slip w _ _ => w
  | .phaseAcqTimer w _ => w
  | .phaseWindowPublish w _ _ _ => w
  | .skewMarkerPeriod w _ _ => w
  | .txAlignErr w _ => w
  | .txRealign w _ => w
  | .kTempUpdate w _ _ => w
  | .portAlphaHiWrite w _ _ _ => w
  | .rxFrame w _ _ => w
  | .linkFault w _ _ => w
  | .linkOkHeld w _ => w
  | .downHoldElapsed w _ => w
  | .recoveryAttemptFail w _ => w
  | .drainQueuesEmpty w _ => w
  | .drainTmo w _ => w
  | .linkRestart w _ _ => w
  | .l1SyncTlvRx w _ _ _ => w
  | .l1SyncTlvSend w _ => w
  | .l1SyncReceiptTmo w _ => w
  | .l1CfgWrite w _ _ _ => w
  | .hostFrameInject w _ _ => w
  | .frameLink w _ _ => w
  | .rakeGap w _ _ _ => w
  | .tendedRelease w _ => w
  | .ageDrop w _ _ _ => w
  | .fdbAgeing w _ _ => w
  | .recoveryResetTmo w _ => w
  | .txComplete w _ _ => w
  | .freeListAudit w _ => w
  | .bankRetired w _ => w
  | .bankTestDone w _ _ => w
  | .bankRateWindow w _ => w
  | .selectionPoint w _ _ _ => w
  | .timedLaunchReady w _ => w
  | .launchTick w _ _ => w
  | .launchDrop w _ => w
  | .gateBoundary w _ => w
  | .gateSwapped w _ => w
  | .quegPoolCfgWrite w _ _ => w
  | .tbIncrLoWrite w _ _ _ => w
  | .tbIncrHiWrite w _ _ _ => w
  | .tbEnableWrite w _ _ => w
  | .snap w _ => w
  | .scheduledStep w _ => w
  | .slewDone w _ => w
  | .tbCapRead w _ _ => w
  | .trellisLoopUpdate w _ => w
  | .qualTimer w _ _ => w
  | .wtrTimer w _ _ => w
  | .driftWindowEnd w _ _ => w
  | .holdoffElapsed w _ => w
  | .acqTmo w _ => w
  | .modelSample w _ => w
  | .holdoverDcoWrite w _ => w
  | .xchkSecond w _ _ _ _ => w
  | .ptpOffset w _ _ _ _ _ _ _ => w
  | .rootPllLock w => w
  | .rootUnlock w => w
  | .oscLoss w => w
  | .oscReturn w => w
  | .restarted w => w
  | .synLock w _ => w
  | .synUnlock w _ => w
  | .coreDivReq w _ _ => w
  | .coreDivDone w => w
  | .synSlewMove w _ => w
  | .ppsOutPulse w => w
  | .ppsPulseEnd w => w
  | .lockmonRefresh w => w
  | .meterCalStart w => w
  | .calDone w _ _ => w
  | .shadowBlockEnd w _ _ _ => w
  | .ringPeriodCheck w _ _ _ => w
  | .meterEdge w _ _ _ => w
  | .measGateClose w _ => w
  | .clkMtrRdW0 w _ _ => w
  | .cfRequest w => w
  | .cfReplyRead w => w
  | .tamperSample w _ _ => w
  | .vbatLow w => w
  | .cfPowerFail w => w
  | .lockstep w => w
  | .cfImageStart w => w
  | .shaftInjection w _ => w
  | .syncPinEdge w _ => w
  | .shearsEnter w => w
  | .haltFrameDone w _ => w
  | .timeRead w _ => w
  | .waitUntil w _ _ => w
  | .waitUntilWake w _ => w
  | .frameSend w _ _ _ => w
  | .msgPut w _ _ => w
  | .msgGet w _ => w
  | .command w _ _ _ => w
  | .pmcRead w _ _ => w
  | .wdtKick w _ => w
  | .exit w _ => w
  | .violation w _ _ _ => w
  | .wdtExpired w _ => w
  | .appletStopped w _ => w
  | .toFull w _ _ => w
  | .fromFullClear w _ _ => w
  | .globalEn w _ _ => w
  | .pmcSmpCtlWrite w _ _ _ => w
  | .pmcSmpRead w _ _ _ => w
  | .registerWrite w _ _ _ => w
  | .eventClear w _ _ _ => w
  | .glbSrcEnWrite w _ _ => w
  | .glbLock w _ _ => w
  | .ppFail w _ _ => w
  | .glbDevReset w _ _ _ => w
  | .glbDormant w _ _ _ => w
  | .fltShearsReq w _ _ _ => w
  | .fltShearsRel w _ _ _ => w
  | .redGraftForce w _ _ _ => w
  | .fwdSelWrite w _ _ => w
  | .fwdSnapshotDone w => w
  | .fwdClr w _ => w
  | .parityScan w _ _ => w
  | .fltWriteRequest w => w
  | .me1Wdt w => w
  | .safetySelfcheck w => w
  | .rearm w _ => w
  | .fltPinWrite w _ _ => w
  | .faultPulseEnd w => w
  | .factoryModeEnd w => w
  | .brelyClaimSend w => w
  | .brelyClaimRx w _ _ => w
  | .claimPinSend w => w
  | .claimPinRx w _ => w
  | .brelyPathTmo w _ => w
  | .pinPathTmo w => w
  | .alignedTimer w _ => w
  | .restoreHoldEnd w => w
  | .mirrorRecordSend w => w
  | .mirrorRecordRx w _ => w
  | .mirrorDone w => w
  | .lastGasp w => w
  | .handoverTmo w => w
  | .pairHoldClr w _ => w
  | .powerOnResetRelease w _ => w
  | .brownOut w _ _ => w
  | .resetN w _ => w
  | .pcieFundamentalReset w _ => w
  | .safetySelfcheckPass w _ => w
  | .mainImageVerified w _ _ => w
  | .coreReady w => w
  | .wakeN w _ => w
  | .wakeTimer w => w
  | .dormantRailsKept w => w
  | .pcsAligned w _ => w
  | .anDone w _ _ _ => w
  | .chkLock w _ _ _ => w
  | .flashProgrammingDone w => w
  | .lowPowerWakeDone w _ => w
  | .presenceLost w _ _ => w
  | .alignLost w _ => w
  | .diverged w => w
  | .brelyFrameRx w _ => w
  | .pcieLinkUp w => w
  | .groupLowWordRead w _ _ => w

/-- The rows that act on a device in power-on reset: those of its supplies, its resets and its wake inputs, and those of the VBAT
domain (R597 to R600, R619 to R622). -/
def Instr.actsInReset : Instr → Bool
  | .powerOnResetRelease _ _ => true
  | .brownOut _ _ _ => true
  | .wakeN _ _ => true
  | .wakeTimer _ => true
  | .dormantRailsKept _ => true
  | .tamperSample _ _ _ => true
  | .vbatLow _ => true
  | .cfPowerFail _ => true
  | .meterEdge _ _ _ _ => true
  | _ => false

namespace Machine

/-- A safe step: it answers a next state, neither a fault nor a refusal. -/
def SafeStep (s : State) : Prop := ∃ t, step s = .next t

/-- n steps, each a next state. -/
def stepN : Nat → State → Option State
  | 0, s => some s
  | n + 1, s =>
    match step s with
    | .next t => stepN n t
    | .fault _ => none
    | .refused _ => none

/-- A safe run of n steps. -/
def SafeRun (n : Nat) (s : State) : Prop := (stepN n s).isSome = true

/-- The device after a command that finds no other waiting. -/
def devAfter (c : Instr) (d : Device) : Option Device :=
  match exec c { pending := [], dev := d } with
  | .next t => some t.dev
  | .fault _ => none
  | .refused _ => none

/-- The device after the commands of a list, in their order. -/
def devAfterAll : List Instr → Device → Option Device
  | [], d => some d
  | c :: l, d => (devAfter c d).bind (devAfterAll l)

/-- A row's own effect: wherever the device it finds satisfies H, the row answers the state in which the device has changed by E
and has settled, w ticks later; the queue is as it was. -/
def Effect (c : Nat → Instr) (H : Device → Prop) (E : Device → Device) : Prop :=
  ∀ (w : Nat) (s : State), H (before w s.dev) → exec (c w) s = .next (after w s (E (before w s.dev)))

/-- A view's writes reach the registers (R504, R507, R609). -/
def reaches (d : Device) (v : View) : Bool :=
  match v with
  | .pcie => pcieOpen d
  | .spi => running d && !flag d Reg.GLB_LOCK 1
  | .fw => running d

/-- A command as it stands at its commit, when it is the only one in flight. -/
def taken (d : Device) (o : Origin) (opcode : Nat) (p : Pkt) (vlans : List Word) : InFlight :=
  { origin := o, opcode := opcode, pkt := p, vlans := vlans, stage := .wait, seq := d.cmd.nextSeq, at_ := d.dev }

/-- The device that the only command in flight finds at its commit: it is counted and numbered. -/
def taking (d : Device) (o : Origin) (opcode : Nat) (p : Pkt) (vlans : List Word) : Device :=
  modCmd (bump d (Reg.CMD_CNT 0)) (fun t => { t with nextSeq := d.cmd.nextSeq + 1, inflight := [taken d o opcode p vlans] })

/-- A packet's transport hands it to the command front end, which finds nothing in flight and nothing wrong with its header, and
does not hold it back: the command commits at once (R468 to R474, R607). -/
structure Commits (d : Device) (o : Origin) (opcode : Nat) (p : Pkt) (d' : Device) (vlans : List Word) : Prop where
  handed : packet d o opcode p = accept d' o (packetWords opcode p) vlans false
  runs : running d' = true
  alone : d'.cmd.inflight = []
  header : headerFault d' (taken d' o opcode p vlans) false = none
  normal : recovery d' = false
  length : p.wf = true
  chained : (p.chain && chainBroken (taking d' o opcode p vlans) (taken d' o opcode p vlans)) = false

/-- A command's own effect at its commit: whatever its origin, where its packet commits and the device and the command satisfy
H, the row answers the state in which the command has done E. -/
def CommandEffect (c : Nat → Origin → Pkt → Instr) (opcode : Nat) (H : Device → InFlight → Prop)
    (E : Device → InFlight → Device) : Prop :=
  ∀ (w : Nat) (o : Origin) (p : Pkt) (s : State) (d' : Device) (vlans : List Word),
    Commits (before w s.dev) o opcode p d' vlans →
    H (taking d' o opcode p vlans) (taken d' o opcode p vlans) →
    exec (c w o p) s = .next (after w s (E (taking d' o opcode p vlans) (taken d' o opcode p vlans)))

/-- Two devices differ at most in the registers of a list. -/
def SameButRegs (l : List Nat) (d e : Device) : Prop :=
  (∀ a, a ∉ l → rd e a = rd d a) ∧ { e with regs := d.regs, parityBad := d.parityBad } = d

/-- The order of the clocks: the time in which the root outputs ran is at most the time since the first power-on. -/
def Inv (s : State) : Prop := s.dev.dev ≤ s.dev.now

/-- Held in power-on reset, with nothing left over from the step before. -/
def heldInReset (d : Device) : Prop := d.pwr.resetHeld = true ∧ d.moves = [] ∧ d.flt.shearsDue = none

/-- A time base taken through n ticks one by one. -/
def tickByTick (en : Bool) (incr : Nat) : Nat → TimeBase → TimeBase
  | 0, t => t
  | n + 1, t => tickByTick en incr n (tbAdvance en incr 1 t)

end Machine
end Sys2Proof
end

