-- ==== Sys2Proof/Certificates/Slice0/Obligations.lean ====
section
/-! DEFINITION. The statements about the model. A statement of a row's own effect says what the device has become when the row has
acted and before the device settles; `after` then says what every row has in common: the time that has passed, the settling, and
the queue untouched. -/

open Sys2Proof Sys2Proof.Machine

/-! ### Commands: what each does at its commit -/

/-- DEV_INFO, FUNCTION_RESET, SET_LATENCY_TOLERANCE and FENCE complete with OK and their effect (R475, R491, R613, R614). -/
def Obligations.DeviceCommandsDoTheirWork : Prop :=
  CommandEffect .devInfo 0x0100 (fun _ _ => True) (fun d c =>
    okWith d c ([w32 (idWord d)] ++ words2 d.fuse.serial ++ [w32 (rd d Reg.GLB_FW_VER), w32 (rd d Reg.GLB_FW_CHK)])) ∧
  CommandEffect .functionReset 0x0101 (fun _ _ => True) opFunctionReset ∧
  CommandEffect .setLatencyTolerance 0x0102 (fun _ c => tgt c = uDevice ∧ pw c 0 ≤ 0xFFFFF) (fun d c =>
    ok (wr d Reg.GLB_LT_DEV (pw c 0)) c) ∧
  CommandEffect .setLatencyTolerance 0x0102
    (fun d c => tgt c ≠ uDevice ∧ absorbed d (portOfUnit (tgt c)) = false ∧ pw c 0 ≤ 0xFFFFF)
    (fun d c => ok (each (portLanes d (portOfUnit (tgt c))) (wr d (Reg.GLB_LT_PORT (portOfUnit (tgt c))) (pw c 0)) lanePower) c) ∧
  CommandEffect .fence 0x0111 (fun _ _ => True) (fun d c => ok d c)

/-- ABORT acts at its acceptance: a command of its origin that waits completes with ABORTED and takes no effect, and ABORT replies
FOUND with that status; with no such command it replies that none was found (R477). -/
def Obligations.AbortStopsAWaitingCommand : Prop :=
  (∀ (w : Nat) (o : Origin) (p : Pkt) (s : State) (d' : Device) (vlans : List Word),
    packet (before w s.dev) o 0x0110 p = accept d' o (packetWords 0x0110 p) vlans false →
    headerFault d' (taken d' o 0x0110 p vlans) (d'.cmd.inflight.any (fun c => c.origin == o && c.pkt.tag == p.tag)) = none →
    recovery d' = false → p.wf = true →
    exec (.abort w o p) s = .next (after w s (frontGo (opAbort
      (modInflight (modCmd (bump d' (Reg.CMD_CNT 0)) (fun t =>
        { t with nextSeq := d'.cmd.nextSeq + 1, inflight := t.inflight ++ [{ taken d' o 0x0110 p vlans with at_ := 0 }] }))
        d'.cmd.nextSeq (fun c => { c with at_ := d'.dev }))
      { taken d' o 0x0110 p vlans with at_ := 0 })))) ∧
  (∀ (d : Device) (c v : InFlight), pb c 0 16 = false →
    d.cmd.inflight.find? (fun x => x.origin == c.origin && x.seq != c.seq && x.pkt.tag.toNat == pf c 0 9 0) = some v →
    v.opcode ≠ 0x0110 → v.stage = .wait → inflightOf (complete d v.seq stAborted [0]) v.seq = none →
    opAbort d c = okWith (complete d v.seq stAborted [0]) c [w32 (1 + 2 ^ 16 * stAborted)]) ∧
  (∀ (d : Device) (c : InFlight), pb c 0 16 = false →
    d.cmd.inflight.find? (fun x => x.origin == c.origin && x.seq != c.seq && x.pkt.tag.toNat == pf c 0 9 0) = none →
    opAbort d c = okWith d c [0])

/-- The port and lane commands, where their port allows them (R63, R90, R92, R104, R105, R492). -/
def Obligations.PortCommandsDoTheirWork : Prop :=
  CommandEffect .portConfig 0x0200
    (fun d c => absorbed d (portOfUnit (tgt c)) = false ∧ portSt d (portOfUnit (tgt c)) = 0 ∧ portConfigBad d c = none)
    (fun d c =>
      let p := portOfUnit (tgt c)
      let d := if pb c 0 0 then wrImage d (Reg.PORT_CFG p) (pw c 1) else d
      let d := if pb c 0 1 then eligEval (wrImage d (Reg.PORT_HOLD p) (pw c 2)) p else d
      let d := if pb c 0 2 then wrImage (wrImage d (Reg.PORT_MAC_LO p) (pw c 3)) (Reg.PORT_MAC_HI p) (pw c 4) else d
      let d := if pb c 0 3 then wrImage (wrImage d (Reg.CORE_PVID p) (pw c 5)) (Reg.CORE_PMAP p) (pw c 6) else d
      ok (if pb c 0 4 then each (vlanList c) d (vlanBit p) else d) c) ∧
  CommandEffect .portEnable 0x0201
    (fun d c => absorbed d (portOfUnit (tgt c)) = false ∧ portSt d (portOfUnit (tgt c)) = 0 ∧
      macBad d (portOfUnit (tgt c)) = false ∧ enableFits d (portOfUnit (tgt c)) = true ∧
      powerReady d (portOfUnit (tgt c)) (bedLoad d (portOfUnit (tgt c) / 10) + portCapacity d (portOfUnit (tgt c))) = true)
    (fun d c => ok (portStart d (portOfUnit (tgt c))) c) ∧
  CommandEffect .portDisable 0x0202
    (fun d c => absorbed d (portOfUnit (tgt c)) = false ∧ portSt d (portOfUnit (tgt c)) = 2 ∧ 1 ≤ pf c 0 6 0 ∧ pf c 0 6 0 ≤ 100)
    (fun d c => drainBegin (toWork d c [1]) (portOfUnit (tgt c)) (pf c 0 6 0)) ∧
  CommandEffect .portDisable 0x0202
    (fun d c => absorbed d (portOfUnit (tgt c)) = false ∧ portSt d (portOfUnit (tgt c)) = 2 ∧ pf c 0 6 0 = 0)
    (fun d c => drainFinish (drainBegin (toWork d c [1]) (portOfUnit (tgt c)) 0) (portOfUnit (tgt c))) ∧
  CommandEffect .portStatus 0x0203 (fun _ _ => True) opPortStatus ∧
  CommandEffect .laneLadder 0x0204
    (fun d c => absorbed d (portOfUnit (tgt c)) = false ∧ portSt d (portOfUnit (tgt c)) ≠ 0 ∧ bringup d (portOfUnit (tgt c)) = 0 ∧
      (working d 0x0204).any (fun x => portOfUnit (tgt x) == portOfUnit (tgt c)) = false ∧ pb c 0 0 = false)
    (fun d c => ladderAbandon (toWork d c []) (portOfUnit (tgt c)) false true) ∧
  CommandEffect .portRegang 0x0205
    (fun d c => pf c 0 6 4 ≤ 4 ∧ pf c 0 14 8 ≤ 100 ∧ working d 0x0205 = [] ∧ working d 0x0202 = [])
    (fun d c => regangGo (toWork d c []) c)

/-- The forwarding commands write and read their tables (R119, R188 to R191, R493). -/
def Obligations.ForwardingCommandsDoTheirWork : Prop :=
  CommandEffect .fdbWrite 0x0300
    (fun d c => pf c 0 1 0 = 0 ∧ pb c 0 2 = false ∧ pf c 3 12 0 ≤ 41 ∧
      fdbWay d (pf c 1 11 0) (pf c 1 31 16 * 2 ^ 32 + pw c 2) (pb c 3 17) = some 0)
    (fun d c =>
      ok (setFdb d (fdbBucket (pf c 1 11 0) (pf c 1 31 16 * 2 ^ 32 + pw c 2)) 0
        (some { fid := pf c 1 11 0, mac := pf c 1 31 16 * 2 ^ 32 + pw c 2, dest := pf c 3 12 0, group := pb c 3 16,
                static_ := pb c 3 17, fresh := d.dev })) c) ∧
  CommandEffect .fdbWrite 0x0300 (fun _ c => pf c 0 1 0 = 1) fdbWrite1 ∧
  CommandEffect .fdbWrite 0x0300 (fun _ c => pf c 0 1 0 = 2) fdbWrite2 ∧
  CommandEffect .fdbRead 0x0301 (fun _ c => pf c 0 1 0 = 0 ∧ pw c 1 ≤ 65535) (fun d c =>
    okWith d c (w32 (2 ^ 31 * b2n (fdbAt d (pw c 1 / 4) (pw c 1 % 4)).isSome) :: fdbWords (fdbAt d (pw c 1 / 4) (pw c 1 % 4)))) ∧
  CommandEffect .fdbRead 0x0301 (fun _ c => pf c 0 1 0 = 1 ∧ pw c 1 ≤ 4095) (fun d c =>
    okWith d c (w32 (2 ^ 31 * b2n (tget (fun _ => ({} : Vlan)) d.fwd.vlan (pw c 1)).valid)
      :: vlanWords (pw c 1) (tget (fun _ => ({} : Vlan)) d.fwd.vlan (pw c 1)))) ∧
  CommandEffect .fdbRead 0x0301 (fun _ c => pf c 0 1 0 = 2 ∧ pw c 1 ≤ 4095) (fun d c =>
    okWith d c (w32 (2 ^ 31 * b2n (!(tget (fun _ => []) d.fwd.rules (pw c 1)).isEmpty)) :: ruleWords d (pw c 1))) ∧
  CommandEffect .streamIdWrite 0x0302 (fun _ c => streamBad c = none ∧ pf c 0 2 0 = 1 ∧ pb c 0 16 = true) (fun d c =>
    ok (modFwd (setStale d 4 (pf c 0 30 17) []) (fun f =>
      { f with filters := tset (fun _ => []) f.filters (pf c 0 30 17) (c.pkt.words.drop 1) })) c) ∧
  CommandEffect .streamIdWrite 0x0302 (fun _ c => streamBad c = none) opStreamIdWrite ∧
  CommandEffect .mcastGroupWrite 0x0303 (fun _ _ => True) (fun d c =>
    ok (modFwd d (fun f => { f with mcast := tset (fun _ => 0) f.mcast (pf c 0 12 0) (pw c 1 + 2 ^ 32 * pf c 2 9 0) })) c)

/-- The queue, gate and launch commands (R174, R175, R177, R192, R494). -/
def Obligations.QueueCommandsDoTheirWork : Prop :=
  CommandEffect .queueConfig 0x0400
    (fun d c => queueTarget (tgt c) = none ∧ pf c 0 9 0 = 0 ∧ pb c 0 16 = true ∧ pf c 27 14 0 ≤ 16384 ∧
      tendedFits d (pf c 27 14 0) = true)
    (fun d c => ok (setTended d (pf c 27 14 0)) c) ∧
  CommandEffect .queueConfig 0x0400
    (fun d c => ∃ o, queueTarget (tgt c) = some o ∧ (decide (o < 40) && absorbed d o) = false ∧ queueBad c o = none ∧ pb c 0 1 = false)
    (fun d c =>
      let o := (queueTarget (tgt c)).getD 0
      let d := if pb c 0 0 then wrImage d (Reg.QUE_SCHED o) (pw c 1) else d
      ok (each (upTo 8) d (fun d k =>
        if pb c 0 (2 + k) then
          wrImage (wrImage (wrImage d (Reg.QUE_CLS_ADM o k) (pw c (3 + 3 * k))) (Reg.QUE_CLS_QUANT o k) (pw c (4 + 3 * k)))
            (Reg.QUE_CLS_AGE o k) (pw c (5 + 3 * k))
        else d)) c) ∧
  CommandEffect .gateListLoad 0x0401
    (fun d c => absorbed d (unitIdx (tgt c)) = false ∧ gateBad c = none ∧ pf c 0 9 0 = 0 ∧ pf c 0 24 16 ≤ pf c 5 10 0 ∧
      (outOf d (unitIdx (tgt c))).armed.isSome = false)
    (fun d c =>
      let l : PendList := ⟨pw64 c 2 * 1000000000 + pw c 1, pw c 4, pf c 5 10 0,
        (upTo (pf c 0 24 16)).foldl (fun t i =>
          tset (fun _ => none) t (0 + i) (some (pf c (gateBase c + 2 * i) 30 0, pf c (gateBase c + 2 * i + 1) 7 0))) []⟩
      ok (gateStatus (modOut d (unitIdx (tgt c)) (fun x => { x with pend := some l })) (unitIdx (tgt c))) c) ∧
  CommandEffect .gateListSwap 0x0402 (fun d c => absorbed d (unitIdx (tgt c)) = false ∧ pb c 0 1 = true) (fun d c =>
    ok (gateStatus (modOut d (unitIdx (tgt c)) (fun x => { x with armed := none })) (unitIdx (tgt c))) c) ∧
  CommandEffect .gateListSwap 0x0402
    (fun d c => absorbed d (unitIdx (tgt c)) = false ∧ pb c 0 1 = false ∧ pb c 0 0 = false ∧
      pendValid (outOf d (unitIdx (tgt c))) = true ∧ (outOf d (unitIdx (tgt c))).armed.isSome = false)
    (fun d c =>
      gateSwap (okWith (gateStatus (modOut d (unitIdx (tgt c)) (fun x =>
        { x with armed := some (changeTime d (unitIdx (tgt c)) false, false) })) (unitIdx (tgt c))) c
        (timeWords (changeTime d (unitIdx (tgt c)) false / 25))) (unitIdx (tgt c))) ∧
  CommandEffect .timedLaunch 0x0403 (fun _ c => 1 ≤ pf c 0 7 0 ∧ pf c 0 9 8 = 1 ∧ pw c 1 ≤ 1000000000) (fun d c =>
    ok (wr (wr (wr (wr d (Reg.QUEG_LR_CTL (pf c 0 7 0)) (1 + 4 * pf c 0 14 12)) (Reg.QUEG_LR_DELAY (pf c 0 7 0)) (pf c 1 29 0))
      (Reg.QUEG_LR_CYCLE (pf c 0 7 0)) (pf c 2 29 0)) (Reg.QUEG_LR_OFFSET (pf c 0 7 0)) (pf c 3 29 0)) c)

/-- The time commands (R210, R211, R213, R214, R242, R272). -/
def Obligations.TimeCommandsDoTheirWork : Prop :=
  CommandEffect .tbRead 0x0500 (fun _ c => pf c 0 7 0 ≠ 0) opTbRead ∧
  CommandEffect .tbSet 0x0501 (fun _ c => pw c 1 ≤ 999999999) (fun d c =>
    okWith (modTb2 (slewCancel d (pf c 0 2 0)) (pf c 0 2 0) (fun t =>
      { t with setPend := some (timeVal (pw64 c 2) (pw c 1) (pf c 4 15 0)) })) c (nextTick d)) ∧
  CommandEffect .tbStep 0x0502
    (fun d c => maskOf (pf c 0 7 0) ≠ [] ∧ pf c 0 9 8 = 0 ∧ pw c 1 ≤ 999999999 ∧
      (maskOf (pf c 0 7 0)).all (fun n => decide (0 ≤ tbDue d n + stepOff c * (2 ^ 32 : Nat))) = true)
    (fun d c =>
      okWith (each (maskOf (pf c 0 7 0)) d (fun d n => modTb2 d n (fun t =>
        { t with stepPend := t.stepPend + stepOff c * (2 ^ 32 : Nat), stepDue := t.stepDue + 1 }))) c (nextTick d)) ∧
  CommandEffect .tbSetIncr 0x0503
    (fun _ c => pf c 0 2 0 ≠ 0 ∧ incrOk (pf c 0 2 0) (pw c 1 + 2 ^ 32 * pf c 2 23 0) = true)
    (fun d c => okWith (setIncr d (pf c 0 2 0) (pw c 1 + 2 ^ 32 * pf c 2 23 0)) c (nextTick d)) ∧
  CommandEffect .ptpPortConfig 0x0504
    (fun d c => absorbed d (portOfUnit (tgt c)) = false ∧ pf c 0 2 0 ≤ 4 ∧ pb c 1 0 = false ∧ pb c 1 1 = false)
    (fun d c => okWith (wrImage d (Reg.TB_PTP (portOfUnit (tgt c))) (pw c 0)) c (words2 (tickcnt d))) ∧
  CommandEffect .asymSet 0x0505
    (fun d c => absorbed d (portOfUnit (tgt c)) = false ∧ pf c 0 3 0 = 1 ∧ portValueOk 0x200 (pw c 1) = true)
    (fun d c =>
      ok (wr (wr d (Reg.PORT_EXT_TX (portOfUnit (tgt c))) (pw c 1)) (Reg.PORT_DLY_CHG (portOfUnit (tgt c)))
        (rd (wr d (Reg.PORT_EXT_TX (portOfUnit (tgt c))) (pw c 1)) (Reg.PORT_DLY_CHG (portOfUnit (tgt c))) + 1)) c)

/-- The Trellis commands (R302, R303, R305, R496). -/
def Obligations.TrellisCommandsDoTheirWork : Prop :=
  CommandEffect .trellisTableLoad 0x0600 (fun d c => sidesOf c ≠ [] ∧ (sidesOf c).all (fun x => (loadBad d c x).isNone) = true)
    opTrellisTableLoad ∧
  CommandEffect .trellisForce 0x0601
    (fun _ c => sidesOf c ≠ [] ∧ pf c 0 5 4 ≠ 1)
    (fun d c => ok (each (sidesOf c) d (forceSide (pf c 0 5 4) (pf c 0 11 8))) c) ∧
  CommandEffect .trellisForce 0x0601
    (fun d c => sidesOf c ≠ [] ∧ pf c 0 5 4 = 1 ∧
      (sidesOf c).all (fun x => candSt d x (pf c 0 11 8) == 3 || candSt d x (pf c 0 11 8) == 4) = true)
    (fun d c => ok (each (sidesOf c) d (forceSide 1 (pf c 0 11 8))) c) ∧
  CommandEffect .trellisStatus 0x0602 (fun _ c => sidesOf c ≠ []) (fun d c =>
    okWith d c ((sidesOf c).map (trellisWords d)).flatten) ∧
  CommandEffect .dcoSteer 0x0603
    (fun d c => sidesOf c ≠ [] ∧ (sidesOf c).all (fun x => sideSt d x == 6) = true ∧ pb c 0 4 = false ∧
      (signed 48 (pw c 1 + 2 ^ 32 * pf c 2 15 0)).natAbs ≤ ppm500)
    (fun d c => ok (each (sidesOf c) d (fun d x => setDco d x (signed 48 (pw c 1 + 2 ^ 32 * pf c 2 15 0)))) c)

/-- The measurement commands outside the Cold Frame; every command of the Cold Frame's partition becomes a request in its FIFO (R360,
R361, R384, R404, R497, R500). -/
def Obligations.MeasurementAndColdFrameCommandsDoTheirWork : Prop :=
  CommandEffect .measJobStart 0x0700
    (fun d c => c.pkt.part ≠ 2 ∧ ∃ k, keyOfMeter (tgt c) = some k ∧ measBad d k c.pkt.words = none ∧
      measHeld d (ownerOf c.origin) (measKeys k c.pkt.words) = none ∧ (meterOf d k).job = none ∧
      pf c 0 3 0 ≠ 0 ∧ pf c 0 3 0 ≠ 5)
    (fun d c => ok (armJob d ((keyOfMeter (tgt c)).getD 0) c.pkt.words (ownerOf c.origin) none) c) ∧
  CommandEffect .measResult 0x0701
    (fun _ c => c.pkt.part ≠ 2 ∧ (keyOfMeter (tgt c)).isSome = true ∧ 1 ≤ pf c 0 8 4 ∧ pf c 0 8 4 ≤ 16)
    (fun d c =>
      let l := (mtrQueue d ((keyOfMeter (tgt c)).getD 0) (pb c 0 0)).take (pf c 0 8 4)
      okWith (mtrTake d ((keyOfMeter (tgt c)).getD 0) (pb c 0 0) l.length) c (w32 l.length :: l.flatten)) ∧
  CommandEffect .measJobStart 0x0700 (fun d c => c.pkt.part = 2 ∧ d.cf.reqs.length < 16) toCf ∧
  CommandEffect .measResult 0x0701 (fun d c => c.pkt.part = 2 ∧ d.cf.reqs.length < 16) toCf ∧
  CommandEffect .cfIdentity 0x0702 (fun d _ => d.cf.reqs.length < 16) toCf ∧
  CommandEffect .cfAuditRead 0x0703 (fun d _ => d.cf.reqs.length < 16) toCf ∧
  CommandEffect .imageWrite 0x0D00 (fun d c => c.pkt.part = 2 ∧ d.cf.reqs.length < 16) toCf ∧
  CommandEffect .imageActivate 0x0D01 (fun d c => c.pkt.part = 2 ∧ d.cf.reqs.length < 16) toCf

/-- The shaft and pin commands; a SHAFT command that the ACTIVE member commits with OK goes to the partner too (R409 to R419, R428,
R429, R434, R435, R498, R575). -/
def Obligations.ShaftAndPinCommandsDoTheirWork : Prop :=
  CommandEffect .shaftConfig 0x0800 (fun d c => sectionBad d c = none)
    (fun d c => forwards (opShaftConfig d c) c (cnt d (Reg.CMD_CNT 1))) ∧
  CommandEffect .shaftConfig 0x0800
    (fun d c => pf c 0 2 0 = 7 ∧ pb c 0 4 = true ∧ pb c 0 5 = true ∧ shSt d (unitBed (tgt c)) = 0 ∧ graftSt d = 0 ∧
      wholeOk d (shaftOf d (unitBed (tgt c))) = true ∧
      workFits (shaftOf d (unitBed (tgt c))) (positionPins d (unitBed (tgt c)) 16) = true)
    (fun d c => forwards (ok (shaftEnable (modShaft d (unitBed (tgt c)) (fun h => h)) (unitBed (tgt c))) c) c (cnt d (Reg.CMD_CNT 1))) ∧
  CommandEffect .shaftMotion 0x0801
    (fun d c => motionBad d c (unitBed (tgt c)) = none ∧ pf c 0 2 0 = 1 ∧ shSt d (unitBed (tgt c)) = 1)
    (fun d c =>
      forwards (okWith (modShaft d (unitBed (tgt c)) (fun h =>
        { h with motions := h.motions ++ [{ k := firstApply d (unitBed (tgt c)), op := 1, words := c.pkt.words }] })) c
        [w32 (firstApply d (unitBed (tgt c)))]) c (cnt d (Reg.CMD_CNT 1))) ∧
  CommandEffect .syncPinClaim 0x0802
    (fun d c => claimBad d c = none ∧ pinFree d (pinOfUnit (tgt c)) (ownerOf c.origin) = true ∧
      inRange (pf c 0 2 0) 1 3 = true ∧ appends d c (pinOfUnit (tgt c)) = false ∧ shears d = false)
    (fun d c => ok (acceptOutput d c (pinOfUnit (tgt c))) c) ∧
  CommandEffect .syncPinClaim 0x0802
    (fun d c => claimBad d c = none ∧ pinFree d (pinOfUnit (tgt c)) (ownerOf c.origin) = true ∧
      pf c 0 2 0 = 4 ∧ (inputMeter d (pinOfUnit (tgt c))).isSome = true ∧ shears d = false)
    (fun d c => ok (acceptInput d c ((inputMeter d (pinOfUnit (tgt c))).getD (pinOfUnit (tgt c))) (pinOfUnit (tgt c))) c) ∧
  CommandEffect .syncPinRelease 0x0803
    (fun d c => (pinOwner d (pinOfUnit (tgt c))).1 ≠ 0 ∧ pinOwner d (pinOfUnit (tgt c)) = ownerOf c.origin ∧
      flag d (Reg.SYN_PIN_OWNER (pinOfUnit (tgt c))) 10 = false)
    (fun d c => ok (releasePin d (pinOfUnit (tgt c))) c)

/-- The engine commands (R450 to R452, R458, R499). -/
def Obligations.EngineCommandsDoTheirWork : Prop :=
  CommandEffect .appletLoad 0x0900
    (fun d c => isApplet (engineOf (tgt c)) = true ∧ feSt d (engineOf (tgt c)) ≠ 3 ∧ pf c 0 17 0 = 0 ∧ pf c 1 12 0 % 4 = 0 ∧
      pf c 1 12 0 ≤ 4076 ∧ pb c 0 31 = false)
    (fun d c => ok (loadPiece d c (engineOf (tgt c))) c) ∧
  CommandEffect .appletStart 0x0901
    (fun d c => isApplet (engineOf (tgt c)) = true ∧ (feSt d (engineOf (tgt c)) = 2 ∨ feSt d (engineOf (tgt c)) = 4) ∧
      pf c 1 13 0 ≤ 10000)
    (fun d c =>
      ok (event (modApplet (wr (setFeSt d (engineOf (tgt c)) 3) (Reg.ENG_FE_WDT (engineOf (tgt c))) (pf c 1 13 0)) (engineOf (tgt c))
        (fun a => { a with arg := pw c 0, wdtAt := d.dev, waiting := none, stopDue := none }))
        (Reg.ENG_FE_EVENT (engineOf (tgt c))) 0) c) ∧
  CommandEffect .appletStop 0x0902
    (fun d c => isApplet (engineOf (tgt c)) = true ∧ feSt d (engineOf (tgt c)) = 3 ∧ (applet d (engineOf (tgt c))).stopDue = none)
    (fun d c => modApplet (toWork d c []) (engineOf (tgt c)) (fun a => { a with stopDue := some (1, pb c 0 0) })) ∧
  CommandEffect .pmcConfig 0x0903
    (fun _ c => pf c 0 1 0 = 0 ∧ unitInCf (pf c 1 15 0) = false ∧ ¬ (unitBed (pf c 1 15 0) = 4 ∧ unitType (pf c 1 15 0) = 6) ∧
      unitValid (pf c 1 15 0) = true ∧ eventOk (pf c 1 15 0) (pf c 1 23 16) = true ∧ pb c 1 26 = false)
    (fun d c => ok (setCnt (wr d (Reg.PMC_G_SEL (pf c 0 7 2)) (pf c 1 26 0)) (Reg.PMC_G_LO (pf c 0 7 2)) 0) c)

/-- The fault, redundancy, bank and image commands (R156, R476, R500, R548, R551, R572, R580, R594). -/
def Obligations.SafetyClaimBankAndImageCommandsDoTheirWork : Prop :=
  CommandEffect .faultRead 0x0A00
    (fun _ c => inRange (pf c 0 29 24) 1 32 = true ∧ pf c 0 20 16 ≠ 0 ∧ (pf c 0 15 0 == 0xFFFF || unitValid (pf c 0 15 0)) = true)
    (fun d c =>
      let l := (d.flt.records.filter (fun r =>
        (pf c 0 15 0 == 0xFFFF || r.unit == pf c 0 15 0) && pb c 0 (16 + r.cls) && decide (pw c 1 ≤ r.seq))).take (pf c 0 29 24)
      okWith d c (w32 l.length :: (l.map (faultWords d)).flatten)) ∧
  CommandEffect .faultAck 0x0A01
    (fun _ c => pb c 0 24 = false ∧ unitValid (pf c 0 15 0) = true ∧ pf c 0 18 16 ≤ 4)
    (fun d c =>
      ok (fltSettle (modFlt d (fun s =>
        { s with records := s.records.map (fun r =>
            if r.unit = pf c 0 15 0 ∧ r.cls = pf c 0 18 16 then { r with acked := true } else r) }))) c) ∧
  CommandEffect .faultInjectArm 0x0A02
    (fun d c => unitInCf (pf c 0 15 0) = false ∧ 1 ≤ pf c 0 27 24 ∧ pf c 0 27 24 ≠ 15 ∧
      (largestMode (pf c 0 15 0) (pf c 0 23 16)).any (fun m => decide (pf c 0 27 24 ≤ m)) = true ∧
      flag d Reg.FLT_STATUS 5 = false ∧ flag d Reg.FLT_STATUS 6 = false)
    (fun d c =>
      selfcheckInjected (ok (setFlag (wr d Reg.FLT_INJ_STATUS
        (pf c 0 15 0 + 2 ^ 16 * pf c 0 23 16 + 2 ^ 24 * pf c 0 27 24 + 2 ^ 28)) Reg.FLT_STATUS 5 true) c)) ∧
  CommandEffect .claimStatus 0x0B00 (fun _ _ => True) (fun d c =>
    okWith d c [w32 (fld d Reg.RED_STATUS 15 0 + 2 ^ 16 * partnerClaim d + 2 ^ 24 * activeSide d
      + 2 ^ 25 * b2n (graftSt d != 0 && decide (partnerClaim d < ownClaim d)) + 2 ^ 26 * b2n (brelyGood d)
      + 2 ^ 27 * b2n d.red.pinGood)]) ∧
  CommandEffect .sidePrefer 0x0B01 (fun d c => pf c 0 7 0 ≤ 31 ∧ pf c 0 15 8 ≤ 31 ∧ revertive d = true) (fun d c =>
    ok (wr d Reg.RED_SIDE_CFG (pf c 0 4 0 + 256 * pf c 0 12 8 + 65536 * pf c 0 16 16)) c) ∧
  CommandEffect .graftJoin 0x0B02
    (fun d c => pf c 0 15 8 ≤ 31 ∧ flag d Reg.CMD_CFG 0 = true ∧ graftSt d = 0 ∧ d.red.partnerMsg = none)
    (fun d c => graftEval (toWork (setGraft (wr d Reg.RED_GRAFT_CFG (pf c 0 0 0 + 256 * pf c 0 12 8)) 1) c [])) ∧
  CommandEffect .graftLeave 0x0B03 (fun d c => graftSt d = 3 ∧ pb c 0 0 = false) (fun d c =>
    ok (graftEval (setGraft (sendBoth d true) 0)) c) ∧
  CommandEffect .bankRetire 0x0C00 (fun d c => bankSt d (bankOf c) = 0 ∧ 8 < activeBanks d) (fun d c =>
    ok (setBankSt d (bankOf c) 1) c) ∧
  CommandEffect .bankRestore 0x0C01 (fun d c => bankSt d (bankOf c) = 2) (fun d c =>
    toWork (setBankSt d (bankOf c) 3) c []) ∧
  CommandEffect .imageWrite 0x0D00
    (fun d c => c.pkt.part ≠ 2 ∧ imageBad c = none ∧ runningSlot d ≠ some (pf c 0 2 0)) imageBegin ∧
  CommandEffect .imageActivate 0x0D01
    (fun _ c => c.pkt.part ≠ 2 ∧ pf c 0 2 0 ≤ 3)
    (fun d c =>
      if Config.signatureOk (pf c 0 2 0) (slotImage d (pf c 0 2 0)) then
        ok (bootWrite (unmarkBad d (pf c 0 2 0)) (pf c 0 2 0)) c
      else bad (markBad d (pf c 0 2 0)) c 0)

/-! ### The rows beside the commands: the own effect of each -/

/-- Every kind of ladder message reaches the ladder of its lane, once the firmware runs, in every state of the port but DISABLED
(R61, R62, R646). -/
def Obligations.LadderMessagesReachTheLadder : Prop :=
  ∀ (n : Fin 40) (m : LadderMsg),
    Effect (fun w => .ladderOfferRx w n m)
      (fun d => (ticking d && coreReady d) = true ∧ portSt d (laneOwner d n) ≠ 0) (fun d => ladderRx d n 1 m) ∧
    Effect (fun w => .ladderStepRx w n m)
      (fun d => (ticking d && coreReady d) = true ∧ portSt d (laneOwner d n) ≠ 0) (fun d => ladderRx d n 2 m) ∧
    Effect (fun w => .ladderStepAckRx w n m)
      (fun d => (ticking d && coreReady d) = true ∧ portSt d (laneOwner d n) ≠ 0) (fun d => ladderRx d n 3 m) ∧
    Effect (fun w => .ladderReportRx w n m)
      (fun d => (ticking d && coreReady d) = true ∧ portSt d (laneOwner d n) ≠ 0) (fun d => ladderRx d n 4 m) ∧
    Effect (fun w => .ladderFinalRx w n m)
      (fun d => (ticking d && coreReady d) = true ∧ portSt d (laneOwner d n) ≠ 0) (fun d => ladderRx d n 5 m) ∧
    Effect (fun w => .ladderFinalAckRx w n m)
      (fun d => (ticking d && coreReady d) = true ∧ portSt d (laneOwner d n) ≠ 0) (fun d => ladderRx d n 6 m) ∧
    Effect (fun w => .ladderAbandonRx w n m)
      (fun d => (ticking d && coreReady d) = true ∧ portSt d (laneOwner d n) ≠ 0) (fun d => ladderRx d n 7 m)

/-- The repeats and time-outs of the ladder states, each when its time has come (R62). -/
def Obligations.LadderTimersMoveTheLadder : Prop :=
  ∀ (n : Fin 40),
    (∀ (k : Nat) (m : LadderMsg), Effect (fun w => .ladderRepeat w n)
      (fun d => ladderRuns d n = true ∧ (ladderOf d n).sent = some (k, m) ∧
        (ladderOf d n).lastSent + (if ladderSt d n = 9 then secTicks else msTicks) ≤ d.dev)
      (fun d => emit (modLadder d n (fun y => { y with lastSent := d.dev })) (.ladder n k m))) ∧
    Effect (fun w => .offerTmo w n)
      (fun d => ladderRuns d n = true ∧ ladderSt d n = 2 ∧ (ladderOf d n).peer.isNone = true ∧
        (ladderOf d n).t0 + offerTmo d n ≤ d.dev)
      (fun d =>
        let q := ((ladderOf d n).seq + 1) % 1024
        let d := event (setLadderSt d n 9) (Reg.LANE_EVENT n) 7
        linkEval (modLadder d n (fun y =>
          { y with seq := q, sent := some (1, ladderMsg d n 0 (rateMax d n) 0 [] q), lastSent := d.dev })) n) ∧
    Effect (fun w => .adaptTmo w n)
      (fun d => ladderRuns d n = true ∧ (ladderOf d n).t0 + adaptTmo d n ≤ d.dev ∧ ladderSt d n = 4) (fun d => ladderRevert d n 1) ∧
    Effect (fun w => .adaptTmo w n)
      (fun d => ladderRuns d n = true ∧ (ladderOf d n).t0 + adaptTmo d n ≤ d.dev ∧ ladderSt d n = 6)
      (fun d => ladderAbandon (ladderFailed d n (ladderOf d n).rung 5) n false false) ∧
    Effect (fun w => .adaptReportTmo w n)
      (fun d => ladderRuns d n = true ∧ (ladderOf d n).t0 + adaptTmo d n + reportTmo d n ≤ d.dev ∧ ladderSt d n = 5 ∧
        (ladderOf d n).reverted = false)
      (fun d => ladderRevert d n 2) ∧
    Effect (fun w => .adaptReportTmo w n)
      (fun d => ladderRuns d n = true ∧ (ladderOf d n).t0 + reportTmo d n ≤ d.dev ∧ ladderSt d n = 7)
      (fun d => ladderAbandon (ladderFailed d n (ladderOf d n).rung 6) n false false) ∧
    (∀ (t : Nat), Effect (fun w => .ladderSwitchDelay w n)
      (fun d => ladderRuns d n = true ∧ ladderSt d n = 3 ∧ (ladderOf d n).switchAt = some t ∧ t ≤ d.dev)
      (fun d => ladderSwitch d n))

/-- Windows, CDR lock and adaptation of a lane (R49, R65 to R68, R73, R79). -/
def Obligations.LaneReceiverRowsActOnTheirLane : Prop :=
  ∀ (n : Fin 40),
    (∀ (h : List (List Nat)), Effect (fun w => .laneWindowEnd w n h)
      (fun d => running d = true ∧ flag d (Reg.LANE_STATUS n) 3 = true ∧ flag d (Reg.LANE_STATUS n) 4 = true ∧
        flag d (Reg.LANE_STATUS n) 10 = false ∧ h.all (fun l => levelCount l != 0) = true)
      (fun d =>
        let e := eyes d (flag d (Reg.LANE_STATUS n) 2) h
        let fr := rd d (Reg.LANE_FOM n)
        laneChanged (windowFlags
          (wr (wr d (Reg.LANE_EYE n) (e.1 + 2 ^ 8 * e.2.1 + 2 ^ 16 * e.2.2.1)) (Reg.LANE_FOM n)
            (e.2.2.2 + 2 ^ 8 * min (bits fr 15 8) e.2.2.2 + 2 ^ 16 * min (bits fr 31 16 + 1) 0xFFFF)) n e.2.2.2) n)) ∧
    Effect (fun w => .cdrLost w n) (fun d => running d = true ∧ flag d (Reg.LANE_STATUS n) 4 = true) (fun d =>
      laneChanged (event (laneUnlock (modLane d n (fun x => { x with wakeArmed := false, wakeWin := none })) n)
        (Reg.LANE_EVENT n) 0) n) ∧
    (∀ (ppb : Int), Effect (fun w => .cdrLock w n ppb)
      (fun d => ticking d = true ∧ fld d (Reg.LANE_STATUS n) 10 10 = 0 ∧ flag d (Reg.LANE_STATUS n) 4 = false ∧
        ppb.natAbs ≤ 1100000)
      (fun d => cdrGain d n ppb)) ∧
    (∀ (foms : List Nat), Effect (fun w => .coarseSweepDone w n foms)
      (fun d => running d = true ∧ flag d (Reg.LANE_STATUS n) 4 = true ∧ (lane d n).coarse = true)
      (fun d => modLane d n (fun x => { x with coarse := false, peaking := bestSetting foms }))) ∧
    (∀ (v : View), Effect (fun w => .adaptRestart w v n)
      (fun d => reaches d v = true ∧ refSelected d (laneOwner d n) = false)
      (fun d => modLane d n (fun x => { x with coarse := true }))) ∧
    (∀ (v : View), Effect (fun w => .fomMinClr w v n) (fun d => reaches d v = true)
      (fun d => setFld d (Reg.LANE_FOM n) 15 8 0xFF)) ∧
    (∀ (lock : Bool) (errors : Nat), Effect (fun w => .chkLock w n lock errors)
      (fun d => running d = true ∧ flag d (Reg.LANE_PRBS_CTL n) 4 = true ∧ flag d (Reg.LANE_CTL n) 0 = false ∧
        flag d (Reg.LANE_CTL n) 1 = true ∧ fld d (Reg.LANE_STATUS n) 10 10 = 0 ∧
        (lock || flag d (Reg.LANE_PRBS_STAT n) 0) = true)
      (fun d => prbsCount (setFlag d (Reg.LANE_PRBS_STAT n) 0 lock) n errors))

/-- Power states and test registers of a lane (R69 to R75, R77, R84, R85). -/
def Obligations.LanePowerAndTestRowsActOnTheirLane : Prop :=
  ∀ (n : Fin 40) (v : View) (x : Word),
    Effect (fun w => .lanePwrWrite w v n x) (fun d => reaches d v = true ∧ bits x.toNat 2 1 ≠ 3)
      (fun d => lanePower (setFld d (Reg.LANE_PWR n) 3 0 (bits x.toNat 3 0)) n) ∧
    (∀ (t : Nat), Effect (fun w => .lanePowerEntryDone w n .tx) (fun d => running d = true ∧ (lane d n).txEntry = some t) (fun d =>
      modLane (setFld d (Reg.LANE_STATUS n) 9 8 t) n (fun x =>
        { x with txEntry := none, txOnAfter := false, txWake := if x.txOnAfter then some d.dev else none }))) ∧
    (∀ (t : Nat), Effect (fun w => .lanePowerEntryDone w n .rx) (fun d => running d = true ∧ (lane d n).rxEntry = some t)
      (fun d => entryDone d n .rx)) ∧
    Effect (fun w => .laneWakeDone w n .tx) (fun d => running d = true ∧ (lane d n).txWake.isSome = true) (fun d =>
      modLane (setFld d (Reg.LANE_STATUS n) 9 8 (powerWanted d n).1) n (fun x => { x with txWake := none })) ∧
    Effect (fun w => .laneWakeDone w n .rx) (fun d => running d = true ∧ (lane d n).rxWake.isSome = true) (fun d =>
      modLane (setFld d (Reg.LANE_STATUS n) 10 10 0) n (fun x => { x with rxWake := none, coarse := false })) ∧
    (∀ (k : Fin 4), Effect (fun w => .laneTxeqWrite w v n k x)
      (fun d => reaches d v = true ∧
        bits x.toNat 5 0 + bits x.toNat 13 8 + bits x.toNat 21 16 + bits x.toNat 29 24 ≤ 63)
      (fun d => wr d (Reg.LANE_TXEQ n k) (Nat.land x.toNat 0x3F3F3F3F))) ∧
    Effect (fun w => .prbsCtlWrite w v n x)
      (fun d => reaches d v = true ∧ patternFits (fld d (Reg.LANE_STATUS n) 1 0) (bits x.toNat 3 1) = true ∧
        patternFits (fld d (Reg.LANE_STATUS n) 1 0) (bits x.toNat 7 5) = true ∧ bit x.toNat 4 = true)
      (fun d => wr d (Reg.LANE_PRBS_CTL n) (bits x.toNat 7 0))

/-- The phase measurement of a lane (R249 to R267). -/
def Obligations.LanePhaseRowsActOnTheirLane : Prop :=
  ∀ (n : Fin 40),
    (∀ (dfs : Nat), Effect (fun w => .slip w n dfs)
      (fun d => phaseRuns d n = true ∧ fld d (Reg.LANE_PH_CFG n) 15 8 * 1000 ≤ dfs)
      (fun d =>
        let d := event d (Reg.LANE_PH_EVENT n) 0
        let d := setFld d (Reg.LANE_PH_STATUS n) 31 16 (min (fld d (Reg.LANE_PH_STATUS n) 31 16 + 1) 0xFFFF)
        let d := setTiming (setAcq d n false) n false
        laneChanged (modLane d n (fun x => { x with acqFrom := some d.dev, winSlip := true })) n)) ∧
    (∀ (t : Nat), Effect (fun w => .phaseAcqTimer w n)
      (fun d => (lane d n).acqFrom = some t ∧ phaseRuns d n = true ∧ flag d (Reg.LANE_STATUS n) 7 = false ∧
        t + 200 * usTicks ≤ d.dev)
      (fun d => laneChanged (timingEval (setAcq d n true) n) n)) ∧
    (∀ (u rate : Int), Effect (fun w => .phaseWindowPublish w n u rate)
      (fun d => phaseRuns d n = true ∧ (lane d n).winSlip = false) (fun d => windowPublish d n u rate)) ∧
    (∀ (diff : Int), Effect (fun w => .skewMarkerPeriod w n diff)
      (fun d => ticking d = true ∧ laneOwner d n ≠ n ∧ flag d (Reg.PORT_STATUS (laneOwner d n)) 14 = true)
      (fun d => markerPeriod d n diff)) ∧
    Effect (fun w => .txAlignErr w n) (fun d => ticking d = true ∧ fld d (Reg.LANE_STATUS n) 9 8 = 0) (fun d =>
      condBegins (modLane (event d (Reg.LANE_PH_EVENT n) 3) n (fun x => { x with realign := true }))
        { cause := 0x0D, unit := uLane n }) ∧
    Effect (fun w => .txRealign w n) (fun d => ticking d = true ∧ (lane d n).realign = true) (fun d =>
      condEnds (modLane d n (fun x => { x with realign := false })) 0x0D (uLane n) 0) ∧
    (∀ (tj : Int), Effect (fun w => .kTempUpdate w n tj) (fun d => running d = true) (fun d => kUpdate d n tj)) ∧
    (∀ (v : View) (x : Word), Effect (fun w => .portAlphaHiWrite w v n x)
      (fun d => reaches d v = true ∧ absorbed d n = false ∧
        alphaOk (stagedOr d v (Reg.PORT_ALPHA_LO n) + 2 ^ 32 * x.toNat) = true)
      (fun d => alphaHi d v n x.toNat))

/-- Frames that enter, link conditions, drains and recovery of a port (R34, R96 to R109, R646). -/
def Obligations.PortRowsActOnTheirPort : Prop :=
  ∀ (n : Fin 40),
    (∀ (f : RxFrame), Effect (fun w => .rxFrame w n f)
      (fun d => (ticking d && coreReady d) = true ∧ absorbed d n = false ∧ (receive d n f).2 = none)
      (fun d => (receive d n f).1)) ∧
    (∀ (pre : List Word) (b : List Byte), Effect (fun w => .hostFrameInject w pre b)
      (fun d => running d = true ∧ d.pwr.pcieUp = true ∧ coreReady d = true ∧ standby d = false)
      (fun d => hostFrame d (tagOfWords pre) (withFcs b) none)) ∧
    Effect (fun w => .linkFault w n .pcs) (fun d => portRuns d n = true)
      (fun d => portChanged (setFlag d (Reg.PORT_STATUS n) 14 false) n) ∧
    Effect (fun w => .linkFault w n .autoneg) (fun d => portRuns d n = true)
      (fun d => portChanged (setFlag d (Reg.PORT_STATUS n) 18 false) n) ∧
    Effect (fun w => .linkFault w n .localFault) (fun d => portRuns d n = true)
      (fun d => portChanged (setFlag d (Reg.PORT_STATUS n) 15 true) n) ∧
    Effect (fun w => .linkFault w n .remoteFault) (fun d => portRuns d n = true)
      (fun d => portChanged (setFlag d (Reg.PORT_STATUS n) 16 true) n) ∧
    Effect (fun w => .linkOkHeld w n) (fun d => running d = true) (fun d => l1Eval (linkHeld d n) n) ∧
    (∀ (t : Nat), Effect (fun w => .downHoldElapsed w n)
      (fun d => (portOf d n).holdEnd = some t ∧ running d = true ∧ portSt d n = 3 ∧ t ≤ d.dev ∧ (portOf d n).okSince = none)
      (fun d => linkOkUpdate (setLinkState (flushPort d n) n 4) n)) ∧
    (∀ (t : Nat), Effect (fun w => .recoveryAttemptFail w n)
      (fun d => (portOf d n).recoverAt = some t ∧ running d = true ∧ portSt d n = 4 ∧ t + adaptTmo d n ≤ d.dev ∧ bringup d n ≠ 0)
      (fun d => linkOkUpdate (attemptBegin (modLadder d n (fun x => { x with fails := (ladderOf d n).fails + 1 })) n) n)) ∧
    Effect (fun w => .drainQueuesEmpty w n) (fun d => running d = true ∧ portSt d n = 5 ∧ queuesEmpty d n = true)
      (fun d => drainFinish d n) ∧
    (∀ (t : Nat), Effect (fun w => .drainTmo w n)
      (fun d => (portOf d n).drainEnd = some t ∧ running d = true ∧ portSt d n = 5 ∧ t ≤ d.dev) (fun d => drainFinish d n)) ∧
    (∀ (v : View), Effect (fun w => .linkRestart w v n) (fun d => reaches d v = true ∧ portSt d n = 2)
      (fun d => l1Eval (eligEval (faultFromUp d n) n) n)) ∧
    Effect (fun w => .pcsAligned w n) (fun d => portRuns d n = true ∧ lanesLocked d n = true ∧ flag d (Reg.PORT_STATUS n) 14 = true)
      (fun d => portChanged (setFld d (Reg.PORT_STATUS n) 16 14 1) n) ∧
    (∀ (rate : Fin 4) (fec : Bool), Effect (fun w => .anDone w n rate fec)
      (fun d => portRuns d n = true ∧ bringup d n ≠ 1 ∧ fld d (Reg.LANE_STATUS n) 1 0 = 0 ∧ flag d (Reg.PORT_CFG n) 1 = true)
      (fun d => portChanged (setFlag d (Reg.PORT_STATUS n) 18 true) n))

/-- The L1Sync rows of a port (R273 to R276, R282). -/
def Obligations.L1SyncRowsActOnTheirPort : Prop :=
  ∀ (n : Fin 40),
    (∀ (flags : BitVec 6) (opt : Bool), Effect (fun w => .l1SyncTlvRx w n flags opt)
      (fun d => l1Runs d n = true ∧ portSt d n = 2)
      (fun d =>
        let d := setFlag (setFld d (Reg.PORT_L1_STATUS n) 11 6 flags.toNat) (Reg.PORT_L1_STATUS n) 12 true
        l1Eval (modPort d n (fun x => { x with tlvAt := d.dev })) n)) ∧
    Effect (fun w => .l1SyncTlvSend w n) (fun d => l1Runs d n = true ∧ (portOf d n).tlvSent = none) (fun d =>
      emit (modPort d n (fun x => { x with tlvSent := some d.dev }))
        (.tlv n (fld d (Reg.PORT_L1_CFG n) 3 1 + 8 * fld d (Reg.PORT_L1_STATUS n) 5 3) false)) ∧
    (∀ (t : Nat), Effect (fun w => .l1SyncTlvSend w n)
      (fun d => l1Runs d n = true ∧ (portOf d n).tlvSent = some t ∧ t + tlvGap d n ≤ d.dev) (fun d =>
      emit (modPort d n (fun x => { x with tlvSent := some d.dev }))
        (.tlv n (fld d (Reg.PORT_L1_CFG n) 3 1 + 8 * fld d (Reg.PORT_L1_STATUS n) 5 3) false))) ∧
    Effect (fun w => .l1SyncReceiptTmo w n)
      (fun d => l1Runs d n = true ∧ 2 ≤ fld d (Reg.PORT_L1_STATUS n) 2 0 ∧
        (portOf d n).tlvAt + fld d (Reg.PORT_L1_CFG n) 23 16 * tlvGap d n ≤ d.dev)
      (fun d => l1Idle d n) ∧
    (∀ (v : View) (x : Word), Effect (fun w => .l1CfgWrite w v n x)
      (fun d => reaches d v = true ∧ absorbed d n = false ∧ portValueOk 0x220 x.toNat = true)
      (fun d => l1Eval (wrImage d (Reg.PORT_L1_CFG n) x.toNat) n))

/-- The switch core: linking, the Rake, release, age, wires (R131 to R146). -/
def Obligations.SwitchCoreRowsMoveTheirFrames : Prop :=
  (∀ (pl : Fin 4) (i j : Nat), Effect (fun w => .frameLink w pl none)
    (fun d => running d = true ∧ d.core.planes.find? (fun p => p.1 == pl.val) = some (i, j))
    (fun d =>
      let d := linkFrame (modCore d (fun c => { c with planes := c.planes.filter (fun p => p.1 != pl.val) })) j
      fillPlanes (d.core.waiting.length) d)) ∧
  (∀ (o src : Fin 42) (tc : Fin 8), Effect (fun w => .rakeGap w o src tc)
    (fun d => ticking d = true ∧ 0 < heldCopies (streamOf d o (streamKey src tc)) ∧
      (streamOf d o (streamKey src tc)).gapAt + fld d Reg.CORE_RAKE_GAP 16 0 ≤ d.tick)
    (fun d =>
      let k := streamKey src tc
      skipExp (rakeLast (event (bump d (Reg.CORE_CNT 3)) Reg.CORE_EVENT 1) o k 1 (streamOf d o k).exp) o k)) ∧
  (∀ (o : Fin 42), Effect (fun w => .tendedRelease w o) (fun d => ticking d = true)
    (fun d => releaseWhile o (fun c => tickGe (tickcnt d) (releaseTick d c)) 4096 d)) ∧
  (∀ (o : Fin 42) (tc : Fin 8) (c : Copy) (l : List Copy), Effect (fun w => .ageDrop w o tc false)
    (fun d => ticking d = true ∧ relOf d o tc = c :: l ∧ aged d c = true) (fun d => ageDropCopy (popRel d o tc) c)) ∧
  (∀ (o : Fin 42) (tc : Fin 8) (c : Copy) (l : List Copy), Effect (fun w => .ageDrop w o tc true)
    (fun d => ticking d = true ∧ (outOf d o).launch = c :: l ∧ c.tag.tc = tc.val ∧ aged d c = true)
    (fun d => ageDropCopy (modOut d o (fun x => { x with launch := l })) c)) ∧
  (∀ (o : Fin 42), Effect (fun w => .txComplete w o none)
    (fun d => ticking d = true ∧ (outOf d o).wire.any (fun x => decide (x.endAt ≤ d.tick * 80)) = true) (fun d => endWire d o)) ∧
  (∀ (o : Fin 42) (errs : List ReadErr), Effect (fun w => .selectionPoint w o errs none) (fun d => ticking d = true)
    (fun d => selectAt d o errs))

/-- The tables, free lists and banks of the buffer (R120, R154 to R157, R191). -/
def Obligations.BufferAndTableRowsActOnTheirTables : Prop :=
  (∀ (b : Fin 16384) (way : Fin 4) (e : FdbEntry), Effect (fun w => .fdbAgeing w b way)
    (fun d => fdbAt d b way = some e ∧ running d = true ∧ fld d Reg.CORE_FDB_AGE 15 0 ≠ 0 ∧ e.static_ = false ∧
      e.fresh + fld d Reg.CORE_FDB_AGE 15 0 * secTicks ≤ d.dev)
    (fun d => setFdb d b way none)) ∧
  (∀ (i : Fin 4097) (a b : Word) (l : List Word), Effect (fun w => .recoveryResetTmo w i)
    (fun d => tget (fun _ => []) d.fwd.recov i = a :: b :: l ∧ running d = true ∧
      (tget (fun _ => none) d.fwd.recovSt i).isSome = true ∧
      tget (fun _ => 0) d.fwd.recovAt i + bits b.toNat 25 16 * msTicks ≤ d.dev)
    (fun d => modFwd d (fun f =>
      { f with
        recovSt := tset (fun _ => none) f.recovSt i none
        counts := tmod (fun _ => 0) f.counts ((9 * 65536 + i) * 8 + 2) (fun n => min (n + 1) (2 ^ 64 - 1)) }))) ∧
  Effect (fun w => .freeListAudit w none) (fun d => running d = true) (fun d => modCore d (fun c => { c with lost := [] })) ∧
  (∀ (b : Fin 16), Effect (fun w => .bankRetired w b) (fun d => running d = true ∧ bankSt d b = 1 ∧ bankUsed d b = 0)
    (fun d => event (setBankSt d b 2) Reg.CORE_EVENT 5)) ∧
  (∀ (b : Fin 16), Effect (fun w => .bankTestDone w b false)
    (fun d => running d = true ∧ bankSt d b = 3 ∧ restoreOf d b = none)
    (fun d => event (setFlag (setBankSt d b 2) (Reg.CORE_BANK_STATE b) 3 true) Reg.CORE_EVENT 7)) ∧
  (∀ (b : Fin 16), Effect (fun w => .bankTestDone w b true)
    (fun d => running d = true ∧ bankSt d b = 3 ∧ restoreOf d b = none)
    (fun d =>
      let d := setFlag (setFlag (setBankSt d b 0) (Reg.CORE_BANK_STATE b) 3 false) (Reg.CORE_BANK_STATE b) 4 false
      event (condEnds (wr (wr d (Reg.CORE_BANK_CORR b) 0) (Reg.CORE_BANK_UNCORR b) 0) 0x02 (uBank b) 0) Reg.CORE_EVENT 6)) ∧
  (∀ (b : Fin 16), Effect (fun w => .bankRateWindow w b)
    (fun d => running d = true ∧ tget (fun _ => 0) d.core.bankWinAt b + secTicks ≤ d.dev)
    (fun d => modCore d (fun c =>
      { c with
        bankWin := tset (fun _ => 0) c.bankWin b 0,
        bankWinAt := tset (fun _ => 0) c.bankWinAt b
          (tget (fun _ => 0) d.core.bankWinAt b + (d.dev - tget (fun _ => 0) d.core.bankWinAt b) / secTicks * secTicks) }))) ∧
  (∀ (v : View) (x : Word), Effect (fun w => .quegPoolCfgWrite w v x)
    (fun d => reaches d v = true ∧ bits x.toNat 14 0 ≤ 16384 ∧ tendedFits d (bits x.toNat 14 0) = true)
    (fun d => setTended d (bits x.toNat 14 0)))

/-- Timed launch and gates of a port (R173, R175, R179, R180). -/
def Obligations.LaunchAndGateRowsActOnTheirPort : Prop :=
  ∀ (n : Fin 40),
    Effect (fun w => .timedLaunchReady w n) (fun d => ticking d = true) (fun d =>
      modOut d n (fun x => { x with launch := x.launch.map (fun c => { c with ready := isReady d c }) })) ∧
    (∀ (errs : List ReadErr), Effect (fun w => .launchTick w n errs) (fun d => ticking d = true) (fun d => launchAt d n errs)) ∧
    Effect (fun w => .launchDrop w n) (fun d => ticking d = true) (fun d => launchExpire d n) ∧
    Effect (fun w => .gateBoundary w n) (fun d => ticking d = true) (fun d => gateStatus d n) ∧
    Effect (fun w => .gateSwapped w n) (fun d => ticking d = true) (fun d => gateSwap d n)

/-- The rows of the time bases (R207 to R216, R244, R245). -/
def Obligations.TimeBaseRowsActOnTheirBase : Prop :=
  (∀ (v : View) (n : Fin 8) (x : Word), Effect (fun w => .tbIncrLoWrite w v n x) (fun d => reaches d v = true ∧ n.val ≠ 0)
    (fun d => stage d v (Reg.TB_INCR_LO n) x.toNat)) ∧
  (∀ (v : View) (n : Fin 8) (x : Word), Effect (fun w => .tbIncrHiWrite w v n x)
    (fun d => reaches d v = true ∧ incrOk n (stagedOr d v (Reg.TB_INCR_LO n) + 2 ^ 32 * bits x.toNat 23 0) = true)
    (fun d => setIncr (unstage d v (Reg.TB_INCR_LO n)) n (stagedOr d v (Reg.TB_INCR_LO n) + 2 ^ 32 * bits x.toNat 23 0))) ∧
  (∀ (v : View) (x : Word), Effect (fun w => .tbEnableWrite w v x) (fun d => reaches d v = true) (fun d => tbCtl d x.toNat)) ∧
  (∀ (v : View), Effect (fun w => .snap w v) (fun d => reaches d v = true ∧ ticking d = true) snapshot) ∧
  (∀ (n : Fin 8), Effect (fun w => .scheduledStep w n) (fun d => ticking d = true) (fun d => schedDue d n)) ∧
  (∀ (n : Fin 8), Effect (fun w => .slewDone w n) (fun d => running d = true) (fun d => slewEnd d n)) ∧
  (∀ (v : View) (first : Bool), Effect (fun w => .tbCapRead w v first)
    (fun d => (match v with | .pcie => pcieOpen d | _ => running d) = true ∧ (v = .spi → first = true))
    (fun d => latch (emit (takeCapture d).2 (.read ((takeCapture d).1.take 1))) v (Reg.TB_CAP_D0 + 4) ((takeCapture d).1.drop 1)))

/-- The rows of the Trellis (R283 to R304). -/
def Obligations.TrellisRowsActOnTheirSide : Prop :=
  ∀ (x : Side),
    Effect (fun w => .trellisLoopUpdate w x)
      (fun d => ticking d = true ∧ synLocked d (sideNum x) = true ∧ (trlOf d (sideNum x)).loopIdx < loopNow d)
      (fun d => loopUpdate d (sideNum x)) ∧
    (∀ (e : Fin 16), Effect (fun w => .qualTimer w x e)
      (fun d => ticking d = true ∧ candSt d (sideNum x) e = 2 ∧
        passedSince d (candOf d (sideNum x) e).softAt (qualTicks d (sideNum x) e) = true)
      (fun d => qualify d (sideNum x) e)) ∧
    (∀ (e : Fin 16), Effect (fun w => .wtrTimer w x e)
      (fun d => ticking d = true ∧ candSt d (sideNum x) e = 6 ∧
        (candOf d (sideNum x) e).wtrAt + cw d (sideNum x) e 3 27 16 * secTicks ≤ d.tick)
      (fun d => enterCand d (sideNum x) e 3 0)) ∧
    (∀ (e : Fin 16), Effect (fun w => .driftWindowEnd w x e) (fun d => ticking d = true ∧ cValid d (sideNum x) e = true)
      (fun d => driftEnd d (sideNum x) e)) ∧
    Effect (fun w => .holdoffElapsed w x) (fun d => ticking d = true) (fun d => holdoffDue d (sideNum x)) ∧
    Effect (fun w => .acqTmo w x)
      (fun d => ticking d = true ∧ sideSt d (sideNum x) = 4 ∧
        passedSince d (trlOf d (sideNum x)).acqAt (fld d (Reg.TRL_ACQ_TMO (sideNum x)) 9 0 * secTicks) = true)
      (fun d => bridgeOrHold (disqualify d (sideNum x) (targetOf d (sideNum x)) 5) (sideNum x) (trlOf d (sideNum x)).cause) ∧
    Effect (fun w => .modelSample w x) (fun d => ticking d = true ∧ (trlOf d (sideNum x)).secAt + secTicks ≤ d.tick)
      (fun d => modelSecond d (sideNum x)) ∧
    Effect (fun w => .holdoverDcoWrite w x) (fun d => ticking d = true ∧ holdDue d (sideNum x) = true)
      (fun d => holdoverWrite d (sideNum x)) ∧
    (∀ (e : Fin 16) (a b : Int), Effect (fun w => .xchkSecond w x e a b)
      (fun d => ticking d = true ∧ cValid d (sideNum x) e = true ∧ cType d (sideNum x) e = 0 ∧
        flag d (Reg.TRL_CAND_STATUS (sideNum x) e) 7 = true ∧ (candOf d (sideNum x) e).present = true ∧
        (a - b).natAbs ≤ 1000000)
      (fun d => modCand d (sideNum x) e (fun c => { c with xbad := false }))) ∧
    (∀ (e : Fin 16), Effect (fun w => .presenceLost w x e)
      (fun d => ticking d = true ∧ (candOf d (sideNum x) e).present = true) (fun d => presenceOf d true (sideNum x) e)) ∧
    (∀ (n : Fin 40) (a b c t : Int) (chg : Word) (i : Nat), Effect (fun w => .ptpOffset w n a b c t chg i)
      (fun d => ticking d = true ∧ coreReady d = true ∧ (fld d (Reg.TB_PTP n) 2 0 = 1 ∨ fld d (Reg.TB_PTP n) 2 0 = 3) ∧
        rd d (Reg.PORT_DLY_CHG n) = chg.toNat ∧ absorbed d n = false)
      (fun d => exchange d n a b c t chg i))

/-- The root PLL, the synthesizers, the divider and PPS_OUT (R311 to R331). -/
def Obligations.ClockRowsActOnTheClocks : Prop :=
  Effect .rootPllLock (fun d => d.pwr.resetHeld = false ∧ d.clk.rootLocked = false ∧ d.clk.oscLost = false) rootLock ∧
  Effect .rootUnlock (fun d => d.pwr.resetHeld = false ∧ d.clk.rootLocked = true) (fun d => freeze d false) ∧
  Effect .oscLoss (fun d => d.pwr.resetHeld = false ∧ d.clk.oscLost = false) (fun d => freeze d true) ∧
  Effect .oscReturn (fun d => d.pwr.resetHeld = false ∧ d.clk.oscLost = true) oscReturn ∧
  Effect .restarted (fun d => d.pwr.resetHeld = false ∧ restartReady d = true) restart ∧
  (∀ (x : Side), Effect (fun w => .synLock w x)
    (fun d => d.pwr.resetHeld = false ∧ d.clk.rootLocked = true ∧ synLocked d (sideNum x) = false)
    (fun d => synLock d (sideNum x))) ∧
  (∀ (x : Side), Effect (fun w => .synUnlock w x) (fun d => running d = true ∧ synLocked d (sideNum x) = true)
    (fun d => synUnlock d (sideNum x))) ∧
  (∀ (v : View) (x : Word), Effect (fun w => .coreDivReq w v x) (fun d => reaches d v = true)
    (fun d => wrImage d Reg.CLK_ROOT_CTL x.toNat)) ∧
  (∀ (a n : Nat), Effect .coreDivDone (fun d => running d = true ∧ d.clk.divReq = some (a, n)) (fun d =>
    event (modClk (setFlag (setFlag d Reg.CLK_ROOT_STATUS 2 (n == 16)) Reg.GLB_PWR_STATUS 2 (n == 16))
      (fun c => { c with divReq := none })) Reg.CLK_EVENT 8)) ∧
  (∀ (x : Side), Effect (fun w => .synSlewMove w x) (fun d => running d = true) (fun d => slewMove d (sideNum x))) ∧
  Effect .ppsOutPulse
    (fun d => ticking d = true ∧ d.clk.ppsMuted = false ∧ d.clk.ppsSec ≠ some (ppsNow d) ∧ flag d Reg.CLK_PPS_CFG 21 = false ∧
      d.clk.ppsHigh = none ∧ d.clk.ppsFall = none ∧ pairedOff d 1 = false)
    (fun d => emit (modClk (modClk d (fun c => { c with ppsSec := some (ppsNow d) })) (fun c => { c with ppsHigh := some d.tick }))
      (.pps true)) ∧
  Effect .ppsPulseEnd (fun d => ticking d = true) ppsEnd ∧
  Effect .lockmonRefresh (fun d => running d = true ∧ d.clk.oscLost = false) lockRefresh

/-- The fine interval meters (R345 to R377). -/
def Obligations.MeterRowsActOnTheirMeter : Prop :=
  Effect .meterCalStart (fun d => ticking d = true) calStart ∧
  (∀ (m : MeterId),
    (∀ (r : CalResult), Effect (fun w => .calDone w m r)
      (fun d => ticking d = true ∧ (meterOf d (meterKey m)).method = 1) (fun d => calEnd d (meterKey m) r)) ∧
    (∀ (mean : Int) (rms : Nat), Effect (fun w => .shadowBlockEnd w m mean rms)
      (fun d => ticking d = true ∧ (meterOf d (meterKey m)).method = 2 ∧ 4096 ≤ (meterOf d (meterKey m)).pairs)
      (fun d => shadowEnd d (meterKey m) mean rms)) ∧
    (∀ (a b : Nat), Effect (fun w => .ringPeriodCheck w m a b)
      (fun d => ticking d = true ∧ (meterOf d (meterKey m)).method = 3 ∧ (meterOf d (meterKey m)).ringAt + secTicks ≤ d.dev ∧
        ringsOk a b = true)
      (fun d => modMeter d (meterKey m) (fun m => { m with ringAt := d.dev }))) ∧
    (∀ (rising : Bool) (c : Conv), Effect (fun w => .meterEdge w m rising c) (fun d => ticking d = true ∧ d.fuse.ma = true)
      (fun d => meterEdge d (meterKey m) rising c)) ∧
    (∀ (j : Job), Effect (fun w => .measGateClose w m) (fun d => ticking d = true ∧ (meterOf d (meterKey m)).job = some j)
      (fun d => gatesTo d (meterKey m) (domNs d j.domain)))) ∧
  (∀ (v : View) (first : Bool), Effect (fun w => .clkMtrRdW0 w v first)
    (fun d => (match v with | .pcie => pcieOpen d | _ => running d) = true ∧ (v = .spi → first = true))
    (fun d => latch (emit (takeRecord d).2 (.read ((takeRecord d).1.take 1))) v (Reg.CLK_MTR_RD_W 0 + 4) ((takeRecord d).1.drop 1)))

/-- The Cold Frame (R384 to R403): a request is decided, a reply completes its command, and its events act. -/
def Obligations.ColdFrameRowsActOnThePartition : Prop :=
  (∀ (r : CfReq) (l : List CfReq) (c : InFlight), Effect .cfRequest
    (fun d => d.fuse.ma = true ∧ running d = true ∧ d.cf.up = true ∧ d.cf.replies.length < 16 ∧ d.cf.reqs = r :: l ∧
      inflightOf d r.seq = some c)
    (fun d => cfDecide (modCf d (fun f => { f with reqs := l })) c)) ∧
  (∀ (q st : Nat) (ws : List Word) (l : List (Nat × Nat × List Word)), Effect .cfReplyRead
    (fun d => d.fuse.ma = true ∧ running d = true ∧ d.cf.replies = (q, st, ws) :: l)
    (fun d => abortWaiters (complete (modCf d (fun f => { f with replies := l })) q st ws) q st)) ∧
  (∀ (d : Device) (c : InFlight), cfHalted d = false → c.opcode = 0x0702 → cfDecide d c = cfReply d c stOk (identityWords d)) ∧
  (∀ (d : Device) (c : InFlight), cfHalted d = false → c.opcode = 0x0703 → cfDecide d c = cfAuditRead d c) ∧
  (∀ (a b : Bool), Effect (fun w => .tamperSample w a b) (fun d => (d.pwr.vdd33 || d.cf.vbatOk) = true ∧ d.fuse.ma = true)
    (fun d => cfSample d a b)) ∧
  Effect .vbatLow (fun d => d.fuse.ma = true) cfVbatLow ∧
  Effect .cfPowerFail (fun d => d.fuse.ma = true ∧ d.pwr.vdd33 = true)
    (fun d => modCf (cfFinal d) (fun c => { c with failAt := some d.now })) ∧
  Effect .lockstep (fun d => d.fuse.ma = true ∧ running d = true ∧ d.cf.up = true) cfLockstep ∧
  Effect .cfImageStart (fun d => d.fuse.ma = true ∧ ticking d = true ∧ d.cf.up = false) cfStart

/-- Shafts, pins, Shears and halt frames (R416, R424, R437, R544). -/
def Obligations.ShaftRowsActOnTheirShaft : Prop :=
  (∀ (i : Fin 4), Effect (fun w => .shaftInjection w i) (fun d => ticking d = true) (fun d => injectFrame d i)) ∧
  (∀ (j : Fin 16), Effect (fun w => .syncPinEdge w j) (fun d => ticking d = true) (fun d => pinNext d j)) ∧
  Effect .shearsEnter (fun d => running d = true) shearsEnter ∧
  (∀ (n : Fin 40), Effect (fun w => .haltFrameDone w n) (fun d => ticking d = true) (fun d => haltDone d n))

/-- A service of an applet (R448, R459): the engine runs, is not suspended and waits for no command; the call is counted. -/
def Obligations.AppletServicesAnswer : Prop :=
  ∀ (e : Fin 16),
    let calls (d : Device) : Prop :=
      running d = true ∧ feRuns d e = true ∧ (applet d e).waiting = none ∧ inCommand d e = false
    Effect (fun w => .timeRead w e) calls (fun d =>
      let d := pulse d (uFE e) 0x05 1
      answer d e stOk (((upTo 8).map (fun n => timeWords (tbVal d n))).flatten ++ words2 (tickcnt d))) ∧
    (∀ (t : WaitTarget), Effect (fun w => .waitUntil w e t) calls (fun d => svcWaitUntil e t (pulse d (uFE e) 0x05 1))) ∧
    (∀ (t : WaitTarget), Effect (fun w => .waitUntilWake w e)
      (fun d => (applet d e).waiting = some t ∧ ticking d = true ∧ feRuns d e = true ∧ waitOver d t = true)
      (fun d => answer (modApplet d e (fun a => { a with waiting := none })) e stOk [])) ∧
    (∀ (pre : List Word) (b : List Byte), Effect (fun w => .frameSend w e pre b) calls
      (fun d => svcFrameSend e pre b (pulse d (uFE e) 0x05 1))) ∧
    (∀ (ws : List Word), Effect (fun w => .msgPut w e ws) calls (fun d => svcMsgPut e ws (pulse d (uFE e) 0x05 1))) ∧
    Effect (fun w => .msgGet w e) calls (fun d => svcMsgGet e (pulse d (uFE e) 0x05 1)) ∧
    (∀ (op : BitVec 16) (p : Pkt), Effect (fun w => .command w e op p) calls
      (fun d => svcCommand e op.toNat p (pulse d (uFE e) 0x05 1))) ∧
    (∀ (k : PmcCounter), Effect (fun w => .pmcRead w e k) calls (fun d => svcPmcRead e k (pulse d (uFE e) 0x05 1))) ∧
    Effect (fun w => .wdtKick w e) calls (fun d =>
      let d := pulse d (uFE e) 0x05 1
      answer (modApplet d e (fun a => { a with wdtAt := d.dev })) e stOk []) ∧
    Effect (fun w => .exit w e) calls (fun d => stopDue (pulse d (uFE e) 0x05 1) e 4)

/-- Violations, watchdogs, stops, mailboxes and the performance counters (R447, R449, R451, R457, R460 to R463). -/
def Obligations.EngineRowsActOnTheirEngine : Prop :=
  (∀ (e : Fin 16) (a : Word) (k : AccessKind), Effect (fun w => .violation w e a k)
    (fun d => running d = true ∧ feRuns d e = true ∧ (applet d e).waiting = none) (fun d =>
      occur (event (wr (stopDue d e 3) (Reg.ENG_FE_FAULT_ADDR e) a.toNat) (Reg.ENG_FE_EVENT e) 3)
        { cause := 0x0A, unit := uFE e, addr := a.toNat, master := 0x50 + e.val, access := accessCode k })) ∧
  (∀ (e : Fin 16), Effect (fun w => .wdtExpired w e) (fun d => running d = true ∧ feRuns d e = true ∧ wdtOut d e = true)
    (fun d => occur (event (stopDue d e 2) (Reg.ENG_FE_EVENT e) 2) { cause := 0x0B, unit := uFE e })) ∧
  (∀ (e : Fin 16), Effect (fun w => .appletStopped w e) (fun d => running d = true ∧ (applet d e).stopDue.isSome = true)
    (fun d => appletStops d e)) ∧
  (∀ (v : View) (e : Fin 16), Effect (fun w => .toFull w v e) (fun d => reaches d v = true ∧ isApplet e = true)
    (fun d => setFlag d (Reg.ENG_FE_MBOX_CTL e) 0 true)) ∧
  (∀ (v : View) (e : Fin 16), Effect (fun w => .fromFullClear w v e) (fun d => reaches d v = true)
    (fun d => setFlag d (Reg.ENG_FE_MBOX_CTL e) 1 false)) ∧
  (∀ (v : View) (x : Word), Effect (fun w => .globalEn w v x) (fun d => reaches d v = true)
    (fun d => wrImage d Reg.PMC_CTL x.toNat)) ∧
  (∀ (v : View) (b : Fin 5) (x : Word), Effect (fun w => .pmcSmpCtlWrite w v b x)
    (fun d => reaches d v = true ∧ valueOk d (Reg.PMC_SMP_CTL b) x.toNat = true) (fun d => smpWrite d b x.toNat)) ∧
  (∀ (v : View) (b : Fin 5) (first : Bool), Effect (fun w => .pmcSmpRead w v b first)
    (fun d => (match v with | .pcie => pcieOpen d | _ => running d) = true ∧ (v = .spi → first = true))
    (fun d => latch (emit (takeSample b d).2 (.read ((takeSample b d).1.take 1))) v (Reg.PMC_SMP_D b 0 + 4)
      ((takeSample b d).1.drop 1)))

/-- Accesses of the register views (R504 to R522). -/
def Obligations.RegisterRowsReachTheirRegister : Prop :=
  ∀ (v : View),
    (∀ (a : Nat) (x : Word), Effect (fun w => .registerWrite w v a (.whole x))
      (fun d => reaches d v = true ∧ a % 4 = 0 ∧ a < 2 ^ 24 ∧ (v = .spi → ppKey a = none)) (fun d => regWrite d v a x)) ∧
    (∀ (a : Nat) (x : Word), Effect (fun w => .eventClear w v a x)
      (fun d => reaches d v = true ∧ a % 4 = 0 ∧ a < 2 ^ 24 ∧ isEventReg a = true ∧ (v = .spi → ppKey a = none))
      (fun d => regWrite d v a x)) ∧
    (∀ (x : Word), Effect (fun w => .glbSrcEnWrite w v x) (fun d => reaches d v = true) (fun d => srcEnWrite d x.toNat)) ∧
    (∀ (x : Word), Effect (fun w => .glbLock w v x) (fun d => reaches d v = true ∧ d.bus.wolLocked = false)
      (fun d => modBus (wr d Reg.GLB_LOCK (bits x.toNat 1 0)) (fun b => { b with wolLocked := true }))) ∧
    (∀ (a : Nat) (x : Word) (t : Nat), Effect (fun w => .ppFail w v a)
      (fun d => running d = true ∧ ppPending d a = some (viewNum v, x, t) ∧ t + ppWindow < d.dev)
      (fun d => ppFailAt (setPending d a none) (viewOf (viewNum v)) a)) ∧
    (∀ (x : Word), Effect (fun w => .fwdSelWrite w v x) (fun d => reaches d v = true) (fun d => fwdSel d x.toNat)) ∧
    Effect .fwdSnapshotDone (fun d => running d = true) fwdDone ∧
    Effect (fun w => .fwdClr w v) (fun d => reaches d v = true) fwdClear ∧
    (∀ (a : Nat) (u : Bool) (i : RegInfo), Effect (fun w => .parityScan w a u)
      (fun d => regInfo a = some i ∧ running d = true ∧ i.par = true)
      (fun d => parityCheck (if u && !d.parityBad.contains a then { d with parityBad := a :: d.parityBad } else d) a 0x80 4)) ∧
    (∀ (a : Nat), Effect (fun w => .groupLowWordRead w v a)
      (fun d => viewOpen d v = true ∧ a % 4 = 0 ∧ a < 2 ^ 24) (fun d => regRead d v a))

/-- The pair-protected registers: the register with its key and then its companion apply it (R515, R544, R546, R577, R611, R620). -/
def Obligations.PairedWritesApplyTheirRegister : Prop :=
  ∀ (v : View),
    Effect (fun w => .glbDevReset w v 0x73400001 (~~~0x73400001))
      (fun d => reaches d v = true ∧ ppPending d Reg.GLB_DEV_RESET = none)
      (fun d => ppApply (setPending (setPending d Reg.GLB_DEV_RESET (some (viewNum v, 0x73400001, d.dev))) Reg.GLB_DEV_RESET none) v
        Reg.GLB_DEV_RESET 0x73400001) ∧
    Effect (fun w => .glbDormant w v 0x73400D00 (~~~0x73400D00))
      (fun d => reaches d v = true ∧ ppPending d Reg.GLB_DORMANT = none)
      (fun d => ppApply (setPending (setPending d Reg.GLB_DORMANT (some (viewNum v, 0x73400D00, d.dev))) Reg.GLB_DORMANT none) v
        Reg.GLB_DORMANT 0x73400D00) ∧
    Effect (fun w => .fltShearsReq w v 0x5AFE0001 (~~~0x5AFE0001))
      (fun d => reaches d v = true ∧ ppPending d Reg.FLT_SHEARS_REQ = none ∧ d.flt.requests = [])
      (fun d => ppApply (setPending (setPending d Reg.FLT_SHEARS_REQ (some (viewNum v, 0x5AFE0001, d.dev))) Reg.FLT_SHEARS_REQ none) v
        Reg.FLT_SHEARS_REQ 0x5AFE0001) ∧
    Effect (fun w => .fltShearsRel w v 0x5AFE0002 (~~~0x5AFE0002))
      (fun d => reaches d v = true ∧ ppPending d Reg.FLT_SHEARS_REL = none ∧ d.flt.requests = [])
      (fun d => ppApply (setPending (setPending d Reg.FLT_SHEARS_REL (some (viewNum v, 0x5AFE0002, d.dev))) Reg.FLT_SHEARS_REL none) v
        Reg.FLT_SHEARS_REL 0x5AFE0002) ∧
    Effect (fun w => .redGraftForce w v 0x734000A1 (~~~0x734000A1))
      (fun d => reaches d v = true ∧ ppPending d Reg.RED_GRAFT_FORCE = none)
      (fun d => ppApply (setPending (setPending d Reg.RED_GRAFT_FORCE (some (viewNum v, 0x734000A1, d.dev))) Reg.RED_GRAFT_FORCE none)
        v Reg.RED_GRAFT_FORCE 0x734000A1)

/-- The safety partition (R525 to R527, R538, R542, R543, R549). -/
def Obligations.SafetyRowsActOnThePartition : Prop :=
  (∀ (r : Nat × Nat × Word × Nat) (l : List (Nat × Nat × Word × Nat)), Effect .fltWriteRequest
    (fun d => running d = true ∧ d.flt.requests = r :: l)
    (fun d => fltWrite (modFlt d (fun s => { s with requests := l })) (viewOf r.1) r.2.1 r.2.2.1 r.2.2.2)) ∧
  Effect .me1Wdt (fun d => running d = true ∧ flag d 0x201100 0 = true) (fun d => condBegins d { cause := 0x22, unit := uME 1 }) ∧
  Effect .safetySelfcheck (fun d => running d = true) (fun d =>
    occur d { cause := 0x21, unit := uService 6, injected := injMode d (uService 6) 1 1 != 0 }) ∧
  (∀ (v : View), Effect (fun w => .rearm w v) (fun d => reaches d v = true) fecRearm) ∧
  (∀ (v : View) (x : Word), Effect (fun w => .fltPinWrite w v x) (fun d => reaches d v = true) (fun d => pinWrite d x.toNat)) ∧
  Effect .faultPulseEnd (fun d => d.clk.oscLost = false ∧ d.pwr.resetHeld = false) pulseDone ∧
  (∀ (t : Nat), Effect .factoryModeEnd (fun d => d.pwr.resetHeld = false ∧ d.flt.factoryEnd = some t ∧ t ≤ d.now) factoryStop)

/-- Redundancy (R558 to R582). -/
def Obligations.RedundancyRowsActOnTheClaims : Prop :=
  Effect .brelyClaimSend (fun d => running d = true) (fun d =>
    emit (emit d (.claimBrely 0 (ownMessage d false))) (.claimBrely 1 (ownMessage d false))) ∧
  (∀ (k : Fin 2) (m : BitVec 24), Effect (fun w => .brelyClaimRx w k m) (fun d => running d = true)
    (fun d => brelyClaim d k m.toNat)) ∧
  Effect .claimPinSend (fun d => d.pwr.resetHeld = false) (fun d => emit d (.claimPin (ownMessage d false))) ∧
  (∀ (m : BitVec 24), Effect (fun w => .claimPinRx w m) (fun d => running d = true) (fun d => pinClaim d m.toNat)) ∧
  (∀ (k : Fin 2), Effect (fun w => .brelyPathTmo w k) (fun d => running d = true) (fun d => brelyTmo d k)) ∧
  Effect .pinPathTmo (fun d => running d = true) pinTmo ∧
  (∀ (fs : Int), Effect (fun w => .alignedTimer w fs)
    (fun d => ticking d = true ∧ synLocked d (1 - activeSide d) = true ∧ fs.natAbs ≤ 3000) (fun d => alignedSet d fs)) ∧
  (∀ (fs : Int), Effect (fun w => .alignLost w fs) (fun d => ticking d = true ∧ 10000 < fs.natAbs) (fun d => alignedLost d fs)) ∧
  Effect .diverged (fun d => running d = true) redEval ∧
  Effect .restoreHoldEnd (fun d => running d = true) restoreEnd ∧
  Effect .mirrorRecordSend
    (fun d => running d = true ∧ coreReady d = true ∧ 2 ≤ graftSt d ∧ d.red.mirrorSent = none)
    (fun d => modRed (emit d (.mirror (ownRecord d))) (fun r => { r with mirrorSent := some d.dev })) ∧
  (∀ (r : MirrorRec), Effect (fun w => .mirrorRecordRx w r) (fun d => running d = true ∧ coreReady d = true) (fun d => mirrorIn d r)) ∧
  Effect .mirrorDone (fun d => running d = true) mirrorComplete ∧
  Effect .lastGasp (fun d => d.pwr.resetHeld = false) lastGaspNow ∧
  (∀ (t : Nat), Effect .handoverTmo (fun d => running d = true ∧ d.red.handover = some t ∧ t ≤ d.dev) (fun d =>
    each (working d 0x0B03) (handoverEnd d) (fun d c => fail d c stNoResource))) ∧
  (∀ (v : View), Effect (fun w => .pairHoldClr w v) (fun d => reaches d v = true)
    (fun d => outEnable (setFlag d Reg.RED_GRAFT_STATUS 7 false))) ∧
  (∀ (b : List Byte), Effect (fun w => .brelyFrameRx w b)
    (fun d => ticking d = true ∧ coreReady d = true ∧ beAt b 12 2 ≠ 0x88B5 ∧ inRange b.length 64 10240 = true ∧ fcsGood b = true ∧
      standby d = false)
    (fun d => brelyData d b))

/-- Power, resets, start-up and low power (R597 to R623). -/
def Obligations.PowerRowsActOnThePower : Prop :=
  (∀ (straps : BitVec 6), Effect (fun w => .powerOnResetRelease w straps)
    (fun d => d.pwr.resetHeld = true ∧ d.pwr.dormant = none) (fun d => powerRelease d straps.toNat)) ∧
  (∀ (rail : Fin 5) (k : Nat), Effect (fun w => .brownOut w rail k)
    (fun d => usTicks ≤ k ∧ d.pwr.resetHeld = false ∧ rail.val ≠ 0) (fun d => powerOnHeld d 3 0)) ∧
  (∀ (k : Nat), Effect (fun w => .brownOut w 0 k)
    (fun d => usTicks ≤ k ∧ d.pwr.resetHeld = false) (fun d => vddGone (powerOnHeld d 3 0))) ∧
  (∀ (k : Nat), Effect (fun w => .resetN w k) (fun d => 10 * usTicks ≤ k ∧ d.pwr.resetHeld = false) (fun d => powerOnHeld d 2 0)) ∧
  (∀ (k : PcieReset), Effect (fun w => .pcieFundamentalReset w k) (fun d => d.pwr.resetHeld = false) fundamentalReset) ∧
  Effect (fun w => .safetySelfcheckPass w true) (fun d => ticking d = true ∧ d.flt.checkPassed = false)
    (fun d => modFlt d (fun s => { s with checkPassed := true })) ∧
  (∀ (a b : Bool), Effect (fun w => .mainImageVerified w a b)
    (fun d => running d = true ∧ d.flt.checkPassed = true ∧ d.pwr.imageDone = false) (fun d => boot d a b)) ∧
  Effect .coreReady (fun d => running d = true ∧ d.pwr.imageDone = true ∧ recovery d = false ∧ coreReady d = false) coreUp ∧
  (∀ (k t : Nat), Effect (fun w => .wakeN w k) (fun d => msTicks ≤ k ∧ d.pwr.dormant = some t) (fun d => wakeEvent d 1)) ∧
  (∀ (t : Nat), Effect .wakeTimer
    (fun d => d.pwr.dormant = some t ∧ rd d Reg.GLB_WAKE_TIMER ≠ 0 ∧
      rd d Reg.GLB_WAKE_TIMER * secTicks * 95 ≤ (d.now - t) * 100)
    (fun d => wakeEvent d 2)) ∧
  (∀ (t : Nat), Effect .dormantRailsKept
    (fun d => d.pwr.dormant = some t ∧ d.pwr.vdd33 = true ∧ t + 100 * msTicks ≤ d.now)
    (fun d => modPwr d (fun p => { p with railsKept := true }))) ∧
  Effect .flashProgrammingDone (fun d => running d = true) flashDone ∧
  (∀ (b : Fin 4), Effect (fun w => .lowPowerWakeDone w (.bed b))
    (fun d => running d = true ∧ (d.pwr.bedWake.getD b none).isSome = true) (fun d =>
      setFlag (modPwr d (fun p => { p with bedWake := p.bedWake.set b none })) Reg.GLB_PWR_STATUS (8 + b) false)) ∧
  Effect (fun w => .lowPowerWakeDone w .core) (fun d => running d = true ∧ d.pwr.coreWake.isSome = true) (fun d =>
    each d.pwr.held (setFlag (modPwr d (fun p => { p with coreWake := none, held := [] })) Reg.GLB_PWR_STATUS 12 false) heldFrame) ∧
  Effect .pcieLinkUp (fun d => running d = true) (fun d => modPwr d (fun p => { p with pcieUp := true }))

/-- The transports of the commands (R472 to R489). -/
def Obligations.TransportRowsMoveTheirPackets : Prop :=
  (∀ (v : View) (k : Fin 4) (x : Word), Effect (fun w => .cmdSqDoorbell w v k x)
    (fun d => reaches d v = true ∧ x.toNat % 65536 % 16 = 0)
    (fun d => ringScan k (ringFuel (wr d (Reg.CMD_SQ_TAIL k) (x.toNat % 65536)) k) (wr d (Reg.CMD_SQ_TAIL k) (x.toNat % 65536)))) ∧
  (∀ (v : View) (k : Fin 4) (x : Word), Effect (fun w => .cmdRingReset w v k x)
    (fun d => reaches d v = true ∧ bits x.toNat 23 16 ≠ 0 ∧ bit x.toNat 1 = true)
    (fun d => ringReset (wr d (Reg.CMD_RING_CTL k) (Nat.land x.toNat 0xFFFF3F01)) k)) ∧
  (∀ (v : View) (k : Fin 4) (x : Word), Effect (fun w => .cmdCqHeadWrite w v k x)
    (fun d => reaches d v = true ∧ x.toNat % 65536 % 16 = 0)
    (fun d => deliverRing k 513 (wr d (Reg.CMD_CQ_HEAD k) (x.toNat % 65536)))) ∧
  (∀ (k : Fin 4) (n t : Nat), Effect (fun w => .coalUsExpiry w k)
    (fun d => running d = true ∧ tget (fun _ => (0, 0)) d.cmd.unsig k = (n, t) ∧ n ≠ 0 ∧ fld d (Reg.CMD_RING_CTL k) 31 24 ≠ 0 ∧
      t + fld d (Reg.CMD_RING_CTL k) 31 24 * usTicks ≤ d.now)
    (fun d => sendMsix (modCmd d (fun t => { t with unsig := tset (fun _ => (0, 0)) t.unsig k (0, 0) }))
      (fld d (Reg.CMD_RING_CTL k) 13 8))) ∧
  (∀ (x : Word), Effect (fun w => .cmdMbxWdata w x) (fun d => running d = true ∧ d.cmd.mbxIn.length < 1028)
    (fun d => modCmd d (fun t => { t with mbxIn := t.mbxIn ++ [x] }))) ∧
  Effect .submit
    (fun d => running d = true ∧ 4 ≤ d.cmd.mbxIn.length ∧ d.cmd.mbxIn.length = 4 + lengthOf d.cmd.mbxIn ∧ frontOpen d .spi = true ∧
      slotFree d .spi (bits (d.cmd.mbxIn.getD 0 0).toNat 15 0) 16 isSpi = true)
    (fun d => accept (mbxEmpty d) .spi d.cmd.mbxIn [] false) ∧
  Effect .discard (fun d => running d = true) (fun d => modCmd d (fun t => { t with mbxIn := [] })) ∧
  (∀ (c : InFlight), Effect .cmdMbxRdata
    (fun d => running d = true ∧ nextReply d isSpi = some c ∧ d.cmd.mbxRead + 1 < (replyWords c).length)
    (fun d => modCmd (emit d (.read [(replyWords c).getD d.cmd.mbxRead 0])) (fun t => { t with mbxRead := d.cmd.mbxRead + 1 }))) ∧
  (∀ (b : List Byte) (ws : List Word), Effect (fun w => .brelyCommand w b)
    (fun d => ticking d = true ∧ coreReady d = true ∧ beAt b 12 2 = 0x88B5 ∧ fcsGood b = true ∧ standby d = false ∧
      packetAt b 14 = some ws ∧ flag d Reg.CMD_CFG 0 = true ∧ frontOpen d .brely = true)
    (fun d => accept d .brely ws [] (!slotFree d .brely (packetOf ws).1 32 isBrely))) ∧
  (∀ (o : Origin) (tag : BitVec 10) (c : InFlight), Effect (fun w => .fenceWaitEnd w o tag)
    (fun d => tagged d o tag (fun c => c.stage == .wait) = some c ∧ c.stage = .wait ∧ fencesBefore c = true ∧ c.aux = [] ∧
      fenceOver d c = true ∧ running d = true)
    (fun d => frontGo (modInflight d c.seq (fun c => { c with aux := [2] })))) ∧
  (∀ (o : Origin) (tag : BitVec 10) (c : InFlight), Effect (fun w => .timeout w o tag)
    (fun d => tagged d o tag (fun c => running d && timedOut d c) = some c) (fun d => timeOut d c))

/-! ### The queue, time, and what every step keeps -/

/-- A step runs the command at the front of the queue, on the device and the rest of the queue. -/
def Obligations.StepRunsTheFrontCommand : Prop :=
  ∀ (c : Instr) (rest : List Instr) (d : Device),
    step { pending := c :: rest, dev := d } = exec c { pending := rest, dev := d }

/-- On an empty queue one tick passes and the device settles; nothing else happens (the model's choice, log 3). -/
def Obligations.AnEmptyQueuePassesOneTick : Prop :=
  ∀ (d : Device),
    step { pending := [], dev := d }
      = .next { pending := [], dev := { settle (before 1 d) with now := d.now + 1, dev := (wait 1 d).dev, fuse := d.fuse } }

/-- The order of the clocks holds at reset. -/
def Obligations.InvariantHoldsAtReset : Prop := Inv State.reset

/-- Every step keeps the order of the clocks: device time never passes real time and never runs back, real time grows by the ticks
the command takes along, the fuses stay as they are, and the queue loses its front command alone. -/
def Obligations.EveryStepKeepsTheOrderOfTheClocks : Prop :=
  ∀ (s t : State), Inv s → step s = .next t →
    Inv t ∧ s.dev.dev ≤ t.dev.dev ∧ t.dev.now = s.dev.now + (s.pending.head?.map Instr.ticks).getD 1 ∧
    t.dev.fuse = s.dev.fuse ∧ t.pending = s.pending.tail

/-- Every run is safe: whatever commands wait in whatever state, no step faults or refuses. -/
def Obligations.EveryRunIsSafe : Prop := ∀ (n : Nat) (s : State), SafeRun n s

/-- The queue is first in, first out: as many steps as commands stand at its front carry out just those, in their order, each on
the device the one before left, and leave the rest of the queue as it was; their ticks add up. -/
def Obligations.TheQueueIsFirstInFirstOut : Prop :=
  ∀ (cs rest : List Instr) (d : Device), ∃ (t : State),
    stepN cs.length { pending := cs ++ rest, dev := d } = some t ∧ t.pending = rest ∧ devAfterAll cs d = some t.dev ∧
    t.dev.now = d.now + (cs.map Instr.ticks).sum

/-- A device held in reset is out of reach: but for the rows that act on a device in reset, every command leaves all of it as it
is, and only the time passes (R600, R610). -/
def Obligations.NothingReachesADeviceInReset : Prop :=
  ∀ (c : Instr) (s : State), heldInReset s.dev → c.actsInReset = false →
    exec c s = .next { s with dev := { s.dev with now := s.dev.now + c.ticks } }

/-! ### Time bases -/

/-- Passing many ticks at once is the same as passing them one by one: the closed form of a time base's course, a slew among it,
is the rule of the single tick repeated (R209, R215). -/
def Obligations.ManyTicksAreSingleTicks : Prop :=
  ∀ (en : Bool) (incr w : Nat) (t : TimeBase), 0 < w →
    tbAdvance en incr w t = tickByTick en incr w t

/-- A tick of an enabled time base adds its increment and the adjustment of its slew, carries into the seconds, and takes the
adjustment from the slew's remainder; of a disabled one it changes nothing (R207, R209, R215). -/
def Obligations.ATickAddsTheIncrement : Prop :=
  (∀ (incr : Nat) (t : TimeBase) (adj : Int), t.setPend = none → t.stepPend = 0 → t.slewPend = none →
    t.val < 2 ^ 64 * secUnit → incr < 2 ^ 56 →
    (adj = match t.slew with
      | none => 0
      | some (rm, rate) => Int.sign rm * min ((incr * rate / 1000000000 : Nat) : Int) rm.natAbs) →
    (∀ (rm : Int) (rate : Nat), t.slew = some (rm, rate) → rate ≤ 500000) →
    let x : Int := (t.val % secUnit : Nat) + incr + adj
    ((tbAdvance true incr 1 t).val : Int) =
      (if (secUnit : Int) ≤ x then ((t.val / secUnit + 1) % 2 ^ 64 : Nat) * (secUnit : Int) + (x - secUnit)
      else (t.val / secUnit : Nat) * (secUnit : Int) + x) ∧
    (tbAdvance true incr 1 t).slew = t.slew.map (fun p => (p.1 - adj, p.2))) ∧
  (∀ (incr w : Nat) (t : TimeBase), t.setPend = none → t.stepPend = 0 → t.val < 2 ^ 64 * secUnit →
    (tbAdvance false incr w t).val = t.val ∧ (tbAdvance false incr w t).slew = t.slew)

/-- While the tick is delivered, ticks take every time base of both sides along as the active side's copy goes, and count into
CORE_TICKCNT; while it is not, the time bases and the count stand (R127, R204, R209, R563). -/
def Obligations.BothSidesAdvanceAlike : Prop :=
  (∀ (w : Nat) (d : Device) (n x : Nat), 0 < w → ticking d = true → n < 8 → x < 2 →
    (tbOf (wait w d) x n).val = (tbAdvance (tbEn d n) (tbIncr d n) w (tbOf d (activeSide d) n)).val ∧
    (wait w d).tick = d.tick + w) ∧
  (∀ (w : Nat) (d : Device), ticking d = false → (wait w d).tb.tbs = d.tb.tbs ∧ (wait w d).tick = d.tick)

/-- A set value takes the place of the increment in the next tick, on both sides; it leaves a scheduled step pending, counts one
change and ends UNCERTAIN (R213, R216, R218). -/
def Obligations.ASetAppliesInTheNextTick : Prop :=
  ∀ (d : Device) (n v : Nat), n < 8 → (tbOf d (activeSide d) n).setPend = some v → (tbOf d (activeSide d) n).stepPend = 0 →
    (tbOf d (activeSide d) n).stepDue = 0 → (tbOf d (activeSide d) n).slewPend = none → v < 2 ^ 64 * secUnit →
    (∀ x, x < 2 → (tbOf (tbPass 1 d n) x n).val = v ∧ (tbOf (tbPass 1 d n) x n).sched = (tbOf d (activeSide d) n).sched ∧
      (tbOf (tbPass 1 d n) x n).setPend = none) ∧
    rd (tbPass 1 d n) (Reg.TB_CHG n) = (rd d (Reg.TB_CHG n) + 1) % 2 ^ 32 ∧
    flag (tbPass 1 d n) Reg.TB_EVENT 0 = true ∧ flag (tbPass 1 d n) Reg.TB_STATUS (8 + n) = false

/-- TBn_INCR takes 0.75 ns to 0.85 ns for TB1 to TB7; a register write outside is ignored and sets CFG_REJECT, a TB_SET_INCR
outside completes with BAD_PARAM, and TB0_INCR takes no write (R210). -/
def Obligations.IncrementsKeepTheirRange : Prop :=
  (∀ (n i : Nat), incrOk n i = true ↔ (n ≠ 0 ∧ 0xC000_0000_0000 ≤ i ∧ i ≤ 0xD999_9999_999A)) ∧
  (∀ (d : Device) (v : View) (n x : Nat), n ≠ 0 →
    incrOk n (stagedOr d v (Reg.TB_INCR_LO n) + 2 ^ 32 * bits x 23 0) = false → incrHi d v n x = event d Reg.TB_EVENT 8) ∧
  (∀ (d : Device) (c : InFlight), pf c 0 2 0 ≠ 0 → incrOk (pf c 0 2 0) (pw c 1 + 2 ^ 32 * pf c 2 23 0) = false →
    opTbSetIncr d c = complete d c.seq stBadParam [1]) ∧
  (∀ (d : Device) (v : View) (x : Word), incrHi d v 0 x.toNat = d ∧ regWrite d v (Reg.TB_INCR_LO 0) x = d ∧
    regWrite d v (Reg.TB_INCR_HI 0) x = d) ∧
  10 ^ 16 / 225179981368525 = 44

/-! ### Registers -/

/-- Accesses that reach no register: reserved offsets read zero and ignore writes, the Cold Frame's window ignores them, the
PCIe view is closed until core ready, and a partial write of it is refused with ACCESS_ERR (R405, R505, R508, R609). -/
def Obligations.SomeAccessesReachNoRegister : Prop :=
  (∀ (d : Device) (v : View) (a : Nat) (x : Word), reserved a = true → regWrite d v a x = d) ∧
  (∀ (d : Device) (v : View) (a : Nat), reserved a = true → a < 0x300000 → liveWord d v a = 0) ∧
  (∀ (d : Device) (v : View) (a : Nat) (x : Word), 0x300000 ≤ a → a < 0x304000 → regWrite d v a x = d) ∧
  (∀ (d : Device) (a : Nat) (acc : Access), pcieOpen d = false → Machine.access d .pcie a acc = d) ∧
  (∀ (d : Device) (a : Nat), running d = true → coreReady d = false → recovery d = false →
    readAccess d .pcie a = emit d (.read [0xFFFFFFFF])) ∧
  (∀ (d : Device) (a : Nat) (b : Word), pcieOpen d = true → a < 2 ^ 24 →
    SameButRegs [Reg.GLB_ACC_ADDR, Reg.GLB_EVENT] d (Machine.access d .pcie a (.partialBytes b)) ∧
    flag (Machine.access d .pcie a (.partialBytes b)) Reg.GLB_EVENT 4 = true)

/-- A valid write of a CORE or QUEn configuration register through the PCIe or SPI view takes its writable bits from the word and
keeps the others; every other register and all the rest of the device stay as they are (R11, R513). -/
def Obligations.ConfigurationWritesChangeTheirRegisterAlone : Prop :=
  (∀ (v : View) (a : Nat) (x : Word) (i : RegInfo), v ≠ .fw → 0x180000 ≤ a → a < 0x1B5000 → cntInfo a = none →
    regInfo a = some i → i.w1c = 0 →
    Effect (fun w => .registerWrite w v a (.whole x))
      (fun d => reaches d v = true ∧ valueOk d a x.toNat = true ∧ (rweAt d a).1 = false)
      (fun d => wr d a (merge (rd d a) (Nat.lor i.rw i.rwe) x.toNat))) ∧
  (∀ (d : Device) (a n : Nat), rd (wr d a n) a = n % 2 ^ 32 ∧ SameButRegs [a] d (wr d a n))

/-- Writing ones to an event register clears those bits and no others, and changes no other register and no counter (R517). -/
def Obligations.EventsClearByWritingOnes : Prop :=
  ∀ (d : Device) (a : Nat) (x k : Nat),
    rd (clearEvents d a x) a = rd d a - Nat.land (rd d a) x ∧
    (bit x k = true → flag (clearEvents d a x) a k = false) ∧
    (bit x k = false → flag (clearEvents d a x) a k = flag d a k) ∧
    (∀ b, b ≠ a → rd (clearEvents d a x) b = rd d b) ∧
    (clearEvents d a x).cnts = d.cnts

/-- GLB_LOCK takes its first write after a reset and locks; a later write changes nothing but LOCK_VIOL and the address it notes;
a power-on reset and a device reset unlock it (R514, R610). -/
def Obligations.TheLockTakesItsFirstWriteOnly : Prop :=
  (∀ (d : Device) (v : View) (x : Nat), d.bus.wolLocked = false →
    rd (lockWrite d v x) Reg.GLB_LOCK = bits x 1 0 ∧ (lockWrite d v x).bus = { d.bus with wolLocked := true } ∧
    (∀ b, b ≠ Reg.GLB_LOCK → rd (lockWrite d v x) b = rd d b)) ∧
  (∀ (d : Device) (v : View) (x : Nat), d.bus.wolLocked = true →
    SameButRegs [Reg.GLB_LOCKV_ADDR, Reg.GLB_EVENT] d (lockWrite d v x) ∧ flag (lockWrite d v x) Reg.GLB_EVENT 1 = true ∧
    rd (lockWrite d v x) Reg.GLB_LOCKV_ADDR = Reg.GLB_LOCK + 2 ^ 24 * viewNum v + 2 ^ 31) ∧
  (∀ (d : Device), (deviceReset d).bus.wolLocked = false) ∧
  (∀ (d : Device) (cause src : Nat), (powerOnHeld d cause src).bus.wolLocked = false)

/-- A companion write applies the pending value only where the same view wrote it at most 64 control-bus cycles before, it is the
register's key, and the companion is its complement; otherwise nothing is applied and PP_FAIL is set (R515). -/
def Obligations.PairProtectionAppliesOnlyTheWholeSequence : Prop :=
  (∀ (d : Device) (v : View) (a : Nat) (x : Word) (t t0 : Nat),
    ppPending d a = some (viewNum v, x, t0) → t ≤ t0 + ppWindow → ppKey a = some x.toNat →
    ppComp d v a (~~~x) t = ppApply (setPending d a none) v a x) ∧
  (∀ (d : Device) (v : View) (a : Nat) (x : Word) (t : Nat),
    (¬ ∃ p, ppPending d a = some p ∧ p.1 = viewNum v ∧ t ≤ p.2.2 + ppWindow ∧ x = ~~~p.2.1 ∧ ppKey a = some p.2.1.toNat) →
    flag (ppComp d v a x t) Reg.GLB_EVENT 2 = true ∧
    (∀ b, b ≠ Reg.GLB_PP_ADDR → b ≠ Reg.GLB_EVENT → rd (ppComp d v a x t) b = rd d b) ∧
    { ppComp d v a x t with regs := d.regs, parityBad := d.parityBad, bus := d.bus, fresh := d.fresh } = d) ∧
  (∀ (d : Device) (v : View) (a : Nat) (x : Word) (t n t0 : Nat) (y : Word),
    ppPending d a = some (n, y, t0) → n ≠ viewNum v → t ≤ t0 + ppWindow →
    ppPending (ppWrite d v a x t) a = some (n, y, t0) ∧ flag (ppWrite d v a x t) Reg.GLB_EVENT 2 = true ∧
    (∀ b, b ≠ Reg.GLB_PP_ADDR → b ≠ Reg.GLB_EVENT → rd (ppWrite d v a x t) b = rd d b)) ∧
  ppWindow * 8 = 64 * 32

/-- A read of a group's low word returns it and latches the other words for the view; a read of an upper word returns the latched
word and releases it, or the live word where none is latched; no register changes (R510, R511). -/
def Obligations.GroupReadsLatchTheirUpperWords : Prop :=
  ∀ (d : Device) (v : View) (a n : Nat),
    (∀ m k, parityCheck d a m k = d) →
    (groupOf a = some (a, n) → takeAt a = none →
      (regRead d v a).emitted = .read [w32 (liveWord d v a)] :: d.emitted ∧ (regRead d v a).regs = d.regs ∧
      (∀ k, 1 ≤ k → k < n →
        tget (fun _ => none) (regRead d v a).bus.shadow (viewKey v (a + 4 * k)) = some (w32 (liveWord d v (a + 4 * k)))) ∧
      (∀ j, (∀ k, 1 ≤ k → k < n → j ≠ viewKey v (a + 4 * k)) →
        tget (fun _ => none) (regRead d v a).bus.shadow j = tget (fun _ => none) d.bus.shadow j)) ∧
    (∀ lo x, groupOf a = some (lo, n) → a ≠ lo → tget (fun _ => none) d.bus.shadow (viewKey v a) = some x →
      regRead d v a = modBus (emit d (.read [x])) (fun b => { b with shadow := tset (fun _ => none) b.shadow (viewKey v a) none })) ∧
    (∀ lo, groupOf a = some (lo, n) → a ≠ lo → tget (fun _ => none) d.bus.shadow (viewKey v a) = none →
      regRead d v a = emit d (.read [w32 (liveWord d v a)]))

/-- Performance counters wrap from 2^48 − 1 to 0 and set their sticky bits: those of PMC in PMC_OVF_LO and PMC_OVF_HI, those of an
engine in its CNT_OVF; short of that they add one and set none (R455). -/
def Obligations.EngineCountersWrapAndSetTheirBit : Prop :=
  (∀ (d : Device) (g : Fin 64),
    (cnt d (Reg.PMC_G_LO g) = 2 ^ 48 - 1 →
      cnt (bump d (Reg.PMC_G_LO g)) (Reg.PMC_G_LO g) = 0 ∧
      flag (bump d (Reg.PMC_G_LO g)) (if g.val < 32 then Reg.PMC_OVF_LO else Reg.PMC_OVF_HI) (g.val % 32) = true) ∧
    (cnt d (Reg.PMC_G_LO g) < 2 ^ 48 - 1 →
      bump d (Reg.PMC_G_LO g) = setCnt d (Reg.PMC_G_LO g) (cnt d (Reg.PMC_G_LO g) + 1))) ∧
  (∀ (d : Device) (e : Fin 16) (k : Fin 4), cnt d (Reg.ENG_FE_CNT_LO e k) = 2 ^ 48 - 1 →
    cnt (bump d (Reg.ENG_FE_CNT_LO e k)) (Reg.ENG_FE_CNT_LO e k) = 0 ∧
    flag (bump d (Reg.ENG_FE_CNT_LO e k)) (Reg.ENG_FE_CNT_OVF e) k = true) ∧
  (∀ (d : Device) (m : Fin 2) (k : Fin 4), cnt d (Reg.ENG_ME_CNT_LO m k) = 2 ^ 48 - 1 →
    cnt (bump d (Reg.ENG_ME_CNT_LO m k)) (Reg.ENG_ME_CNT_LO m k) = 0 ∧
    flag (bump d (Reg.ENG_ME_CNT_LO m k)) (Reg.ENG_ME_CNT_OVF m) k = true) ∧
  (2 ^ 48 + 625000000) / 1250000000 = 225180

/-- The rings' memory in BAR2 holds what the host writes: each of the four bytes reads as written, every other byte as before, and
no register changes (R480, R505). -/
def Obligations.RingMemoryHoldsWhatIsWritten : Prop :=
  ∀ (a k j : Nat) (x : Word), a % 4 = 0 → a < 0x80000 → k < 4 → ¬ (a ≤ j ∧ j < a + 4) →
    Effect (fun w => .registerWrite w .pcie (2 ^ 24 + a) (.whole x)) (fun d => pcieOpen d = true) (fun d => barWrite d a x) ∧
    (∀ d, tget (fun _ => (0 : Byte)) (barWrite d a x).cmd.bar2 (a + k) = BitVec.ofNat 8 (x.toNat / 2 ^ (8 * k)) ∧
      tget (fun _ => (0 : Byte)) (barWrite d a x).cmd.bar2 j = tget (fun _ => (0 : Byte)) d.cmd.bar2 j ∧
      (barWrite d a x).regs = d.regs)

/-! ### Commands, faults and redundancy -/

/-- Fences hold back their own origin and no other: a command with FENCE_BEFORE leaves fence wait only when every earlier command
of its origin has completed, and none commits past an earlier command with FENCE_AFTER that has not (R473). -/
def Obligations.FencesHoldBackTheirOriginAlone : Prop :=
  (∀ (d : Device) (c x : InFlight), fencesBefore c = true → c.aux = [] → x ∈ d.cmd.inflight → x.origin = c.origin →
    x.seq < c.seq → x.stage ≠ .done → fenceEnd d c = d ∧ mayCommit d c = false) ∧
  (∀ (d : Device) (c x : InFlight), x ∈ d.cmd.inflight → x.origin = c.origin → x.seq < c.seq → fencesAfter x = true →
    x.stage ≠ .done → mayCommit d c = false) ∧
  (∀ (d e : Device) (c : InFlight),
    d.cmd.inflight.filter (fun x => x.origin == c.origin) = e.cmd.inflight.filter (fun x => x.origin == c.origin) →
    fenceOver d c = fenceOver e c ∧ heldBack d c = heldBack e c)

/-- A command whose header check fails completes with the check's status and DETAIL and has no other effect: ports, lanes, switch,
time, measurement, engines, faults and redundancy stay as they are (R469). -/
def Obligations.HeaderFaultsHaveNoOtherEffect : Prop :=
  ∀ (d : Device) (ws : List Word) (f : Nat × Nat),
    (∀ x, x ∈ d.cmd.inflight → x.seq < d.cmd.nextSeq) → f.1 ≠ 0 →
    headerFault d { origin := .firmware, opcode := (packetOf ws).1, pkt := (packetOf ws).2, vlans := [], stage := .wait,
                    seq := d.cmd.nextSeq }
      (d.cmd.inflight.any (fun c => c.origin == .firmware && c.pkt.tag == (packetOf ws).2.tag)) = some f →
    let e := accept d .firmware ws [] false
    e.cmd.inflight = d.cmd.inflight ∧ (∃ r, e.emitted = .reply .firmware r :: d.emitted ∧ r.length = 5 ∧ r.getLast? = some (w32 f.2)) ∧
    e = { d with cmd := e.cmd, cnts := e.cnts, regs := e.regs, parityBad := e.parityBad, emitted := e.emitted }

/-- Refused actions change nothing but the event that says so: a Shears release with a class-S record active, a forced takeover of
a member that is neither STANDBY nor ACTIVE; and in recovery a command that recovery does not carry out completes with NO_RESOURCE
(R546, R577, R607). -/
def Obligations.RefusedActionsChangeOnlyTheirEvent : Prop :=
  (∀ (d : Device), classActive d 3 = true →
    SameButRegs [Reg.FLT_EVENT] d (shearsRelease d) ∧ flag (shearsRelease d) Reg.FLT_EVENT 4 = true) ∧
  (∀ (d : Device), graftSt d ≤ 2 →
    SameButRegs [Reg.RED_EVENT] d (graftForce d) ∧ flag (graftForce d) Reg.RED_EVENT 13 = true) ∧
  (∀ (d : Device), graftSt d = 3 → graftForce d = d) ∧
  (∀ (d : Device), graftSt d = 4 → graftForce d = outEnable (setGraft d 3)) ∧
  (∀ (d : Device) (c : InFlight), recovery d = true → inRecovery c.opcode = false → c.pkt.chain = false →
    commitOne d c = complete (modInflight d c.seq (fun c => { c with at_ := d.dev, aux := [] })) c.seq stNoResource [0])

/-- A write of FLT_PIN takes effect when ME1 carries it out, and during a pulse at the pulse's end (R542). -/
def Obligations.FaultPinWritesWaitForMe1AndThePulse : Prop :=
  (∀ (d : Device) (v : View) (x : Word), v ≠ .fw →
    regWrite d v Reg.FLT_PIN x = modFlt d (fun s => { s with requests := s.requests ++ [(viewNum v, Reg.FLT_PIN, x, d.dev)] })) ∧
  (∀ (d : Device) (v : View) (x : Word) (t : Nat), d.flt.requests = [(viewNum v, Reg.FLT_PIN, x, t)] →
    fltNext d = pinWrite (modFlt d (fun s => { s with requests := [] })) x.toNat) ∧
  (∀ (d : Device) (x : Nat), d.flt.pulseEnd = none →
    flag (pinWrite d x) Reg.FLT_PIN 0 = bit x 0 ∧ SameButRegs [Reg.FLT_PIN] d (pinWrite d x)) ∧
  (∀ (d : Device) (x t : Nat), d.flt.pulseEnd = some t →
    (pinWrite d x).regs = d.regs ∧
    (∀ (now : Nat), t ≤ now →
      flag (pulseDone { pinWrite d x with now := now }) Reg.FLT_PIN 0 = bit x 0 ∧
      (pulseDone { pinWrite d x with now := now }).flt.pulseEnd = none))

/-- Reset leaves what the spec states: no command waits, the device is held in power-on reset with no PCIe link, FAULT_N low and
ASSERT set, every port DISABLED with no latency tolerance, every side's claim unmade, and GLB_LOCK open (R541, R600, R610, R614). -/
def Obligations.ResetLeavesTheStatedValues : Prop :=
  State.reset.pending = [] ∧ State.reset.dev.pwr.resetHeld = true ∧ State.reset.dev.pwr.pcieUp = false ∧
  flag State.reset.dev Reg.FLT_PIN 0 = true ∧ faultNLow State.reset.dev = true ∧
  (∀ n : Fin 40, portSt State.reset.dev n = 0 ∧ rd State.reset.dev (Reg.GLB_LT_PORT n) = 0xFFFFF) ∧
  rd State.reset.dev Reg.GLB_LT_DEV = 0 ∧ State.reset.dev.bus.wolLocked = false ∧ graftSt State.reset.dev = 0 ∧
  shears State.reset.dev = false ∧ State.reset.dev.flt.records = [] ∧ State.reset.dev.tb.keeper = 0
end

