-- ==== Sys2Proof/Laws/Rows.lean ====
section
/-! SUPPORT. One lemma per row: what the dispatch runs for it, as time that passes, an effect and the settling. The lemmas about a
row's own effect cite these and never unfold the dispatch. -/

namespace Sys2Proof.Machine

set_option Elab.async false

open Sys2Proof

@[simp] theorem exec_devInfo (w : Nat) (o : Origin) (p : Pkt) (s : State) :
    exec (.devInfo w o p) s = run w s (fun d => packet d o 0x0100 p) := rfl
@[simp] theorem exec_functionReset (w : Nat) (o : Origin) (p : Pkt) (s : State) :
    exec (.functionReset w o p) s = run w s (fun d => packet d o 0x0101 p) := rfl
@[simp] theorem exec_setLatencyTolerance (w : Nat) (o : Origin) (p : Pkt) (s : State) :
    exec (.setLatencyTolerance w o p) s = run w s (fun d => packet d o 0x0102 p) := rfl
@[simp] theorem exec_abort (w : Nat) (o : Origin) (p : Pkt) (s : State) :
    exec (.abort w o p) s = run w s (fun d => packet d o 0x0110 p) := rfl
@[simp] theorem exec_fence (w : Nat) (o : Origin) (p : Pkt) (s : State) :
    exec (.fence w o p) s = run w s (fun d => packet d o 0x0111 p) := rfl
@[simp] theorem exec_portConfig (w : Nat) (o : Origin) (p : Pkt) (s : State) :
    exec (.portConfig w o p) s = run w s (fun d => packet d o 0x0200 p) := rfl
@[simp] theorem exec_portEnable (w : Nat) (o : Origin) (p : Pkt) (s : State) :
    exec (.portEnable w o p) s = run w s (fun d => packet d o 0x0201 p) := rfl
@[simp] theorem exec_portDisable (w : Nat) (o : Origin) (p : Pkt) (s : State) :
    exec (.portDisable w o p) s = run w s (fun d => packet d o 0x0202 p) := rfl
@[simp] theorem exec_portStatus (w : Nat) (o : Origin) (p : Pkt) (s : State) :
    exec (.portStatus w o p) s = run w s (fun d => packet d o 0x0203 p) := rfl
@[simp] theorem exec_laneLadder (w : Nat) (o : Origin) (p : Pkt) (s : State) :
    exec (.laneLadder w o p) s = run w s (fun d => packet d o 0x0204 p) := rfl
@[simp] theorem exec_portRegang (w : Nat) (o : Origin) (p : Pkt) (s : State) :
    exec (.portRegang w o p) s = run w s (fun d => packet d o 0x0205 p) := rfl
@[simp] theorem exec_fdbWrite (w : Nat) (o : Origin) (p : Pkt) (s : State) :
    exec (.fdbWrite w o p) s = run w s (fun d => packet d o 0x0300 p) := rfl
@[simp] theorem exec_fdbRead (w : Nat) (o : Origin) (p : Pkt) (s : State) :
    exec (.fdbRead w o p) s = run w s (fun d => packet d o 0x0301 p) := rfl
@[simp] theorem exec_streamIdWrite (w : Nat) (o : Origin) (p : Pkt) (s : State) :
    exec (.streamIdWrite w o p) s = run w s (fun d => packet d o 0x0302 p) := rfl
@[simp] theorem exec_mcastGroupWrite (w : Nat) (o : Origin) (p : Pkt) (s : State) :
    exec (.mcastGroupWrite w o p) s = run w s (fun d => packet d o 0x0303 p) := rfl
@[simp] theorem exec_queueConfig (w : Nat) (o : Origin) (p : Pkt) (s : State) :
    exec (.queueConfig w o p) s = run w s (fun d => packet d o 0x0400 p) := rfl
@[simp] theorem exec_gateListLoad (w : Nat) (o : Origin) (p : Pkt) (s : State) :
    exec (.gateListLoad w o p) s = run w s (fun d => packet d o 0x0401 p) := rfl
@[simp] theorem exec_gateListSwap (w : Nat) (o : Origin) (p : Pkt) (s : State) :
    exec (.gateListSwap w o p) s = run w s (fun d => packet d o 0x0402 p) := rfl
@[simp] theorem exec_timedLaunch (w : Nat) (o : Origin) (p : Pkt) (s : State) :
    exec (.timedLaunch w o p) s = run w s (fun d => packet d o 0x0403 p) := rfl
@[simp] theorem exec_tbRead (w : Nat) (o : Origin) (p : Pkt) (s : State) :
    exec (.tbRead w o p) s = run w s (fun d => packet d o 0x0500 p) := rfl
@[simp] theorem exec_tbSet (w : Nat) (o : Origin) (p : Pkt) (s : State) :
    exec (.tbSet w o p) s = run w s (fun d => packet d o 0x0501 p) := rfl
@[simp] theorem exec_tbStep (w : Nat) (o : Origin) (p : Pkt) (s : State) :
    exec (.tbStep w o p) s = run w s (fun d => packet d o 0x0502 p) := rfl
@[simp] theorem exec_tbSetIncr (w : Nat) (o : Origin) (p : Pkt) (s : State) :
    exec (.tbSetIncr w o p) s = run w s (fun d => packet d o 0x0503 p) := rfl
@[simp] theorem exec_ptpPortConfig (w : Nat) (o : Origin) (p : Pkt) (s : State) :
    exec (.ptpPortConfig w o p) s = run w s (fun d => packet d o 0x0504 p) := rfl
@[simp] theorem exec_asymSet (w : Nat) (o : Origin) (p : Pkt) (s : State) :
    exec (.asymSet w o p) s = run w s (fun d => packet d o 0x0505 p) := rfl
@[simp] theorem exec_trellisTableLoad (w : Nat) (o : Origin) (p : Pkt) (s : State) :
    exec (.trellisTableLoad w o p) s = run w s (fun d => packet d o 0x0600 p) := rfl
@[simp] theorem exec_trellisForce (w : Nat) (o : Origin) (p : Pkt) (s : State) :
    exec (.trellisForce w o p) s = run w s (fun d => packet d o 0x0601 p) := rfl
@[simp] theorem exec_trellisStatus (w : Nat) (o : Origin) (p : Pkt) (s : State) :
    exec (.trellisStatus w o p) s = run w s (fun d => packet d o 0x0602 p) := rfl
@[simp] theorem exec_dcoSteer (w : Nat) (o : Origin) (p : Pkt) (s : State) :
    exec (.dcoSteer w o p) s = run w s (fun d => packet d o 0x0603 p) := rfl
@[simp] theorem exec_measJobStart (w : Nat) (o : Origin) (p : Pkt) (s : State) :
    exec (.measJobStart w o p) s = run w s (fun d => packet d o 0x0700 p) := rfl
@[simp] theorem exec_measResult (w : Nat) (o : Origin) (p : Pkt) (s : State) :
    exec (.measResult w o p) s = run w s (fun d => packet d o 0x0701 p) := rfl
@[simp] theorem exec_cfIdentity (w : Nat) (o : Origin) (p : Pkt) (s : State) :
    exec (.cfIdentity w o p) s = run w s (fun d => packet d o 0x0702 p) := rfl
@[simp] theorem exec_cfAuditRead (w : Nat) (o : Origin) (p : Pkt) (s : State) :
    exec (.cfAuditRead w o p) s = run w s (fun d => packet d o 0x0703 p) := rfl
@[simp] theorem exec_shaftConfig (w : Nat) (o : Origin) (p : Pkt) (s : State) :
    exec (.shaftConfig w o p) s = run w s (fun d => packet d o 0x0800 p) := rfl
@[simp] theorem exec_shaftMotion (w : Nat) (o : Origin) (p : Pkt) (s : State) :
    exec (.shaftMotion w o p) s = run w s (fun d => packet d o 0x0801 p) := rfl
@[simp] theorem exec_syncPinClaim (w : Nat) (o : Origin) (p : Pkt) (s : State) :
    exec (.syncPinClaim w o p) s = run w s (fun d => packet d o 0x0802 p) := rfl
@[simp] theorem exec_syncPinRelease (w : Nat) (o : Origin) (p : Pkt) (s : State) :
    exec (.syncPinRelease w o p) s = run w s (fun d => packet d o 0x0803 p) := rfl
@[simp] theorem exec_appletLoad (w : Nat) (o : Origin) (p : Pkt) (s : State) :
    exec (.appletLoad w o p) s = run w s (fun d => packet d o 0x0900 p) := rfl
@[simp] theorem exec_appletStart (w : Nat) (o : Origin) (p : Pkt) (s : State) :
    exec (.appletStart w o p) s = run w s (fun d => packet d o 0x0901 p) := rfl
@[simp] theorem exec_appletStop (w : Nat) (o : Origin) (p : Pkt) (s : State) :
    exec (.appletStop w o p) s = run w s (fun d => packet d o 0x0902 p) := rfl
@[simp] theorem exec_pmcConfig (w : Nat) (o : Origin) (p : Pkt) (s : State) :
    exec (.pmcConfig w o p) s = run w s (fun d => packet d o 0x0903 p) := rfl
@[simp] theorem exec_faultRead (w : Nat) (o : Origin) (p : Pkt) (s : State) :
    exec (.faultRead w o p) s = run w s (fun d => packet d o 0x0A00 p) := rfl
@[simp] theorem exec_faultAck (w : Nat) (o : Origin) (p : Pkt) (s : State) :
    exec (.faultAck w o p) s = run w s (fun d => packet d o 0x0A01 p) := rfl
@[simp] theorem exec_faultInjectArm (w : Nat) (o : Origin) (p : Pkt) (s : State) :
    exec (.faultInjectArm w o p) s = run w s (fun d => packet d o 0x0A02 p) := rfl
@[simp] theorem exec_claimStatus (w : Nat) (o : Origin) (p : Pkt) (s : State) :
    exec (.claimStatus w o p) s = run w s (fun d => packet d o 0x0B00 p) := rfl
@[simp] theorem exec_sidePrefer (w : Nat) (o : Origin) (p : Pkt) (s : State) :
    exec (.sidePrefer w o p) s = run w s (fun d => packet d o 0x0B01 p) := rfl
@[simp] theorem exec_graftJoin (w : Nat) (o : Origin) (p : Pkt) (s : State) :
    exec (.graftJoin w o p) s = run w s (fun d => packet d o 0x0B02 p) := rfl
@[simp] theorem exec_graftLeave (w : Nat) (o : Origin) (p : Pkt) (s : State) :
    exec (.graftLeave w o p) s = run w s (fun d => packet d o 0x0B03 p) := rfl
@[simp] theorem exec_bankRetire (w : Nat) (o : Origin) (p : Pkt) (s : State) :
    exec (.bankRetire w o p) s = run w s (fun d => packet d o 0x0C00 p) := rfl
@[simp] theorem exec_bankRestore (w : Nat) (o : Origin) (p : Pkt) (s : State) :
    exec (.bankRestore w o p) s = run w s (fun d => packet d o 0x0C01 p) := rfl
@[simp] theorem exec_imageWrite (w : Nat) (o : Origin) (p : Pkt) (s : State) :
    exec (.imageWrite w o p) s = run w s (fun d => packet d o 0x0D00 p) := rfl
@[simp] theorem exec_imageActivate (w : Nat) (o : Origin) (p : Pkt) (s : State) :
    exec (.imageActivate w o p) s = run w s (fun d => packet d o 0x0D01 p) := rfl
@[simp] theorem exec_cmdSqDoorbell (w : Nat) (v : View) (k : Fin 4) (x : Word) (s : State) :
    exec (.cmdSqDoorbell w v k x) s = run w s (fun d => viewWrite d v (Reg.CMD_SQ_TAIL k) (fun d => sqDoorbell d k x.toNat)) := rfl
@[simp] theorem exec_cmdRingReset (w : Nat) (v : View) (k : Fin 4) (x : Word) (s : State) :
    exec (.cmdRingReset w v k x) s = run w s (fun d => viewWrite d v (Reg.CMD_RING_CTL k) (fun d => ringCtl d k x.toNat)) := rfl
@[simp] theorem exec_cmdCqHeadWrite (w : Nat) (v : View) (k : Fin 4) (x : Word) (s : State) :
    exec (.cmdCqHeadWrite w v k x) s = run w s (fun d => viewWrite d v (Reg.CMD_CQ_HEAD k) (fun d => cqHead d k x.toNat)) := rfl
@[simp] theorem exec_coalUsExpiry (w : Nat) (k : Fin 4) (s : State) :
    exec (.coalUsExpiry w k) s = run w s (fun d => coalExpiry d k) := rfl
@[simp] theorem exec_cmdMbxWdata (w : Nat) (x : Word) (s : State) :
    exec (.cmdMbxWdata w x) s = run w s (fun d => onlyIf (running d) d (fun d => mbxPut d x)) := rfl
@[simp] theorem exec_submit (w : Nat) (s : State) :
    exec (.submit w) s = run w s (fun d => onlyIf (running d) d mbxSubmit) := rfl
@[simp] theorem exec_discard (w : Nat) (s : State) :
    exec (.discard w) s = run w s (fun d => onlyIf (running d) d mbxEmpty) := rfl
@[simp] theorem exec_cmdMbxRdata (w : Nat) (s : State) :
    exec (.cmdMbxRdata w) s = run w s (fun d => onlyIf (running d) d mbxReadWord) := rfl
@[simp] theorem exec_brelyCommand (w : Nat) (bytes : List Byte) (s : State) :
    exec (.brelyCommand w bytes) s = run w s (fun d => brelyCommandFrame d bytes) := rfl
@[simp] theorem exec_fenceWaitEnd (w : Nat) (o : Origin) (tag : BitVec 10) (s : State) :
    exec (.fenceWaitEnd w o tag) s = run w s (fun d =>
    match tagged d o tag (fun c => c.stage == .wait) with
    | some c => fenceEnd d c
    | none => d) := rfl
@[simp] theorem exec_timeout (w : Nat) (o : Origin) (tag : BitVec 10) (s : State) :
    exec (.timeout w o tag) s = run w s (fun d =>
    match tagged d o tag (fun c => running d && timedOut d c) with
    | some c => timeOut d c
    | none => d) := rfl
@[simp] theorem exec_ladderOfferRx (w : Nat) (n : Fin 40) (m : LadderMsg) (s : State) :
    exec (.ladderOfferRx w n m) s = run w s (fun d => ladderIn d n 1 m) := rfl
@[simp] theorem exec_ladderStepRx (w : Nat) (n : Fin 40) (m : LadderMsg) (s : State) :
    exec (.ladderStepRx w n m) s = run w s (fun d => ladderIn d n 2 m) := rfl
@[simp] theorem exec_ladderStepAckRx (w : Nat) (n : Fin 40) (m : LadderMsg) (s : State) :
    exec (.ladderStepAckRx w n m) s = run w s (fun d => ladderIn d n 3 m) := rfl
@[simp] theorem exec_ladderReportRx (w : Nat) (n : Fin 40) (m : LadderMsg) (s : State) :
    exec (.ladderReportRx w n m) s = run w s (fun d => ladderIn d n 4 m) := rfl
@[simp] theorem exec_ladderFinalRx (w : Nat) (n : Fin 40) (m : LadderMsg) (s : State) :
    exec (.ladderFinalRx w n m) s = run w s (fun d => ladderIn d n 5 m) := rfl
@[simp] theorem exec_ladderFinalAckRx (w : Nat) (n : Fin 40) (m : LadderMsg) (s : State) :
    exec (.ladderFinalAckRx w n m) s = run w s (fun d => ladderIn d n 6 m) := rfl
@[simp] theorem exec_ladderAbandonRx (w : Nat) (n : Fin 40) (m : LadderMsg) (s : State) :
    exec (.ladderAbandonRx w n m) s = run w s (fun d => ladderIn d n 7 m) := rfl
@[simp] theorem exec_ladderRepeat (w : Nat) (n : Fin 40) (s : State) :
    exec (.ladderRepeat w n) s = run w s (fun d => ladderRepeat d n) := rfl
@[simp] theorem exec_offerTmo (w : Nat) (n : Fin 40) (s : State) :
    exec (.offerTmo w n) s = run w s (fun d => offerOver d n) := rfl
@[simp] theorem exec_adaptTmo (w : Nat) (n : Fin 40) (s : State) :
    exec (.adaptTmo w n) s = run w s (fun d => adaptOver d n) := rfl
@[simp] theorem exec_adaptReportTmo (w : Nat) (n : Fin 40) (s : State) :
    exec (.adaptReportTmo w n) s = run w s (fun d => reportOver d n) := rfl
@[simp] theorem exec_ladderSwitchDelay (w : Nat) (n : Fin 40) (s : State) :
    exec (.ladderSwitchDelay w n) s = run w s (fun d => switchOver d n) := rfl
@[simp] theorem exec_laneWindowEnd (w : Nat) (n : Fin 40) (hist : List (List Nat)) (s : State) :
    exec (.laneWindowEnd w n hist) s = run w s (fun d => windowEnd d n hist) := rfl
@[simp] theorem exec_cdrLost (w : Nat) (n : Fin 40) (s : State) :
    exec (.cdrLost w n) s = run w s (fun d => cdrLoss d n) := rfl
@[simp] theorem exec_cdrLock (w : Nat) (n : Fin 40) (ppb : Int) (s : State) :
    exec (.cdrLock w n ppb) s = run w s (fun d => cdrGain d n ppb) := rfl
@[simp] theorem exec_coarseSweepDone (w : Nat) (n : Fin 40) (foms : List Nat) (s : State) :
    exec (.coarseSweepDone w n foms) s = run w s (fun d => sweepDone d n foms) := rfl
@[simp] theorem exec_adaptRestart (w : Nat) (v : View) (n : Fin 40) (s : State) :
    exec (.adaptRestart w v n) s = run w s (fun d => viewWrite d v (Reg.LANE_CTL n) (fun d => adaptAgain d n)) := rfl
@[simp] theorem exec_fomMinClr (w : Nat) (v : View) (n : Fin 40) (s : State) :
    exec (.fomMinClr w v n) s = run w s (fun d => viewWrite d v (Reg.LANE_CTL n) (fun d => fomClear d n)) := rfl
@[simp] theorem exec_lanePwrWrite (w : Nat) (v : View) (n : Fin 40) (x : Word) (s : State) :
    exec (.lanePwrWrite w v n x) s = run w s (fun d => viewWrite d v (Reg.LANE_PWR n) (fun d => pwrWrite d n x.toNat)) := rfl
@[simp] theorem exec_lanePowerEntryDone (w : Nat) (n : Fin 40) (dir : Dir) (s : State) :
    exec (.lanePowerEntryDone w n dir) s = run w s (fun d => entryDone d n dir) := rfl
@[simp] theorem exec_laneWakeDone (w : Nat) (n : Fin 40) (dir : Dir) (s : State) :
    exec (.laneWakeDone w n dir) s = run w s (fun d => laneWoken d n dir) := rfl
@[simp] theorem exec_laneTxeqWrite (w : Nat) (v : View) (n : Fin 40) (k : Fin 4) (x : Word) (s : State) :
    exec (.laneTxeqWrite w v n k x) s = run w s (fun d => viewWrite d v (Reg.LANE_TXEQ n k) (fun d => txeqWrite d n k x.toNat)) := rfl
@[simp] theorem exec_prbsCtlWrite (w : Nat) (v : View) (n : Fin 40) (x : Word) (s : State) :
    exec (.prbsCtlWrite w v n x) s = run w s (fun d => viewWrite d v (Reg.LANE_PRBS_CTL n) (fun d => prbsWrite d n x.toNat)) := rfl
@[simp] theorem exec_slip (w : Nat) (n : Fin 40) (dfs : Nat) (s : State) :
    exec (.slip w n dfs) s = run w s (fun d => slipAt d n dfs) := rfl
@[simp] theorem exec_phaseAcqTimer (w : Nat) (n : Fin 40) (s : State) :
    exec (.phaseAcqTimer w n) s = run w s (fun d => acqTimer d n) := rfl
@[simp] theorem exec_phaseWindowPublish (w : Nat) (n : Fin 40) (unwrapped rate : Int) (s : State) :
    exec (.phaseWindowPublish w n unwrapped rate) s = run w s (fun d => windowPublish d n unwrapped rate) := rfl
@[simp] theorem exec_skewMarkerPeriod (w : Nat) (n : Fin 40) (diff : Int) (s : State) :
    exec (.skewMarkerPeriod w n diff) s = run w s (fun d => markerPeriod d n diff) := rfl
@[simp] theorem exec_txAlignErr (w : Nat) (n : Fin 40) (s : State) :
    exec (.txAlignErr w n) s = run w s (fun d => txMisaligned d n) := rfl
@[simp] theorem exec_txRealign (w : Nat) (n : Fin 40) (s : State) :
    exec (.txRealign w n) s = run w s (fun d => txAligned d n) := rfl
@[simp] theorem exec_kTempUpdate (w : Nat) (n : Fin 40) (tjMilli : Int) (s : State) :
    exec (.kTempUpdate w n tjMilli) s = run w s (fun d => kUpdate d n tjMilli) := rfl
@[simp] theorem exec_portAlphaHiWrite (w : Nat) (v : View) (n : Fin 40) (x : Word) (s : State) :
    exec (.portAlphaHiWrite w v n x) s = run w s (fun d => viewWrite d v (Reg.PORT_ALPHA_HI n) (fun d => if absorbed d n then d else alphaHi d v n x.toNat)) := rfl
@[simp] theorem exec_rxFrame (w : Nat) (n : Fin 40) (f : RxFrame) (s : State) :
    exec (.rxFrame w n f) s = run w s (fun d => receiveFrame d n f) := rfl
@[simp] theorem exec_linkFault (w : Nat) (n : Fin 40) (c : LinkCause) (s : State) :
    exec (.linkFault w n c) s = run w s (fun d => linkCause d n c) := rfl
@[simp] theorem exec_linkOkHeld (w : Nat) (n : Fin 40) (s : State) :
    exec (.linkOkHeld w n) s = run w s (fun d => onlyIf (running d) d (fun d => l1Eval (linkHeld d n) n)) := rfl
@[simp] theorem exec_downHoldElapsed (w : Nat) (n : Fin 40) (s : State) :
    exec (.downHoldElapsed w n) s = run w s (fun d => holdOver d n) := rfl
@[simp] theorem exec_recoveryAttemptFail (w : Nat) (n : Fin 40) (s : State) :
    exec (.recoveryAttemptFail w n) s = run w s (fun d => recoveryFail d n) := rfl
@[simp] theorem exec_drainQueuesEmpty (w : Nat) (n : Fin 40) (s : State) :
    exec (.drainQueuesEmpty w n) s = run w s (fun d => drainEmpty d n) := rfl
@[simp] theorem exec_drainTmo (w : Nat) (n : Fin 40) (s : State) :
    exec (.drainTmo w n) s = run w s (fun d => drainOver d n) := rfl
@[simp] theorem exec_linkRestart (w : Nat) (v : View) (n : Fin 40) (s : State) :
    exec (.linkRestart w v n) s = run w s (fun d => viewWrite d v (Reg.PORT_CTL n) (fun d => linkRestart d n)) := rfl
@[simp] theorem exec_l1SyncTlvRx (w : Nat) (n : Fin 40) (flags : BitVec 6) (optParams : Bool) (s : State) :
    exec (.l1SyncTlvRx w n flags optParams) s = run w s (fun d => tlvIn d n flags.toNat) := rfl
@[simp] theorem exec_l1SyncTlvSend (w : Nat) (n : Fin 40) (s : State) :
    exec (.l1SyncTlvSend w n) s = run w s (fun d => tlvOut d n) := rfl
@[simp] theorem exec_l1SyncReceiptTmo (w : Nat) (n : Fin 40) (s : State) :
    exec (.l1SyncReceiptTmo w n) s = run w s (fun d => tlvTmo d n) := rfl
@[simp] theorem exec_l1CfgWrite (w : Nat) (v : View) (n : Fin 40) (x : Word) (s : State) :
    exec (.l1CfgWrite w v n x) s = run w s (fun d => viewWrite d v (Reg.PORT_L1_CFG n) (fun d => l1Cfg d n x.toNat)) := rfl
@[simp] theorem exec_hostFrameInject (w : Nat) (pre : List Word) (bytes : List Byte) (s : State) :
    exec (.hostFrameInject w pre bytes) s = run w s (fun d => hostInject d pre bytes) := rfl
@[simp] theorem exec_frameLink (w : Nat) (pl : Fin 4) (ram : Option RamErr) (s : State) :
    exec (.frameLink w pl ram) s = run w s (fun d => planeLink d pl ram) := rfl
@[simp] theorem exec_rakeGap (w : Nat) (out src : Fin 42) (tc : Fin 8) (s : State) :
    exec (.rakeGap w out src tc) s = run w s (fun d => gapOver d out src tc) := rfl
@[simp] theorem exec_tendedRelease (w : Nat) (out : Fin 42) (s : State) :
    exec (.tendedRelease w out) s = run w s (fun d => tendedGo d out) := rfl
@[simp] theorem exec_ageDrop (w : Nat) (out : Fin 42) (tc : Fin 8) (timed : Bool) (s : State) :
    exec (.ageDrop w out tc timed) s = run w s (fun d => ageExamine d out tc timed) := rfl
@[simp] theorem exec_fdbAgeing (w : Nat) (bucket : Fin 16384) (way : Fin 4) (s : State) :
    exec (.fdbAgeing w bucket way) s = run w s (fun d => fdbAge d bucket way) := rfl
@[simp] theorem exec_recoveryResetTmo (w : Nat) (i : Fin 4097) (s : State) :
    exec (.recoveryResetTmo w i) s = run w s (fun d => recoveryReset d i) := rfl
@[simp] theorem exec_txComplete (w : Nat) (out : Fin 42) (ram : Option RamErr) (s : State) :
    exec (.txComplete w out ram) s = run w s (fun d => wireEnd d out ram) := rfl
@[simp] theorem exec_freeListAudit (w : Nat) (ram : Option RamErr) (s : State) :
    exec (.freeListAudit w ram) s = run w s (fun d => freeAudit d ram) := rfl
@[simp] theorem exec_bankRetired (w : Nat) (b : Fin 16) (s : State) :
    exec (.bankRetired w b) s = run w s (fun d => onlyIf (running d) d (fun d => bankEmpty d b)) := rfl
@[simp] theorem exec_bankTestDone (w : Nat) (b : Fin 16) (pass : Bool) (s : State) :
    exec (.bankTestDone w b pass) s = run w s (fun d => onlyIf (running d) d (fun d => bankTest d b pass)) := rfl
@[simp] theorem exec_bankRateWindow (w : Nat) (b : Fin 16) (s : State) :
    exec (.bankRateWindow w b) s = run w s (fun d => onlyIf (running d) d (fun d => bankWindow d b)) := rfl
@[simp] theorem exec_selectionPoint (w : Nat) (out : Fin 42) (errs : List ReadErr) (ram : Option RamErr) (s : State) :
    exec (.selectionPoint w out errs ram) s = run w s (fun d => onlyIf (ticking d) d (fun d => selectAt (ramErrOpt d ram) out errs)) := rfl
@[simp] theorem exec_timedLaunchReady (w : Nat) (n : Fin 40) (s : State) :
    exec (.timedLaunchReady w n) s = run w s (fun d => onlyIf (ticking d) d (fun d => markReady d n)) := rfl
@[simp] theorem exec_launchTick (w : Nat) (n : Fin 40) (errs : List ReadErr) (s : State) :
    exec (.launchTick w n errs) s = run w s (fun d => onlyIf (ticking d) d (fun d => launchAt d n errs)) := rfl
@[simp] theorem exec_launchDrop (w : Nat) (n : Fin 40) (s : State) :
    exec (.launchDrop w n) s = run w s (fun d => onlyIf (ticking d) d (fun d => launchExpire d n)) := rfl
@[simp] theorem exec_gateBoundary (w : Nat) (n : Fin 40) (s : State) :
    exec (.gateBoundary w n) s = run w s (fun d => onlyIf (ticking d) d (fun d => gateStatus d n)) := rfl
@[simp] theorem exec_gateSwapped (w : Nat) (n : Fin 40) (s : State) :
    exec (.gateSwapped w n) s = run w s (fun d => onlyIf (ticking d) d (fun d => gateSwap d n)) := rfl
@[simp] theorem exec_quegPoolCfgWrite (w : Nat) (v : View) (x : Word) (s : State) :
    exec (.quegPoolCfgWrite w v x) s = run w s (fun d => viewWrite d v Reg.QUEG_POOL_CFG (fun d => poolWrite d x.toNat)) := rfl
@[simp] theorem exec_tbIncrLoWrite (w : Nat) (v : View) (n : Fin 8) (x : Word) (s : State) :
    exec (.tbIncrLoWrite w v n x) s = run w s (fun d => viewWrite d v (Reg.TB_INCR_LO n) (fun d => if n.val = 0 then d else stage d v (Reg.TB_INCR_LO n) x.toNat)) := rfl
@[simp] theorem exec_tbIncrHiWrite (w : Nat) (v : View) (n : Fin 8) (x : Word) (s : State) :
    exec (.tbIncrHiWrite w v n x) s = run w s (fun d => viewWrite d v (Reg.TB_INCR_HI n) (fun d => incrHi d v n x.toNat)) := rfl
@[simp] theorem exec_tbEnableWrite (w : Nat) (v : View) (x : Word) (s : State) :
    exec (.tbEnableWrite w v x) s = run w s (fun d => viewWrite d v Reg.TB_CTL (fun d => tbCtl d x.toNat)) := rfl
@[simp] theorem exec_snap (w : Nat) (v : View) (s : State) :
    exec (.snap w v) s = run w s (fun d => viewWrite d v Reg.TB_CTL (fun d => onlyIf (ticking d) d snapshot)) := rfl
@[simp] theorem exec_scheduledStep (w : Nat) (n : Fin 8) (s : State) :
    exec (.scheduledStep w n) s = run w s (fun d => onlyIf (ticking d) d (fun d => schedDue d n)) := rfl
@[simp] theorem exec_slewDone (w : Nat) (n : Fin 8) (s : State) :
    exec (.slewDone w n) s = run w s (fun d => onlyIf (running d) d (fun d => slewEnd d n)) := rfl
@[simp] theorem exec_tbCapRead (w : Nat) (v : View) (first : Bool) (s : State) :
    exec (.tbCapRead w v first) s = run w s (fun d => removeRead d v Reg.TB_CAP_D0 first takeCapture) := rfl
@[simp] theorem exec_trellisLoopUpdate (w : Nat) (x : Side) (s : State) :
    exec (.trellisLoopUpdate w x) s = run w s (fun d => loopDue d (sideNum x)) := rfl
@[simp] theorem exec_qualTimer (w : Nat) (x : Side) (e : Fin 16) (s : State) :
    exec (.qualTimer w x e) s = run w s (fun d => onlyIf (ticking d) d (fun d => qualDue d (sideNum x) e)) := rfl
@[simp] theorem exec_wtrTimer (w : Nat) (x : Side) (e : Fin 16) (s : State) :
    exec (.wtrTimer w x e) s = run w s (fun d => onlyIf (ticking d) d (fun d => wtrDue d (sideNum x) e)) := rfl
@[simp] theorem exec_driftWindowEnd (w : Nat) (x : Side) (e : Fin 16) (s : State) :
    exec (.driftWindowEnd w x e) s = run w s (fun d => onlyIf (ticking d && cValid d (sideNum x) e) d (fun d => driftEnd d (sideNum x) e)) := rfl
@[simp] theorem exec_holdoffElapsed (w : Nat) (x : Side) (s : State) :
    exec (.holdoffElapsed w x) s = run w s (fun d => onlyIf (ticking d) d (fun d => holdoffDue d (sideNum x))) := rfl
@[simp] theorem exec_acqTmo (w : Nat) (x : Side) (s : State) :
    exec (.acqTmo w x) s = run w s (fun d => onlyIf (ticking d) d (fun d => acqDue d (sideNum x))) := rfl
@[simp] theorem exec_modelSample (w : Nat) (x : Side) (s : State) :
    exec (.modelSample w x) s = run w s (fun d => onlyIf (ticking d && decide ((trlOf d (sideNum x)).secAt + secTicks ≤ d.tick)) d (fun d => modelSecond d (sideNum x))) := rfl
@[simp] theorem exec_holdoverDcoWrite (w : Nat) (x : Side) (s : State) :
    exec (.holdoverDcoWrite w x) s = run w s (fun d => onlyIf (ticking d && holdDue d (sideNum x)) d (fun d => holdoverWrite d (sideNum x))) := rfl
@[simp] theorem exec_xchkSecond (w : Nat) (x : Side) (e : Fin 16) (spare mean : Int) (s : State) :
    exec (.xchkSecond w x e spare mean) s = run w s (fun d => onlyIf (ticking d) d (fun d => xchkDue d (sideNum x) e spare mean)) := rfl
@[simp] theorem exec_ptpOffset (w : Nat) (n : Fin 40) (a b c d : Int) (chg0 : Word) (intervalTicks : Nat) (s : State) :
    exec (.ptpOffset w n a b c d chg0 intervalTicks) s = run w s (fun dv => onlyIf (ticking dv && coreReady dv) dv (fun dv => exchange dv n a b c d chg0 intervalTicks)) := rfl
@[simp] theorem exec_rootPllLock (w : Nat) (s : State) :
    exec (.rootPllLock w) s = run w s rootLock := rfl
@[simp] theorem exec_rootUnlock (w : Nat) (s : State) :
    exec (.rootUnlock w) s = run w s rootLost := rfl
@[simp] theorem exec_oscLoss (w : Nat) (s : State) :
    exec (.oscLoss w) s = run w s oscMissing := rfl
@[simp] theorem exec_oscReturn (w : Nat) (s : State) :
    exec (.oscReturn w) s = run w s oscReturn := rfl
@[simp] theorem exec_restarted (w : Nat) (s : State) :
    exec (.restarted w) s = run w s restart := rfl
@[simp] theorem exec_synLock (w : Nat) (x : Side) (s : State) :
    exec (.synLock w x) s = run w s (fun d => synLock d (sideNum x)) := rfl
@[simp] theorem exec_synUnlock (w : Nat) (x : Side) (s : State) :
    exec (.synUnlock w x) s = run w s (fun d => synUnlock d (sideNum x)) := rfl
@[simp] theorem exec_coreDivReq (w : Nat) (v : View) (x : Word) (s : State) :
    exec (.coreDivReq w v x) s = run w s (fun d => viewWrite d v Reg.CLK_ROOT_CTL (fun d => wrImage d Reg.CLK_ROOT_CTL x.toNat)) := rfl
@[simp] theorem exec_coreDivDone (w : Nat) (s : State) :
    exec (.coreDivDone w) s = run w s (fun d => onlyIf (running d) d divDone) := rfl
@[simp] theorem exec_synSlewMove (w : Nat) (x : Side) (s : State) :
    exec (.synSlewMove w x) s = run w s (fun d => onlyIf (running d) d (fun d => slewMove d (sideNum x))) := rfl
@[simp] theorem exec_ppsOutPulse (w : Nat) (s : State) :
    exec (.ppsOutPulse w) s = run w s ppsPulse := rfl
@[simp] theorem exec_ppsPulseEnd (w : Nat) (s : State) :
    exec (.ppsPulseEnd w) s = run w s (fun d => onlyIf (ticking d) d ppsEnd) := rfl
@[simp] theorem exec_lockmonRefresh (w : Nat) (s : State) :
    exec (.lockmonRefresh w) s = run w s (fun d => onlyIf (running d && !d.clk.oscLost) d lockRefresh) := rfl
@[simp] theorem exec_meterCalStart (w : Nat) (s : State) :
    exec (.meterCalStart w) s = run w s (fun d => onlyIf (ticking d) d calStart) := rfl
@[simp] theorem exec_calDone (w : Nat) (m : MeterId) (r : CalResult) (s : State) :
    exec (.calDone w m r) s = run w s (fun d => onlyIf (ticking d) d (fun d => calEnd d (meterKey m) r)) := rfl
@[simp] theorem exec_shadowBlockEnd (w : Nat) (m : MeterId) (mean : Int) (rms : Nat) (s : State) :
    exec (.shadowBlockEnd w m mean rms) s = run w s (fun d => onlyIf (ticking d) d (fun d => shadowEnd d (meterKey m) mean rms)) := rfl
@[simp] theorem exec_ringPeriodCheck (w : Nat) (m : MeterId) (pStart pStop : Nat) (s : State) :
    exec (.ringPeriodCheck w m pStart pStop) s = run w s (fun d => onlyIf (ticking d) d (fun d => ringCheck d (meterKey m) pStart pStop)) := rfl
@[simp] theorem exec_meterEdge (w : Nat) (m : MeterId) (rising : Bool) (c : Conv) (s : State) :
    exec (.meterEdge w m rising c) s = run w s (fun d => edgeIn d (meterKey m) rising c) := rfl
@[simp] theorem exec_measGateClose (w : Nat) (m : MeterId) (s : State) :
    exec (.measGateClose w m) s = run w s (fun d => onlyIf (ticking d) d (fun d =>
    match (meterOf d (meterKey m)).job with
    | some j => gatesTo d (meterKey m) (domNs d j.domain)
    | none => d)) := rfl
@[simp] theorem exec_clkMtrRdW0 (w : Nat) (v : View) (first : Bool) (s : State) :
    exec (.clkMtrRdW0 w v first) s = run w s (fun d => removeRead d v (Reg.CLK_MTR_RD_W 0) first takeRecord) := rfl
@[simp] theorem exec_cfRequest (w : Nat) (s : State) :
    exec (.cfRequest w) s = run w s cfTake := rfl
@[simp] theorem exec_cfReplyRead (w : Nat) (s : State) :
    exec (.cfReplyRead w) s = run w s cfRead := rfl
@[simp] theorem exec_tamperSample (w : Nat) (open0 open1 : Bool) (s : State) :
    exec (.tamperSample w open0 open1) s = run w s (fun d => onlyIf (d.pwr.vdd33 || d.cf.vbatOk) d (fun d => cfSample d open0 open1)) := rfl
@[simp] theorem exec_vbatLow (w : Nat) (s : State) :
    exec (.vbatLow w) s = run w s cfVbatLow := rfl
@[simp] theorem exec_cfPowerFail (w : Nat) (s : State) :
    exec (.cfPowerFail w) s = run w s cfPowerFail := rfl
@[simp] theorem exec_lockstep (w : Nat) (s : State) :
    exec (.lockstep w) s = run w s cfLockstep := rfl
@[simp] theorem exec_cfImageStart (w : Nat) (s : State) :
    exec (.cfImageStart w) s = run w s cfStart := rfl
@[simp] theorem exec_shaftInjection (w : Nat) (i : Fin 4) (s : State) :
    exec (.shaftInjection w i) s = run w s (fun d => onlyIf (ticking d) d (fun d => injectFrame d i)) := rfl
@[simp] theorem exec_syncPinEdge (w : Nat) (j : Fin 16) (s : State) :
    exec (.syncPinEdge w j) s = run w s (fun d => onlyIf (ticking d) d (fun d => pinNext d j)) := rfl
@[simp] theorem exec_shearsEnter (w : Nat) (s : State) :
    exec (.shearsEnter w) s = run w s (fun d => onlyIf (running d) d shearsEnter) := rfl
@[simp] theorem exec_haltFrameDone (w : Nat) (n : Fin 40) (s : State) :
    exec (.haltFrameDone w n) s = run w s (fun d => onlyIf (ticking d) d (fun d => haltDone d n)) := rfl
@[simp] theorem exec_timeRead (w : Nat) (e : Fin 16) (s : State) :
    exec (.timeRead w e) s = run w s (fun d => service d e (svcTimeRead e)) := rfl
@[simp] theorem exec_waitUntil (w : Nat) (e : Fin 16) (t : WaitTarget) (s : State) :
    exec (.waitUntil w e t) s = run w s (fun d => service d e (svcWaitUntil e t)) := rfl
@[simp] theorem exec_waitUntilWake (w : Nat) (e : Fin 16) (s : State) :
    exec (.waitUntilWake w e) s = run w s (fun d => waitWake d e) := rfl
@[simp] theorem exec_frameSend (w : Nat) (e : Fin 16) (pre : List Word) (bytes : List Byte) (s : State) :
    exec (.frameSend w e pre bytes) s = run w s (fun d => service d e (svcFrameSend e pre bytes)) := rfl
@[simp] theorem exec_msgPut (w : Nat) (e : Fin 16) (ws : List Word) (s : State) :
    exec (.msgPut w e ws) s = run w s (fun d => service d e (svcMsgPut e ws)) := rfl
@[simp] theorem exec_msgGet (w : Nat) (e : Fin 16) (s : State) :
    exec (.msgGet w e) s = run w s (fun d => service d e (svcMsgGet e)) := rfl
@[simp] theorem exec_command (w : Nat) (e : Fin 16) (opcode : BitVec 16) (p : Pkt) (s : State) :
    exec (.command w e opcode p) s = run w s (fun d => service d e (svcCommand e opcode.toNat p)) := rfl
@[simp] theorem exec_pmcRead (w : Nat) (e : Fin 16) (c : PmcCounter) (s : State) :
    exec (.pmcRead w e c) s = run w s (fun d => service d e (svcPmcRead e c)) := rfl
@[simp] theorem exec_wdtKick (w : Nat) (e : Fin 16) (s : State) :
    exec (.wdtKick w e) s = run w s (fun d => service d e (svcWdtKick e)) := rfl
@[simp] theorem exec_exit (w : Nat) (e : Fin 16) (s : State) :
    exec (.exit w e) s = run w s (fun d => service d e (svcExit e)) := rfl
@[simp] theorem exec_violation (w : Nat) (e : Fin 16) (addr : Word) (k : AccessKind) (s : State) :
    exec (.violation w e addr k) s = run w s (fun d =>
    onlyIf (running d && feRuns d e && (applet d e).waiting.isNone) d (fun d => appletViolation d e addr.toNat k)) := rfl
@[simp] theorem exec_wdtExpired (w : Nat) (e : Fin 16) (s : State) :
    exec (.wdtExpired w e) s = run w s (fun d => onlyIf (running d && feRuns d e && wdtOut d e) d (fun d => appletWdt d e)) := rfl
@[simp] theorem exec_appletStopped (w : Nat) (e : Fin 16) (s : State) :
    exec (.appletStopped w e) s = run w s (fun d => onlyIf (running d) d (fun d => appletStops d e)) := rfl
@[simp] theorem exec_toFull (w : Nat) (v : View) (e : Fin 16) (s : State) :
    exec (.toFull w v e) s = run w s (fun d => viewWrite d v (Reg.ENG_FE_MBOX_CTL e) (fun d =>
    onlyIf (isApplet e) d (fun d => setFlag d (Reg.ENG_FE_MBOX_CTL e) 0 true))) := rfl
@[simp] theorem exec_fromFullClear (w : Nat) (v : View) (e : Fin 16) (s : State) :
    exec (.fromFullClear w v e) s = run w s (fun d => viewWrite d v (Reg.ENG_FE_MBOX_CTL e) (fun d => setFlag d (Reg.ENG_FE_MBOX_CTL e) 1 false)) := rfl
@[simp] theorem exec_globalEn (w : Nat) (v : View) (x : Word) (s : State) :
    exec (.globalEn w v x) s = run w s (fun d => viewWrite d v Reg.PMC_CTL (fun d => wrImage d Reg.PMC_CTL x.toNat)) := rfl
@[simp] theorem exec_pmcSmpCtlWrite (w : Nat) (v : View) (b : Fin 5) (x : Word) (s : State) :
    exec (.pmcSmpCtlWrite w v b x) s = run w s (fun d => viewWrite d v (Reg.PMC_SMP_CTL b) (fun d => smpCtl d b x.toNat)) := rfl
@[simp] theorem exec_pmcSmpRead (w : Nat) (v : View) (b : Fin 5) (first : Bool) (s : State) :
    exec (.pmcSmpRead w v b first) s = run w s (fun d => removeRead d v (Reg.PMC_SMP_D b 0) first (takeSample b)) := rfl
@[simp] theorem exec_registerWrite (w : Nat) (v : View) (addr : Nat) (x : Access) (s : State) :
    exec (.registerWrite w v addr x) s = run w s (fun d => access d v addr x) := rfl
@[simp] theorem exec_eventClear (w : Nat) (v : View) (addr : Nat) (x : Word) (s : State) :
    exec (.eventClear w v addr x) s = run w s (fun d => onlyIf (isEventReg addr) d (fun d => access d v addr (.whole x))) := rfl
@[simp] theorem exec_glbSrcEnWrite (w : Nat) (v : View) (x : Word) (s : State) :
    exec (.glbSrcEnWrite w v x) s = run w s (fun d => viewWrite d v Reg.GLB_SRC_EN (fun d => srcEnWrite d x.toNat)) := rfl
@[simp] theorem exec_glbLock (w : Nat) (v : View) (x : Word) (s : State) :
    exec (.glbLock w v x) s = run w s (fun d => viewWrite d v Reg.GLB_LOCK (fun d => lockWrite d v x.toNat)) := rfl
@[simp] theorem exec_ppFail (w : Nat) (v : View) (addr : Nat) (s : State) :
    exec (.ppFail w v addr) s = run w s (fun d => onlyIf (running d) d (fun d => ppElapsed d v addr)) := rfl
@[simp] theorem exec_glbDevReset (w : Nat) (v : View) (x comp : Word) (s : State) :
    exec (.glbDevReset w v x comp) s = run w s (fun d => viewWrite d v Reg.GLB_DEV_RESET (fun d => ppPair d v Reg.GLB_DEV_RESET x comp)) := rfl
@[simp] theorem exec_glbDormant (w : Nat) (v : View) (x comp : Word) (s : State) :
    exec (.glbDormant w v x comp) s = run w s (fun d => viewWrite d v Reg.GLB_DORMANT (fun d => ppPair d v Reg.GLB_DORMANT x comp)) := rfl
@[simp] theorem exec_fltShearsReq (w : Nat) (v : View) (x comp : Word) (s : State) :
    exec (.fltShearsReq w v x comp) s = run w s (fun d => viewWrite d v Reg.FLT_SHEARS_REQ (fun d => ppPair (fltDrain d) v Reg.FLT_SHEARS_REQ x comp)) := rfl
@[simp] theorem exec_fltShearsRel (w : Nat) (v : View) (x comp : Word) (s : State) :
    exec (.fltShearsRel w v x comp) s = run w s (fun d => viewWrite d v Reg.FLT_SHEARS_REL (fun d => ppPair (fltDrain d) v Reg.FLT_SHEARS_REL x comp)) := rfl
@[simp] theorem exec_redGraftForce (w : Nat) (v : View) (x comp : Word) (s : State) :
    exec (.redGraftForce w v x comp) s = run w s (fun d => viewWrite d v Reg.RED_GRAFT_FORCE (fun d => ppPair d v Reg.RED_GRAFT_FORCE x comp)) := rfl
@[simp] theorem exec_fwdSelWrite (w : Nat) (v : View) (x : Word) (s : State) :
    exec (.fwdSelWrite w v x) s = run w s (fun d => viewWrite d v Reg.FWD_SEL (fun d => fwdSel d x.toNat)) := rfl
@[simp] theorem exec_fwdSnapshotDone (w : Nat) (s : State) :
    exec (.fwdSnapshotDone w) s = run w s (fun d => onlyIf (running d) d fwdDone) := rfl
@[simp] theorem exec_fwdClr (w : Nat) (v : View) (s : State) :
    exec (.fwdClr w v) s = run w s (fun d => viewWrite d v Reg.FWD_CLR fwdClear) := rfl
@[simp] theorem exec_parityScan (w : Nat) (addr : Nat) (upset : Bool) (s : State) :
    exec (.parityScan w addr upset) s = run w s (fun d => parityVisit d addr upset) := rfl
@[simp] theorem exec_fltWriteRequest (w : Nat) (s : State) :
    exec (.fltWriteRequest w) s = run w s (fun d => onlyIf (running d) d fltNext) := rfl
@[simp] theorem exec_me1Wdt (w : Nat) (s : State) :
    exec (.me1Wdt w) s = run w s me1Late := rfl
@[simp] theorem exec_safetySelfcheck (w : Nat) (s : State) :
    exec (.safetySelfcheck w) s = run w s selfcheckDiffers := rfl
@[simp] theorem exec_rearm (w : Nat) (v : View) (s : State) :
    exec (.rearm w v) s = run w s (fun d => viewWrite d v Reg.FLT_FEC_CTL fecRearm) := rfl
@[simp] theorem exec_fltPinWrite (w : Nat) (v : View) (x : Word) (s : State) :
    exec (.fltPinWrite w v x) s = run w s (fun d => viewWrite d v Reg.FLT_PIN (fun d => pinWrite d x.toNat)) := rfl
@[simp] theorem exec_faultPulseEnd (w : Nat) (s : State) :
    exec (.faultPulseEnd w) s = run w s (fun d => onlyIf (!d.clk.oscLost && !d.pwr.resetHeld) d pulseDone) := rfl
@[simp] theorem exec_factoryModeEnd (w : Nat) (s : State) :
    exec (.factoryModeEnd w) s = run w s (fun d => onlyIf (!d.pwr.resetHeld) d factoryEnds) := rfl
@[simp] theorem exec_brelyClaimSend (w : Nat) (s : State) :
    exec (.brelyClaimSend w) s = run w s (fun d => onlyIf (running d) d brelySend) := rfl
@[simp] theorem exec_brelyClaimRx (w : Nat) (k : Fin 2) (msg : BitVec 24) (s : State) :
    exec (.brelyClaimRx w k msg) s = run w s (fun d => onlyIf (running d) d (fun d => brelyClaim d k msg.toNat)) := rfl
@[simp] theorem exec_claimPinSend (w : Nat) (s : State) :
    exec (.claimPinSend w) s = run w s (fun d => onlyIf (!d.pwr.resetHeld) d (fun d => emit d (.claimPin (ownMessage d false)))) := rfl
@[simp] theorem exec_claimPinRx (w : Nat) (msg : BitVec 24) (s : State) :
    exec (.claimPinRx w msg) s = run w s (fun d => onlyIf (running d) d (fun d => pinClaim d msg.toNat)) := rfl
@[simp] theorem exec_brelyPathTmo (w : Nat) (k : Fin 2) (s : State) :
    exec (.brelyPathTmo w k) s = run w s (fun d => onlyIf (running d) d (fun d => brelyTmo d k)) := rfl
@[simp] theorem exec_pinPathTmo (w : Nat) (s : State) :
    exec (.pinPathTmo w) s = run w s (fun d => onlyIf (running d) d pinTmo) := rfl
@[simp] theorem exec_alignedTimer (w : Nat) (errFs : Int) (s : State) :
    exec (.alignedTimer w errFs) s = run w s (fun d => alignedSet d errFs) := rfl
@[simp] theorem exec_restoreHoldEnd (w : Nat) (s : State) :
    exec (.restoreHoldEnd w) s = run w s (fun d => onlyIf (running d) d restoreEnd) := rfl
@[simp] theorem exec_mirrorRecordSend (w : Nat) (s : State) :
    exec (.mirrorRecordSend w) s = run w s (fun d => onlyIf (running d) d mirrorSend) := rfl
@[simp] theorem exec_mirrorRecordRx (w : Nat) (r : MirrorRec) (s : State) :
    exec (.mirrorRecordRx w r) s = run w s (fun d => onlyIf (running d && coreReady d) d (fun d => mirrorIn d r)) := rfl
@[simp] theorem exec_mirrorDone (w : Nat) (s : State) :
    exec (.mirrorDone w) s = run w s (fun d => onlyIf (running d) d mirrorComplete) := rfl
@[simp] theorem exec_lastGasp (w : Nat) (s : State) :
    exec (.lastGasp w) s = run w s (fun d => onlyIf (!d.pwr.resetHeld) d lastGaspNow) := rfl
@[simp] theorem exec_handoverTmo (w : Nat) (s : State) :
    exec (.handoverTmo w) s = run w s (fun d => onlyIf (running d) d handoverTmo) := rfl
@[simp] theorem exec_pairHoldClr (w : Nat) (v : View) (s : State) :
    exec (.pairHoldClr w v) s = run w s (fun d => viewWrite d v Reg.RED_GRAFT_CTL (fun d => outEnable (setFlag d Reg.RED_GRAFT_STATUS 7 false))) := rfl
@[simp] theorem exec_powerOnResetRelease (w : Nat) (straps : BitVec 6) (s : State) :
    exec (.powerOnResetRelease w straps) s = run w s (fun d => powerRelease d straps.toNat) := rfl
@[simp] theorem exec_brownOut (w : Nat) (rail : Fin 5) (ticks : Nat) (s : State) :
    exec (.brownOut w rail ticks) s = run w s (fun d => brownOut d rail ticks) := rfl
@[simp] theorem exec_resetN (w : Nat) (ticks : Nat) (s : State) :
    exec (.resetN w ticks) s = run w s (fun d => resetLow d ticks) := rfl
@[simp] theorem exec_pcieFundamentalReset (w : Nat) (k : PcieReset) (s : State) :
    exec (.pcieFundamentalReset w k) s = run w s fundamentalReset := rfl
@[simp] theorem exec_safetySelfcheckPass (w : Nat) (pass : Bool) (s : State) :
    exec (.safetySelfcheckPass w pass) s = run w s (fun d => selfcheckEnd d pass) := rfl
@[simp] theorem exec_mainImageVerified (w : Nat) (readErr0 readErr1 : Bool) (s : State) :
    exec (.mainImageVerified w readErr0 readErr1) s = run w s (fun d => onlyIf (running d && d.flt.checkPassed && !d.pwr.imageDone) d (fun d => boot d readErr0 readErr1)) := rfl
@[simp] theorem exec_coreReady (w : Nat) (s : State) :
    exec (.coreReady w) s = run w s (fun d => onlyIf (running d && d.pwr.imageDone && !recovery d && !coreReady d) d coreUp) := rfl
@[simp] theorem exec_wakeN (w : Nat) (ticks : Nat) (s : State) :
    exec (.wakeN w ticks) s = run w s (fun d => onlyIf (decide (msTicks ≤ ticks)) d (fun d => wakeEvent d 1)) := rfl
@[simp] theorem exec_wakeTimer (w : Nat) (s : State) :
    exec (.wakeTimer w) s = run w s timerWake := rfl
@[simp] theorem exec_dormantRailsKept (w : Nat) (s : State) :
    exec (.dormantRailsKept w) s = run w s railsStay := rfl
@[simp] theorem exec_pcsAligned (w : Nat) (n : Fin 40) (s : State) :
    exec (.pcsAligned w n) s = run w s (fun d => pcsAlign d n) := rfl
@[simp] theorem exec_anDone (w : Nat) (n : Fin 40) (rate : Fin 4) (fec : Bool) (s : State) :
    exec (.anDone w n rate fec) s = run w s (fun d => anEnd d n rate fec) := rfl
@[simp] theorem exec_chkLock (w : Nat) (n : Fin 40) (lock : Bool) (errors : Nat) (s : State) :
    exec (.chkLock w n lock errors) s = run w s (fun d => checker d n lock errors) := rfl
@[simp] theorem exec_flashProgrammingDone (w : Nat) (s : State) :
    exec (.flashProgrammingDone w) s = run w s (fun d => onlyIf (running d) d flashDone) := rfl
@[simp] theorem exec_lowPowerWakeDone (w : Nat) (u : WakeUnit) (s : State) :
    exec (.lowPowerWakeDone w u) s = run w s (fun d => onlyIf (running d) d (fun d => wakeDone d u)) := rfl
@[simp] theorem exec_presenceLost (w : Nat) (x : Side) (e : Fin 16) (s : State) :
    exec (.presenceLost w x e) s = run w s (fun d => onlyIf (ticking d && (candOf d (sideNum x) e).present) d (fun d => presenceOf d true (sideNum x) e)) := rfl
@[simp] theorem exec_alignLost (w : Nat) (errFs : Int) (s : State) :
    exec (.alignLost w errFs) s = run w s (fun d => alignedLost d errFs) := rfl
@[simp] theorem exec_diverged (w : Nat) (s : State) :
    exec (.diverged w) s = run w s (fun d => onlyIf (running d) d redEval) := rfl
@[simp] theorem exec_brelyFrameRx (w : Nat) (bytes : List Byte) (s : State) :
    exec (.brelyFrameRx w bytes) s = run w s (fun d => brelyFrame d bytes) := rfl
@[simp] theorem exec_pcieLinkUp (w : Nat) (s : State) :
    exec (.pcieLinkUp w) s = run w s (fun d => onlyIf (running d) d (fun d => modPwr d (fun p => { p with pcieUp := true }))) := rfl
@[simp] theorem exec_groupLowWordRead (w : Nat) (v : View) (addr : Nat) (s : State) :
    exec (.groupLowWordRead w v addr) s = run w s (fun d => readAccess d v addr) := rfl

end Sys2Proof.Machine
end

