-- ==== Sys2Proof/Laws/Effect.lean ====
section
/-! SUPPORT. What the own-effect statements are proved from: a row that runs f has effect E where f and E agree; an update under a
condition that holds; a write of a view that reaches the registers. -/

namespace Sys2Proof.Machine

set_option Elab.async false

open Sys2Proof

/-- A row that runs f has the own effect E wherever f is E. -/
theorem effect_of_run {c : Nat → Instr} {H : Device → Prop} {E f : Device → Device}
    (hrun : ∀ w s, exec (c w) s = run w s f) (heq : ∀ d, H d → f d = E d) : Effect c H E := by
  intro w s h
  rw [hrun, run, heq _ h]

/-- An update under a condition that holds is made. -/
@[simp] theorem onlyIf_true (d : Device) (f : Device → Device) : onlyIf true d f = f d := rfl

/-- An update under a condition that fails leaves the device as it is. -/
@[simp] theorem onlyIf_false (d : Device) (f : Device → Device) : onlyIf false d f = d := rfl

/-- A write of a view that reaches the registers takes its effect. -/
theorem viewWrite_of_reaches {d : Device} {v : View} (a : Nat) (f : Device → Device) (h : reaches d v = true) :
    viewWrite d v a f = f d := by
  cases v <;> simp_all [reaches, viewWrite]

/-- A read of a view that reaches the registers takes its effect. -/
theorem viewRead_of_open {d : Device} {v : View} (f : Device → Device)
    (h : (match v with | .pcie => pcieOpen d | _ => running d) = true) : viewRead d v f = f d := by
  cases v <;> simp_all [viewRead]

/-- A running device is not held in reset, and its clocks are not gated. -/
theorem running_iff (d : Device) : running d = true ↔ d.pwr.resetHeld = false ∧ d.clk.gated = false := by
  simp [running]

/-- Where the tick is delivered, the clocks run. -/
theorem running_of_ticking {d : Device} (h : ticking d = true) : running d = true := by
  simp only [ticking, Bool.and_eq_true] at h
  exact h.1

end Sys2Proof.Machine
end

