-- ==== Sys2Proof/Laws/Sparse.lean ====
section
/-! SUPPORT. Sparse tables: reading after writing, and the canonical form, which every table operation keeps. -/

namespace Sys2Proof.Machine

set_option Elab.async false

variable {α : Type}

/-- A dropped key reads as the default. -/
@[simp] theorem tget_tdrop_self (d : Nat → α) (t : Table α) (k : Nat) : tget d (tdrop t k) k = d k := by
  induction t with
  | nil => rfl
  | cons e t ih => simp only [tdrop]; split <;> simp_all [tget]

/-- Dropping a key leaves every other one. -/
@[simp] theorem tget_tdrop_other (d : Nat → α) (t : Table α) {k j : Nat} (h : j ≠ k) : tget d (tdrop t k) j = tget d t j := by
  induction t with
  | nil => rfl
  | cons e t ih =>
    simp only [tdrop, tget]
    split
    · rename_i hk; rw [ih, if_neg (fun hj => h (hj.symm.trans hk))]
    · simp only [tget, ih]

/-- A put key reads as the value put. -/
@[simp] theorem tget_tput_self (d : Nat → α) (t : Table α) (k : Nat) (v : α) : tget d (tput t k v) k = v := by
  induction t with
  | nil => simp [tput, tget]
  | cons e t ih => simp only [tput]; split <;> (try split) <;> simp_all [tget]

/-- Putting a key leaves every other one. -/
@[simp] theorem tget_tput_other (d : Nat → α) (t : Table α) {k j : Nat} (v : α) (h : j ≠ k) :
    tget d (tput t k v) j = tget d t j := by
  induction t with
  | nil => simp [tput, tget, h.symm]
  | cons e t ih =>
    simp only [tput]
    split
    · rename_i hk; simp only [tget, if_neg h.symm, hk]
    · split <;> simp [tget, ih, h.symm]

/-- What is sorted above a bound is sorted above a smaller one. -/
theorem tsorted_mono {b c : Option Nat} (t : Table α) (h : ∀ m, c = some m → ∃ n, b = some n ∧ m ≤ n) (hs : tsorted b t = true) :
    tsorted c t = true := by
  cases t with
  | nil => cases c <;> rfl
  | cons e t =>
    cases c with
    | none => cases b <;> simp_all [tsorted]
    | some m =>
      obtain ⟨n, rfl, hn⟩ := h m rfl
      simp only [tsorted, Bool.and_eq_true, decide_eq_true_eq] at hs ⊢
      exact ⟨by omega, hs.2⟩

/-- Dropping a key keeps the order. -/
theorem tsorted_tdrop (b : Option Nat) (t : Table α) (k : Nat) (h : tsorted b t = true) : tsorted b (tdrop t k) = true := by
  induction t generalizing b with
  | nil => exact h
  | cons e t ih =>
    have ht : tsorted (some e.1) t = true := by cases b <;> simp_all [tsorted]
    simp only [tdrop]
    split
    · refine ih _ (tsorted_mono t ?_ ht)
      intro m hm; subst hm
      simp only [tsorted, Bool.and_eq_true, decide_eq_true_eq] at h
      exact ⟨_, rfl, by omega⟩
    · have := ih _ ht
      cases b <;> simp_all [tsorted]

/-- Putting a key above the bound keeps the order. -/
theorem tsorted_tput (b : Option Nat) (t : Table α) (k : Nat) (v : α) (hb : ∀ m, b = some m → m < k) (h : tsorted b t = true) :
    tsorted b (tput t k v) = true := by
  induction t generalizing b with
  | nil => cases b <;> simp_all [tput, tsorted]
  | cons e t ih =>
    have ht : tsorted (some e.1) t = true := by cases b <;> simp_all [tsorted]
    simp only [tput]
    split
    · rename_i hk; subst hk; cases b <;> simp_all [tsorted]
    · split
      · cases b <;> simp_all [tsorted]
      · have := ih (some e.1) (by intro m hm; cases hm; omega) ht
        cases b <;> simp_all [tsorted]

/-- A dropped table's entries are the table's. -/
theorem mem_tdrop {t : Table α} {k : Nat} {e : Nat × α} (h : e ∈ tdrop t k) : e ∈ t := by
  induction t with
  | nil => exact h
  | cons f t ih =>
    simp only [tdrop] at h
    split at h
    · exact List.mem_cons_of_mem _ (ih h)
    · cases h with
      | head => exact List.mem_cons_self
      | tail _ h => exact List.mem_cons_of_mem _ (ih h)

/-- A put table's entries are the table's and the one put. -/
theorem mem_tput {t : Table α} {k : Nat} {v : α} {e : Nat × α} (h : e ∈ tput t k v) : e ∈ t ∨ e = (k, v) := by
  induction t with
  | nil => simp_all [tput]
  | cons f t ih =>
    simp only [tput] at h
    split at h
    · rcases List.mem_cons.mp h with h | h
      · exact Or.inr h
      · exact Or.inl (List.mem_cons_of_mem _ h)
    · split at h
      · rcases List.mem_cons.mp h with h | h
        · exact Or.inr h
        · exact Or.inl h
      · simp only [List.mem_cons] at h ⊢
        rcases h with h | h
        · exact Or.inl (Or.inl h)
        · rcases ih h with h | h
          · exact Or.inl (Or.inr h)
          · exact Or.inr h

/-- A filtered table keeps the order. -/
theorem tsorted_filter (b : Option Nat) (t : Table α) (p : Nat × α → Bool) (h : tsorted b t = true) :
    tsorted b (t.filter p) = true := by
  induction t generalizing b with
  | nil => exact h
  | cons e t ih =>
    have ht : tsorted (some e.1) t = true := by cases b <;> simp_all [tsorted]
    simp only [List.filter_cons]
    split
    · have := ih _ ht
      cases b <;> simp_all [tsorted]
    · refine tsorted_mono _ ?_ (ih _ ht)
      intro m hm; subst hm
      simp only [tsorted, Bool.and_eq_true, decide_eq_true_eq] at h
      exact ⟨_, rfl, by omega⟩

/-- Values replaced under their keys keep the order. -/
theorem tsorted_map (b : Option Nat) (t : Table α) (f : Nat × α → α) (h : tsorted b t = true) :
    tsorted b (t.map (fun e => (e.1, f e))) = true := by
  induction t generalizing b with
  | nil => exact h
  | cons e t ih =>
    have ht : tsorted (some e.1) t = true := by cases b <;> simp_all [tsorted]
    have := ih _ ht
    cases b <;> simp_all [tsorted]

variable [DecidableEq α]

/-- Reading what was written. -/
@[simp] theorem tget_tset_self (d : Nat → α) (t : Table α) (k : Nat) (v : α) : tget d (tset d t k v) k = v := by
  unfold tset; split <;> simp_all

/-- A write leaves every other key. -/
@[simp] theorem tget_tset_other (d : Nat → α) (t : Table α) {k j : Nat} (v : α) (h : j ≠ k) :
    tget d (tset d t k v) j = tget d t j := by
  unfold tset; split <;> simp_all

/-- A write keeps the canonical form: registers, ring bytes, flash bytes and every table of per-unit records. -/
theorem twf_tset (d : Nat → α) (t : Table α) (k : Nat) (v : α) (h : twf d t = true) : twf d (tset d t k v) = true := by
  simp only [twf, Bool.and_eq_true, List.all_eq_true, decide_eq_true_eq] at h ⊢
  unfold tset
  split
  · exact ⟨tsorted_tdrop _ _ _ h.1, fun e he => h.2 e (mem_tdrop he)⟩
  · rename_i hv
    refine ⟨tsorted_tput _ _ _ _ (by intro m hm; cases hm) h.1, fun e he => ?_⟩
    rcases mem_tput he with he | rfl
    · exact h.2 e he
    · exact hv

/-- Replacing a value keeps the canonical form. -/
theorem twf_tmod (d : Nat → α) (t : Table α) (k : Nat) (f : α → α) (h : twf d t = true) : twf d (tmod d t k f) = true :=
  twf_tset d t k _ h

/-- Replacing every value keeps the canonical form. -/
theorem twf_tmap (d : Nat → α) (f : α → α) (t : Table α) (h : twf d t = true) : twf d (tmap d f t) = true := by
  simp only [twf, Bool.and_eq_true] at h ⊢
  refine ⟨tsorted_filter _ _ _ (tsorted_map _ _ (fun e => f e.2) h.1), ?_⟩
  simp [tmap]

/-- The empty table, as every one is at reset, has the canonical form. -/
theorem twf_nil (d : Nat → α) : twf d ([] : Table α) = true := rfl

end Sys2Proof.Machine
end

