-- ==== Sys2Proof/Laws/State.lean ====
section
/-! SUPPORT. The device as a record: for every update one lemma per field, what the field is afterwards. No later proof unfolds a
record update. -/

namespace Sys2Proof.Machine

set_option Elab.async false

open Sys2Proof

variable (d : Device)

/-! ### wr -/

@[simp] theorem wr_now (a v : Nat) : (wr d a v).now = d.now := rfl
@[simp] theorem wr_dev (a v : Nat) : (wr d a v).dev = d.dev := rfl
@[simp] theorem wr_tick (a v : Nat) : (wr d a v).tick = d.tick := rfl
@[simp] theorem wr_fresh (a v : Nat) : (wr d a v).fresh = d.fresh := rfl
@[simp] theorem wr_emitted (a v : Nat) : (wr d a v).emitted = d.emitted := rfl
@[simp] theorem wr_fuse (a v : Nat) : (wr d a v).fuse = d.fuse := rfl
@[simp] theorem wr_regs (a v : Nat) : (wr d a v).regs = tset regDflt d.regs a (BitVec.ofNat 32 v) := rfl
@[simp] theorem wr_cnts (a v : Nat) : (wr d a v).cnts = d.cnts := rfl
@[simp] theorem wr_parityBad (a v : Nat) : (wr d a v).parityBad = d.parityBad.filter (fun x => x != a) := rfl
@[simp] theorem wr_bus (a v : Nat) : (wr d a v).bus = d.bus := rfl
@[simp] theorem wr_lanes (a v : Nat) : (wr d a v).lanes = d.lanes := rfl
@[simp] theorem wr_ladders (a v : Nat) : (wr d a v).ladders = d.ladders := rfl
@[simp] theorem wr_ports (a v : Nat) : (wr d a v).ports = d.ports := rfl
@[simp] theorem wr_core (a v : Nat) : (wr d a v).core = d.core := rfl
@[simp] theorem wr_fwd (a v : Nat) : (wr d a v).fwd = d.fwd := rfl
@[simp] theorem wr_outs (a v : Nat) : (wr d a v).outs = d.outs := rfl
@[simp] theorem wr_tb (a v : Nat) : (wr d a v).tb = d.tb := rfl
@[simp] theorem wr_clk (a v : Nat) : (wr d a v).clk = d.clk := rfl
@[simp] theorem wr_trl (a v : Nat) : (wr d a v).trl = d.trl := rfl
@[simp] theorem wr_meters (a v : Nat) : (wr d a v).meters = d.meters := rfl
@[simp] theorem wr_cf (a v : Nat) : (wr d a v).cf = d.cf := rfl
@[simp] theorem wr_syn (a v : Nat) : (wr d a v).syn = d.syn := rfl
@[simp] theorem wr_eng (a v : Nat) : (wr d a v).eng = d.eng := rfl
@[simp] theorem wr_cmd (a v : Nat) : (wr d a v).cmd = d.cmd := rfl
@[simp] theorem wr_flt (a v : Nat) : (wr d a v).flt = d.flt := rfl
@[simp] theorem wr_red (a v : Nat) : (wr d a v).red = d.red := rfl
@[simp] theorem wr_pwr (a v : Nat) : (wr d a v).pwr = d.pwr := rfl
@[simp] theorem wr_occs (a v : Nat) : (wr d a v).occs = d.occs := rfl
@[simp] theorem wr_moves (a v : Nat) : (wr d a v).moves = d.moves := rfl

/-! ### setFld -/

@[simp] theorem setFld_now (a hi lo v : Nat) : (setFld d a hi lo v).now = d.now := rfl
@[simp] theorem setFld_dev (a hi lo v : Nat) : (setFld d a hi lo v).dev = d.dev := rfl
@[simp] theorem setFld_tick (a hi lo v : Nat) : (setFld d a hi lo v).tick = d.tick := rfl
@[simp] theorem setFld_fresh (a hi lo v : Nat) : (setFld d a hi lo v).fresh = d.fresh := rfl
@[simp] theorem setFld_emitted (a hi lo v : Nat) : (setFld d a hi lo v).emitted = d.emitted := rfl
@[simp] theorem setFld_fuse (a hi lo v : Nat) : (setFld d a hi lo v).fuse = d.fuse := rfl
@[simp] theorem setFld_regs (a hi lo v : Nat) : (setFld d a hi lo v).regs = tset regDflt d.regs a (BitVec.ofNat 32 (withBits (rd d a) hi lo v)) := rfl
@[simp] theorem setFld_cnts (a hi lo v : Nat) : (setFld d a hi lo v).cnts = d.cnts := rfl
@[simp] theorem setFld_parityBad (a hi lo v : Nat) : (setFld d a hi lo v).parityBad = d.parityBad.filter (fun x => x != a) := rfl
@[simp] theorem setFld_bus (a hi lo v : Nat) : (setFld d a hi lo v).bus = d.bus := rfl
@[simp] theorem setFld_lanes (a hi lo v : Nat) : (setFld d a hi lo v).lanes = d.lanes := rfl
@[simp] theorem setFld_ladders (a hi lo v : Nat) : (setFld d a hi lo v).ladders = d.ladders := rfl
@[simp] theorem setFld_ports (a hi lo v : Nat) : (setFld d a hi lo v).ports = d.ports := rfl
@[simp] theorem setFld_core (a hi lo v : Nat) : (setFld d a hi lo v).core = d.core := rfl
@[simp] theorem setFld_fwd (a hi lo v : Nat) : (setFld d a hi lo v).fwd = d.fwd := rfl
@[simp] theorem setFld_outs (a hi lo v : Nat) : (setFld d a hi lo v).outs = d.outs := rfl
@[simp] theorem setFld_tb (a hi lo v : Nat) : (setFld d a hi lo v).tb = d.tb := rfl
@[simp] theorem setFld_clk (a hi lo v : Nat) : (setFld d a hi lo v).clk = d.clk := rfl
@[simp] theorem setFld_trl (a hi lo v : Nat) : (setFld d a hi lo v).trl = d.trl := rfl
@[simp] theorem setFld_meters (a hi lo v : Nat) : (setFld d a hi lo v).meters = d.meters := rfl
@[simp] theorem setFld_cf (a hi lo v : Nat) : (setFld d a hi lo v).cf = d.cf := rfl
@[simp] theorem setFld_syn (a hi lo v : Nat) : (setFld d a hi lo v).syn = d.syn := rfl
@[simp] theorem setFld_eng (a hi lo v : Nat) : (setFld d a hi lo v).eng = d.eng := rfl
@[simp] theorem setFld_cmd (a hi lo v : Nat) : (setFld d a hi lo v).cmd = d.cmd := rfl
@[simp] theorem setFld_flt (a hi lo v : Nat) : (setFld d a hi lo v).flt = d.flt := rfl
@[simp] theorem setFld_red (a hi lo v : Nat) : (setFld d a hi lo v).red = d.red := rfl
@[simp] theorem setFld_pwr (a hi lo v : Nat) : (setFld d a hi lo v).pwr = d.pwr := rfl
@[simp] theorem setFld_occs (a hi lo v : Nat) : (setFld d a hi lo v).occs = d.occs := rfl
@[simp] theorem setFld_moves (a hi lo v : Nat) : (setFld d a hi lo v).moves = d.moves := rfl

/-! ### setFlag -/

@[simp] theorem setFlag_now (a k : Nat) (b : Bool) : (setFlag d a k b).now = d.now := rfl
@[simp] theorem setFlag_dev (a k : Nat) (b : Bool) : (setFlag d a k b).dev = d.dev := rfl
@[simp] theorem setFlag_tick (a k : Nat) (b : Bool) : (setFlag d a k b).tick = d.tick := rfl
@[simp] theorem setFlag_fresh (a k : Nat) (b : Bool) : (setFlag d a k b).fresh = d.fresh := rfl
@[simp] theorem setFlag_emitted (a k : Nat) (b : Bool) : (setFlag d a k b).emitted = d.emitted := rfl
@[simp] theorem setFlag_fuse (a k : Nat) (b : Bool) : (setFlag d a k b).fuse = d.fuse := rfl
@[simp] theorem setFlag_regs (a k : Nat) (b : Bool) : (setFlag d a k b).regs = tset regDflt d.regs a (BitVec.ofNat 32 (withBits (rd d a) k k (b2n b))) := rfl
@[simp] theorem setFlag_cnts (a k : Nat) (b : Bool) : (setFlag d a k b).cnts = d.cnts := rfl
@[simp] theorem setFlag_parityBad (a k : Nat) (b : Bool) : (setFlag d a k b).parityBad = d.parityBad.filter (fun x => x != a) := rfl
@[simp] theorem setFlag_bus (a k : Nat) (b : Bool) : (setFlag d a k b).bus = d.bus := rfl
@[simp] theorem setFlag_lanes (a k : Nat) (b : Bool) : (setFlag d a k b).lanes = d.lanes := rfl
@[simp] theorem setFlag_ladders (a k : Nat) (b : Bool) : (setFlag d a k b).ladders = d.ladders := rfl
@[simp] theorem setFlag_ports (a k : Nat) (b : Bool) : (setFlag d a k b).ports = d.ports := rfl
@[simp] theorem setFlag_core (a k : Nat) (b : Bool) : (setFlag d a k b).core = d.core := rfl
@[simp] theorem setFlag_fwd (a k : Nat) (b : Bool) : (setFlag d a k b).fwd = d.fwd := rfl
@[simp] theorem setFlag_outs (a k : Nat) (b : Bool) : (setFlag d a k b).outs = d.outs := rfl
@[simp] theorem setFlag_tb (a k : Nat) (b : Bool) : (setFlag d a k b).tb = d.tb := rfl
@[simp] theorem setFlag_clk (a k : Nat) (b : Bool) : (setFlag d a k b).clk = d.clk := rfl
@[simp] theorem setFlag_trl (a k : Nat) (b : Bool) : (setFlag d a k b).trl = d.trl := rfl
@[simp] theorem setFlag_meters (a k : Nat) (b : Bool) : (setFlag d a k b).meters = d.meters := rfl
@[simp] theorem setFlag_cf (a k : Nat) (b : Bool) : (setFlag d a k b).cf = d.cf := rfl
@[simp] theorem setFlag_syn (a k : Nat) (b : Bool) : (setFlag d a k b).syn = d.syn := rfl
@[simp] theorem setFlag_eng (a k : Nat) (b : Bool) : (setFlag d a k b).eng = d.eng := rfl
@[simp] theorem setFlag_cmd (a k : Nat) (b : Bool) : (setFlag d a k b).cmd = d.cmd := rfl
@[simp] theorem setFlag_flt (a k : Nat) (b : Bool) : (setFlag d a k b).flt = d.flt := rfl
@[simp] theorem setFlag_red (a k : Nat) (b : Bool) : (setFlag d a k b).red = d.red := rfl
@[simp] theorem setFlag_pwr (a k : Nat) (b : Bool) : (setFlag d a k b).pwr = d.pwr := rfl
@[simp] theorem setFlag_occs (a k : Nat) (b : Bool) : (setFlag d a k b).occs = d.occs := rfl
@[simp] theorem setFlag_moves (a k : Nat) (b : Bool) : (setFlag d a k b).moves = d.moves := rfl

/-! ### event -/

@[simp] theorem event_now (a k : Nat) : (event d a k).now = d.now := rfl
@[simp] theorem event_dev (a k : Nat) : (event d a k).dev = d.dev := rfl
@[simp] theorem event_tick (a k : Nat) : (event d a k).tick = d.tick := rfl
@[simp] theorem event_fresh (a k : Nat) : (event d a k).fresh = d.fresh := rfl
@[simp] theorem event_emitted (a k : Nat) : (event d a k).emitted = d.emitted := rfl
@[simp] theorem event_fuse (a k : Nat) : (event d a k).fuse = d.fuse := rfl
@[simp] theorem event_regs (a k : Nat) : (event d a k).regs = tset regDflt d.regs a (BitVec.ofNat 32 (withBits (rd d a) k k 1)) := rfl
@[simp] theorem event_cnts (a k : Nat) : (event d a k).cnts = d.cnts := rfl
@[simp] theorem event_parityBad (a k : Nat) : (event d a k).parityBad = d.parityBad.filter (fun x => x != a) := rfl
@[simp] theorem event_bus (a k : Nat) : (event d a k).bus = d.bus := rfl
@[simp] theorem event_lanes (a k : Nat) : (event d a k).lanes = d.lanes := rfl
@[simp] theorem event_ladders (a k : Nat) : (event d a k).ladders = d.ladders := rfl
@[simp] theorem event_ports (a k : Nat) : (event d a k).ports = d.ports := rfl
@[simp] theorem event_core (a k : Nat) : (event d a k).core = d.core := rfl
@[simp] theorem event_fwd (a k : Nat) : (event d a k).fwd = d.fwd := rfl
@[simp] theorem event_outs (a k : Nat) : (event d a k).outs = d.outs := rfl
@[simp] theorem event_tb (a k : Nat) : (event d a k).tb = d.tb := rfl
@[simp] theorem event_clk (a k : Nat) : (event d a k).clk = d.clk := rfl
@[simp] theorem event_trl (a k : Nat) : (event d a k).trl = d.trl := rfl
@[simp] theorem event_meters (a k : Nat) : (event d a k).meters = d.meters := rfl
@[simp] theorem event_cf (a k : Nat) : (event d a k).cf = d.cf := rfl
@[simp] theorem event_syn (a k : Nat) : (event d a k).syn = d.syn := rfl
@[simp] theorem event_eng (a k : Nat) : (event d a k).eng = d.eng := rfl
@[simp] theorem event_cmd (a k : Nat) : (event d a k).cmd = d.cmd := rfl
@[simp] theorem event_flt (a k : Nat) : (event d a k).flt = d.flt := rfl
@[simp] theorem event_red (a k : Nat) : (event d a k).red = d.red := rfl
@[simp] theorem event_pwr (a k : Nat) : (event d a k).pwr = d.pwr := rfl
@[simp] theorem event_occs (a k : Nat) : (event d a k).occs = d.occs := rfl
@[simp] theorem event_moves (a k : Nat) : (event d a k).moves = d.moves := rfl

/-! ### setCnt -/

@[simp] theorem setCnt_now (a v : Nat) : (setCnt d a v).now = d.now := rfl
@[simp] theorem setCnt_dev (a v : Nat) : (setCnt d a v).dev = d.dev := rfl
@[simp] theorem setCnt_tick (a v : Nat) : (setCnt d a v).tick = d.tick := rfl
@[simp] theorem setCnt_fresh (a v : Nat) : (setCnt d a v).fresh = d.fresh := rfl
@[simp] theorem setCnt_emitted (a v : Nat) : (setCnt d a v).emitted = d.emitted := rfl
@[simp] theorem setCnt_fuse (a v : Nat) : (setCnt d a v).fuse = d.fuse := rfl
@[simp] theorem setCnt_regs (a v : Nat) : (setCnt d a v).regs = d.regs := rfl
@[simp] theorem setCnt_cnts (a v : Nat) : (setCnt d a v).cnts = tset (fun _ => 0) d.cnts a v := rfl
@[simp] theorem setCnt_parityBad (a v : Nat) : (setCnt d a v).parityBad = d.parityBad := rfl
@[simp] theorem setCnt_bus (a v : Nat) : (setCnt d a v).bus = d.bus := rfl
@[simp] theorem setCnt_lanes (a v : Nat) : (setCnt d a v).lanes = d.lanes := rfl
@[simp] theorem setCnt_ladders (a v : Nat) : (setCnt d a v).ladders = d.ladders := rfl
@[simp] theorem setCnt_ports (a v : Nat) : (setCnt d a v).ports = d.ports := rfl
@[simp] theorem setCnt_core (a v : Nat) : (setCnt d a v).core = d.core := rfl
@[simp] theorem setCnt_fwd (a v : Nat) : (setCnt d a v).fwd = d.fwd := rfl
@[simp] theorem setCnt_outs (a v : Nat) : (setCnt d a v).outs = d.outs := rfl
@[simp] theorem setCnt_tb (a v : Nat) : (setCnt d a v).tb = d.tb := rfl
@[simp] theorem setCnt_clk (a v : Nat) : (setCnt d a v).clk = d.clk := rfl
@[simp] theorem setCnt_trl (a v : Nat) : (setCnt d a v).trl = d.trl := rfl
@[simp] theorem setCnt_meters (a v : Nat) : (setCnt d a v).meters = d.meters := rfl
@[simp] theorem setCnt_cf (a v : Nat) : (setCnt d a v).cf = d.cf := rfl
@[simp] theorem setCnt_syn (a v : Nat) : (setCnt d a v).syn = d.syn := rfl
@[simp] theorem setCnt_eng (a v : Nat) : (setCnt d a v).eng = d.eng := rfl
@[simp] theorem setCnt_cmd (a v : Nat) : (setCnt d a v).cmd = d.cmd := rfl
@[simp] theorem setCnt_flt (a v : Nat) : (setCnt d a v).flt = d.flt := rfl
@[simp] theorem setCnt_red (a v : Nat) : (setCnt d a v).red = d.red := rfl
@[simp] theorem setCnt_pwr (a v : Nat) : (setCnt d a v).pwr = d.pwr := rfl
@[simp] theorem setCnt_occs (a v : Nat) : (setCnt d a v).occs = d.occs := rfl
@[simp] theorem setCnt_moves (a v : Nat) : (setCnt d a v).moves = d.moves := rfl

/-! ### emit -/

@[simp] theorem emit_now (e : Emit) : (emit d e).now = d.now := rfl
@[simp] theorem emit_dev (e : Emit) : (emit d e).dev = d.dev := rfl
@[simp] theorem emit_tick (e : Emit) : (emit d e).tick = d.tick := rfl
@[simp] theorem emit_fresh (e : Emit) : (emit d e).fresh = d.fresh := rfl
@[simp] theorem emit_emitted (e : Emit) : (emit d e).emitted = e :: d.emitted := rfl
@[simp] theorem emit_fuse (e : Emit) : (emit d e).fuse = d.fuse := rfl
@[simp] theorem emit_regs (e : Emit) : (emit d e).regs = d.regs := rfl
@[simp] theorem emit_cnts (e : Emit) : (emit d e).cnts = d.cnts := rfl
@[simp] theorem emit_parityBad (e : Emit) : (emit d e).parityBad = d.parityBad := rfl
@[simp] theorem emit_bus (e : Emit) : (emit d e).bus = d.bus := rfl
@[simp] theorem emit_lanes (e : Emit) : (emit d e).lanes = d.lanes := rfl
@[simp] theorem emit_ladders (e : Emit) : (emit d e).ladders = d.ladders := rfl
@[simp] theorem emit_ports (e : Emit) : (emit d e).ports = d.ports := rfl
@[simp] theorem emit_core (e : Emit) : (emit d e).core = d.core := rfl
@[simp] theorem emit_fwd (e : Emit) : (emit d e).fwd = d.fwd := rfl
@[simp] theorem emit_outs (e : Emit) : (emit d e).outs = d.outs := rfl
@[simp] theorem emit_tb (e : Emit) : (emit d e).tb = d.tb := rfl
@[simp] theorem emit_clk (e : Emit) : (emit d e).clk = d.clk := rfl
@[simp] theorem emit_trl (e : Emit) : (emit d e).trl = d.trl := rfl
@[simp] theorem emit_meters (e : Emit) : (emit d e).meters = d.meters := rfl
@[simp] theorem emit_cf (e : Emit) : (emit d e).cf = d.cf := rfl
@[simp] theorem emit_syn (e : Emit) : (emit d e).syn = d.syn := rfl
@[simp] theorem emit_eng (e : Emit) : (emit d e).eng = d.eng := rfl
@[simp] theorem emit_cmd (e : Emit) : (emit d e).cmd = d.cmd := rfl
@[simp] theorem emit_flt (e : Emit) : (emit d e).flt = d.flt := rfl
@[simp] theorem emit_red (e : Emit) : (emit d e).red = d.red := rfl
@[simp] theorem emit_pwr (e : Emit) : (emit d e).pwr = d.pwr := rfl
@[simp] theorem emit_occs (e : Emit) : (emit d e).occs = d.occs := rfl
@[simp] theorem emit_moves (e : Emit) : (emit d e).moves = d.moves := rfl

/-! ### nextFree -/

@[simp] theorem nextFree_now : (nextFree d).now = d.now := rfl
@[simp] theorem nextFree_dev : (nextFree d).dev = d.dev := rfl
@[simp] theorem nextFree_tick : (nextFree d).tick = d.tick := rfl
@[simp] theorem nextFree_fresh : (nextFree d).fresh = d.fresh + 1 := rfl
@[simp] theorem nextFree_emitted : (nextFree d).emitted = d.emitted := rfl
@[simp] theorem nextFree_fuse : (nextFree d).fuse = d.fuse := rfl
@[simp] theorem nextFree_regs : (nextFree d).regs = d.regs := rfl
@[simp] theorem nextFree_cnts : (nextFree d).cnts = d.cnts := rfl
@[simp] theorem nextFree_parityBad : (nextFree d).parityBad = d.parityBad := rfl
@[simp] theorem nextFree_bus : (nextFree d).bus = d.bus := rfl
@[simp] theorem nextFree_lanes : (nextFree d).lanes = d.lanes := rfl
@[simp] theorem nextFree_ladders : (nextFree d).ladders = d.ladders := rfl
@[simp] theorem nextFree_ports : (nextFree d).ports = d.ports := rfl
@[simp] theorem nextFree_core : (nextFree d).core = d.core := rfl
@[simp] theorem nextFree_fwd : (nextFree d).fwd = d.fwd := rfl
@[simp] theorem nextFree_outs : (nextFree d).outs = d.outs := rfl
@[simp] theorem nextFree_tb : (nextFree d).tb = d.tb := rfl
@[simp] theorem nextFree_clk : (nextFree d).clk = d.clk := rfl
@[simp] theorem nextFree_trl : (nextFree d).trl = d.trl := rfl
@[simp] theorem nextFree_meters : (nextFree d).meters = d.meters := rfl
@[simp] theorem nextFree_cf : (nextFree d).cf = d.cf := rfl
@[simp] theorem nextFree_syn : (nextFree d).syn = d.syn := rfl
@[simp] theorem nextFree_eng : (nextFree d).eng = d.eng := rfl
@[simp] theorem nextFree_cmd : (nextFree d).cmd = d.cmd := rfl
@[simp] theorem nextFree_flt : (nextFree d).flt = d.flt := rfl
@[simp] theorem nextFree_red : (nextFree d).red = d.red := rfl
@[simp] theorem nextFree_pwr : (nextFree d).pwr = d.pwr := rfl
@[simp] theorem nextFree_occs : (nextFree d).occs = d.occs := rfl
@[simp] theorem nextFree_moves : (nextFree d).moves = d.moves := rfl

/-! ### occur -/

@[simp] theorem occur_now (o : Occ) : (occur d o).now = d.now := rfl
@[simp] theorem occur_dev (o : Occ) : (occur d o).dev = d.dev := rfl
@[simp] theorem occur_tick (o : Occ) : (occur d o).tick = d.tick := rfl
@[simp] theorem occur_fresh (o : Occ) : (occur d o).fresh = d.fresh := rfl
@[simp] theorem occur_emitted (o : Occ) : (occur d o).emitted = d.emitted := rfl
@[simp] theorem occur_fuse (o : Occ) : (occur d o).fuse = d.fuse := rfl
@[simp] theorem occur_regs (o : Occ) : (occur d o).regs = d.regs := rfl
@[simp] theorem occur_cnts (o : Occ) : (occur d o).cnts = d.cnts := rfl
@[simp] theorem occur_parityBad (o : Occ) : (occur d o).parityBad = d.parityBad := rfl
@[simp] theorem occur_bus (o : Occ) : (occur d o).bus = d.bus := rfl
@[simp] theorem occur_lanes (o : Occ) : (occur d o).lanes = d.lanes := rfl
@[simp] theorem occur_ladders (o : Occ) : (occur d o).ladders = d.ladders := rfl
@[simp] theorem occur_ports (o : Occ) : (occur d o).ports = d.ports := rfl
@[simp] theorem occur_core (o : Occ) : (occur d o).core = d.core := rfl
@[simp] theorem occur_fwd (o : Occ) : (occur d o).fwd = d.fwd := rfl
@[simp] theorem occur_outs (o : Occ) : (occur d o).outs = d.outs := rfl
@[simp] theorem occur_tb (o : Occ) : (occur d o).tb = d.tb := rfl
@[simp] theorem occur_clk (o : Occ) : (occur d o).clk = d.clk := rfl
@[simp] theorem occur_trl (o : Occ) : (occur d o).trl = d.trl := rfl
@[simp] theorem occur_meters (o : Occ) : (occur d o).meters = d.meters := rfl
@[simp] theorem occur_cf (o : Occ) : (occur d o).cf = d.cf := rfl
@[simp] theorem occur_syn (o : Occ) : (occur d o).syn = d.syn := rfl
@[simp] theorem occur_eng (o : Occ) : (occur d o).eng = d.eng := rfl
@[simp] theorem occur_cmd (o : Occ) : (occur d o).cmd = d.cmd := rfl
@[simp] theorem occur_flt (o : Occ) : (occur d o).flt = d.flt := rfl
@[simp] theorem occur_red (o : Occ) : (occur d o).red = d.red := rfl
@[simp] theorem occur_pwr (o : Occ) : (occur d o).pwr = d.pwr := rfl
@[simp] theorem occur_occs (o : Occ) : (occur d o).occs = d.occs ++ [o] := rfl
@[simp] theorem occur_moves (o : Occ) : (occur d o).moves = d.moves := rfl

/-! ### modLane -/

@[simp] theorem modLane_now (n : Nat) (f : Lane → Lane) : (modLane d n f).now = d.now := rfl
@[simp] theorem modLane_dev (n : Nat) (f : Lane → Lane) : (modLane d n f).dev = d.dev := rfl
@[simp] theorem modLane_tick (n : Nat) (f : Lane → Lane) : (modLane d n f).tick = d.tick := rfl
@[simp] theorem modLane_fresh (n : Nat) (f : Lane → Lane) : (modLane d n f).fresh = d.fresh := rfl
@[simp] theorem modLane_emitted (n : Nat) (f : Lane → Lane) : (modLane d n f).emitted = d.emitted := rfl
@[simp] theorem modLane_fuse (n : Nat) (f : Lane → Lane) : (modLane d n f).fuse = d.fuse := rfl
@[simp] theorem modLane_regs (n : Nat) (f : Lane → Lane) : (modLane d n f).regs = d.regs := rfl
@[simp] theorem modLane_cnts (n : Nat) (f : Lane → Lane) : (modLane d n f).cnts = d.cnts := rfl
@[simp] theorem modLane_parityBad (n : Nat) (f : Lane → Lane) : (modLane d n f).parityBad = d.parityBad := rfl
@[simp] theorem modLane_bus (n : Nat) (f : Lane → Lane) : (modLane d n f).bus = d.bus := rfl
@[simp] theorem modLane_lanes (n : Nat) (f : Lane → Lane) : (modLane d n f).lanes = tmod (fun _ => {}) d.lanes n f := rfl
@[simp] theorem modLane_ladders (n : Nat) (f : Lane → Lane) : (modLane d n f).ladders = d.ladders := rfl
@[simp] theorem modLane_ports (n : Nat) (f : Lane → Lane) : (modLane d n f).ports = d.ports := rfl
@[simp] theorem modLane_core (n : Nat) (f : Lane → Lane) : (modLane d n f).core = d.core := rfl
@[simp] theorem modLane_fwd (n : Nat) (f : Lane → Lane) : (modLane d n f).fwd = d.fwd := rfl
@[simp] theorem modLane_outs (n : Nat) (f : Lane → Lane) : (modLane d n f).outs = d.outs := rfl
@[simp] theorem modLane_tb (n : Nat) (f : Lane → Lane) : (modLane d n f).tb = d.tb := rfl
@[simp] theorem modLane_clk (n : Nat) (f : Lane → Lane) : (modLane d n f).clk = d.clk := rfl
@[simp] theorem modLane_trl (n : Nat) (f : Lane → Lane) : (modLane d n f).trl = d.trl := rfl
@[simp] theorem modLane_meters (n : Nat) (f : Lane → Lane) : (modLane d n f).meters = d.meters := rfl
@[simp] theorem modLane_cf (n : Nat) (f : Lane → Lane) : (modLane d n f).cf = d.cf := rfl
@[simp] theorem modLane_syn (n : Nat) (f : Lane → Lane) : (modLane d n f).syn = d.syn := rfl
@[simp] theorem modLane_eng (n : Nat) (f : Lane → Lane) : (modLane d n f).eng = d.eng := rfl
@[simp] theorem modLane_cmd (n : Nat) (f : Lane → Lane) : (modLane d n f).cmd = d.cmd := rfl
@[simp] theorem modLane_flt (n : Nat) (f : Lane → Lane) : (modLane d n f).flt = d.flt := rfl
@[simp] theorem modLane_red (n : Nat) (f : Lane → Lane) : (modLane d n f).red = d.red := rfl
@[simp] theorem modLane_pwr (n : Nat) (f : Lane → Lane) : (modLane d n f).pwr = d.pwr := rfl
@[simp] theorem modLane_occs (n : Nat) (f : Lane → Lane) : (modLane d n f).occs = d.occs := rfl
@[simp] theorem modLane_moves (n : Nat) (f : Lane → Lane) : (modLane d n f).moves = d.moves := rfl

/-! ### modLadder -/

@[simp] theorem modLadder_now (n : Nat) (f : Ladder → Ladder) : (modLadder d n f).now = d.now := rfl
@[simp] theorem modLadder_dev (n : Nat) (f : Ladder → Ladder) : (modLadder d n f).dev = d.dev := rfl
@[simp] theorem modLadder_tick (n : Nat) (f : Ladder → Ladder) : (modLadder d n f).tick = d.tick := rfl
@[simp] theorem modLadder_fresh (n : Nat) (f : Ladder → Ladder) : (modLadder d n f).fresh = d.fresh := rfl
@[simp] theorem modLadder_emitted (n : Nat) (f : Ladder → Ladder) : (modLadder d n f).emitted = d.emitted := rfl
@[simp] theorem modLadder_fuse (n : Nat) (f : Ladder → Ladder) : (modLadder d n f).fuse = d.fuse := rfl
@[simp] theorem modLadder_regs (n : Nat) (f : Ladder → Ladder) : (modLadder d n f).regs = d.regs := rfl
@[simp] theorem modLadder_cnts (n : Nat) (f : Ladder → Ladder) : (modLadder d n f).cnts = d.cnts := rfl
@[simp] theorem modLadder_parityBad (n : Nat) (f : Ladder → Ladder) : (modLadder d n f).parityBad = d.parityBad := rfl
@[simp] theorem modLadder_bus (n : Nat) (f : Ladder → Ladder) : (modLadder d n f).bus = d.bus := rfl
@[simp] theorem modLadder_lanes (n : Nat) (f : Ladder → Ladder) : (modLadder d n f).lanes = d.lanes := rfl
@[simp] theorem modLadder_ladders (n : Nat) (f : Ladder → Ladder) : (modLadder d n f).ladders = tmod (fun _ => {}) d.ladders n f := rfl
@[simp] theorem modLadder_ports (n : Nat) (f : Ladder → Ladder) : (modLadder d n f).ports = d.ports := rfl
@[simp] theorem modLadder_core (n : Nat) (f : Ladder → Ladder) : (modLadder d n f).core = d.core := rfl
@[simp] theorem modLadder_fwd (n : Nat) (f : Ladder → Ladder) : (modLadder d n f).fwd = d.fwd := rfl
@[simp] theorem modLadder_outs (n : Nat) (f : Ladder → Ladder) : (modLadder d n f).outs = d.outs := rfl
@[simp] theorem modLadder_tb (n : Nat) (f : Ladder → Ladder) : (modLadder d n f).tb = d.tb := rfl
@[simp] theorem modLadder_clk (n : Nat) (f : Ladder → Ladder) : (modLadder d n f).clk = d.clk := rfl
@[simp] theorem modLadder_trl (n : Nat) (f : Ladder → Ladder) : (modLadder d n f).trl = d.trl := rfl
@[simp] theorem modLadder_meters (n : Nat) (f : Ladder → Ladder) : (modLadder d n f).meters = d.meters := rfl
@[simp] theorem modLadder_cf (n : Nat) (f : Ladder → Ladder) : (modLadder d n f).cf = d.cf := rfl
@[simp] theorem modLadder_syn (n : Nat) (f : Ladder → Ladder) : (modLadder d n f).syn = d.syn := rfl
@[simp] theorem modLadder_eng (n : Nat) (f : Ladder → Ladder) : (modLadder d n f).eng = d.eng := rfl
@[simp] theorem modLadder_cmd (n : Nat) (f : Ladder → Ladder) : (modLadder d n f).cmd = d.cmd := rfl
@[simp] theorem modLadder_flt (n : Nat) (f : Ladder → Ladder) : (modLadder d n f).flt = d.flt := rfl
@[simp] theorem modLadder_red (n : Nat) (f : Ladder → Ladder) : (modLadder d n f).red = d.red := rfl
@[simp] theorem modLadder_pwr (n : Nat) (f : Ladder → Ladder) : (modLadder d n f).pwr = d.pwr := rfl
@[simp] theorem modLadder_occs (n : Nat) (f : Ladder → Ladder) : (modLadder d n f).occs = d.occs := rfl
@[simp] theorem modLadder_moves (n : Nat) (f : Ladder → Ladder) : (modLadder d n f).moves = d.moves := rfl

/-! ### modPort -/

@[simp] theorem modPort_now (n : Nat) (f : Port → Port) : (modPort d n f).now = d.now := rfl
@[simp] theorem modPort_dev (n : Nat) (f : Port → Port) : (modPort d n f).dev = d.dev := rfl
@[simp] theorem modPort_tick (n : Nat) (f : Port → Port) : (modPort d n f).tick = d.tick := rfl
@[simp] theorem modPort_fresh (n : Nat) (f : Port → Port) : (modPort d n f).fresh = d.fresh := rfl
@[simp] theorem modPort_emitted (n : Nat) (f : Port → Port) : (modPort d n f).emitted = d.emitted := rfl
@[simp] theorem modPort_fuse (n : Nat) (f : Port → Port) : (modPort d n f).fuse = d.fuse := rfl
@[simp] theorem modPort_regs (n : Nat) (f : Port → Port) : (modPort d n f).regs = d.regs := rfl
@[simp] theorem modPort_cnts (n : Nat) (f : Port → Port) : (modPort d n f).cnts = d.cnts := rfl
@[simp] theorem modPort_parityBad (n : Nat) (f : Port → Port) : (modPort d n f).parityBad = d.parityBad := rfl
@[simp] theorem modPort_bus (n : Nat) (f : Port → Port) : (modPort d n f).bus = d.bus := rfl
@[simp] theorem modPort_lanes (n : Nat) (f : Port → Port) : (modPort d n f).lanes = d.lanes := rfl
@[simp] theorem modPort_ladders (n : Nat) (f : Port → Port) : (modPort d n f).ladders = d.ladders := rfl
@[simp] theorem modPort_ports (n : Nat) (f : Port → Port) : (modPort d n f).ports = tmod (fun _ => {}) d.ports n f := rfl
@[simp] theorem modPort_core (n : Nat) (f : Port → Port) : (modPort d n f).core = d.core := rfl
@[simp] theorem modPort_fwd (n : Nat) (f : Port → Port) : (modPort d n f).fwd = d.fwd := rfl
@[simp] theorem modPort_outs (n : Nat) (f : Port → Port) : (modPort d n f).outs = d.outs := rfl
@[simp] theorem modPort_tb (n : Nat) (f : Port → Port) : (modPort d n f).tb = d.tb := rfl
@[simp] theorem modPort_clk (n : Nat) (f : Port → Port) : (modPort d n f).clk = d.clk := rfl
@[simp] theorem modPort_trl (n : Nat) (f : Port → Port) : (modPort d n f).trl = d.trl := rfl
@[simp] theorem modPort_meters (n : Nat) (f : Port → Port) : (modPort d n f).meters = d.meters := rfl
@[simp] theorem modPort_cf (n : Nat) (f : Port → Port) : (modPort d n f).cf = d.cf := rfl
@[simp] theorem modPort_syn (n : Nat) (f : Port → Port) : (modPort d n f).syn = d.syn := rfl
@[simp] theorem modPort_eng (n : Nat) (f : Port → Port) : (modPort d n f).eng = d.eng := rfl
@[simp] theorem modPort_cmd (n : Nat) (f : Port → Port) : (modPort d n f).cmd = d.cmd := rfl
@[simp] theorem modPort_flt (n : Nat) (f : Port → Port) : (modPort d n f).flt = d.flt := rfl
@[simp] theorem modPort_red (n : Nat) (f : Port → Port) : (modPort d n f).red = d.red := rfl
@[simp] theorem modPort_pwr (n : Nat) (f : Port → Port) : (modPort d n f).pwr = d.pwr := rfl
@[simp] theorem modPort_occs (n : Nat) (f : Port → Port) : (modPort d n f).occs = d.occs := rfl
@[simp] theorem modPort_moves (n : Nat) (f : Port → Port) : (modPort d n f).moves = d.moves := rfl

/-! ### modOut -/

@[simp] theorem modOut_now (n : Nat) (f : Output → Output) : (modOut d n f).now = d.now := rfl
@[simp] theorem modOut_dev (n : Nat) (f : Output → Output) : (modOut d n f).dev = d.dev := rfl
@[simp] theorem modOut_tick (n : Nat) (f : Output → Output) : (modOut d n f).tick = d.tick := rfl
@[simp] theorem modOut_fresh (n : Nat) (f : Output → Output) : (modOut d n f).fresh = d.fresh := rfl
@[simp] theorem modOut_emitted (n : Nat) (f : Output → Output) : (modOut d n f).emitted = d.emitted := rfl
@[simp] theorem modOut_fuse (n : Nat) (f : Output → Output) : (modOut d n f).fuse = d.fuse := rfl
@[simp] theorem modOut_regs (n : Nat) (f : Output → Output) : (modOut d n f).regs = d.regs := rfl
@[simp] theorem modOut_cnts (n : Nat) (f : Output → Output) : (modOut d n f).cnts = d.cnts := rfl
@[simp] theorem modOut_parityBad (n : Nat) (f : Output → Output) : (modOut d n f).parityBad = d.parityBad := rfl
@[simp] theorem modOut_bus (n : Nat) (f : Output → Output) : (modOut d n f).bus = d.bus := rfl
@[simp] theorem modOut_lanes (n : Nat) (f : Output → Output) : (modOut d n f).lanes = d.lanes := rfl
@[simp] theorem modOut_ladders (n : Nat) (f : Output → Output) : (modOut d n f).ladders = d.ladders := rfl
@[simp] theorem modOut_ports (n : Nat) (f : Output → Output) : (modOut d n f).ports = d.ports := rfl
@[simp] theorem modOut_core (n : Nat) (f : Output → Output) : (modOut d n f).core = d.core := rfl
@[simp] theorem modOut_fwd (n : Nat) (f : Output → Output) : (modOut d n f).fwd = d.fwd := rfl
@[simp] theorem modOut_outs (n : Nat) (f : Output → Output) : (modOut d n f).outs = tmod (fun _ => {}) d.outs n f := rfl
@[simp] theorem modOut_tb (n : Nat) (f : Output → Output) : (modOut d n f).tb = d.tb := rfl
@[simp] theorem modOut_clk (n : Nat) (f : Output → Output) : (modOut d n f).clk = d.clk := rfl
@[simp] theorem modOut_trl (n : Nat) (f : Output → Output) : (modOut d n f).trl = d.trl := rfl
@[simp] theorem modOut_meters (n : Nat) (f : Output → Output) : (modOut d n f).meters = d.meters := rfl
@[simp] theorem modOut_cf (n : Nat) (f : Output → Output) : (modOut d n f).cf = d.cf := rfl
@[simp] theorem modOut_syn (n : Nat) (f : Output → Output) : (modOut d n f).syn = d.syn := rfl
@[simp] theorem modOut_eng (n : Nat) (f : Output → Output) : (modOut d n f).eng = d.eng := rfl
@[simp] theorem modOut_cmd (n : Nat) (f : Output → Output) : (modOut d n f).cmd = d.cmd := rfl
@[simp] theorem modOut_flt (n : Nat) (f : Output → Output) : (modOut d n f).flt = d.flt := rfl
@[simp] theorem modOut_red (n : Nat) (f : Output → Output) : (modOut d n f).red = d.red := rfl
@[simp] theorem modOut_pwr (n : Nat) (f : Output → Output) : (modOut d n f).pwr = d.pwr := rfl
@[simp] theorem modOut_occs (n : Nat) (f : Output → Output) : (modOut d n f).occs = d.occs := rfl
@[simp] theorem modOut_moves (n : Nat) (f : Output → Output) : (modOut d n f).moves = d.moves := rfl

/-! ### modCore -/

@[simp] theorem modCore_now (f : SwitchCore → SwitchCore) : (modCore d f).now = d.now := rfl
@[simp] theorem modCore_dev (f : SwitchCore → SwitchCore) : (modCore d f).dev = d.dev := rfl
@[simp] theorem modCore_tick (f : SwitchCore → SwitchCore) : (modCore d f).tick = d.tick := rfl
@[simp] theorem modCore_fresh (f : SwitchCore → SwitchCore) : (modCore d f).fresh = d.fresh := rfl
@[simp] theorem modCore_emitted (f : SwitchCore → SwitchCore) : (modCore d f).emitted = d.emitted := rfl
@[simp] theorem modCore_fuse (f : SwitchCore → SwitchCore) : (modCore d f).fuse = d.fuse := rfl
@[simp] theorem modCore_regs (f : SwitchCore → SwitchCore) : (modCore d f).regs = d.regs := rfl
@[simp] theorem modCore_cnts (f : SwitchCore → SwitchCore) : (modCore d f).cnts = d.cnts := rfl
@[simp] theorem modCore_parityBad (f : SwitchCore → SwitchCore) : (modCore d f).parityBad = d.parityBad := rfl
@[simp] theorem modCore_bus (f : SwitchCore → SwitchCore) : (modCore d f).bus = d.bus := rfl
@[simp] theorem modCore_lanes (f : SwitchCore → SwitchCore) : (modCore d f).lanes = d.lanes := rfl
@[simp] theorem modCore_ladders (f : SwitchCore → SwitchCore) : (modCore d f).ladders = d.ladders := rfl
@[simp] theorem modCore_ports (f : SwitchCore → SwitchCore) : (modCore d f).ports = d.ports := rfl
@[simp] theorem modCore_core (f : SwitchCore → SwitchCore) : (modCore d f).core = f d.core := rfl
@[simp] theorem modCore_fwd (f : SwitchCore → SwitchCore) : (modCore d f).fwd = d.fwd := rfl
@[simp] theorem modCore_outs (f : SwitchCore → SwitchCore) : (modCore d f).outs = d.outs := rfl
@[simp] theorem modCore_tb (f : SwitchCore → SwitchCore) : (modCore d f).tb = d.tb := rfl
@[simp] theorem modCore_clk (f : SwitchCore → SwitchCore) : (modCore d f).clk = d.clk := rfl
@[simp] theorem modCore_trl (f : SwitchCore → SwitchCore) : (modCore d f).trl = d.trl := rfl
@[simp] theorem modCore_meters (f : SwitchCore → SwitchCore) : (modCore d f).meters = d.meters := rfl
@[simp] theorem modCore_cf (f : SwitchCore → SwitchCore) : (modCore d f).cf = d.cf := rfl
@[simp] theorem modCore_syn (f : SwitchCore → SwitchCore) : (modCore d f).syn = d.syn := rfl
@[simp] theorem modCore_eng (f : SwitchCore → SwitchCore) : (modCore d f).eng = d.eng := rfl
@[simp] theorem modCore_cmd (f : SwitchCore → SwitchCore) : (modCore d f).cmd = d.cmd := rfl
@[simp] theorem modCore_flt (f : SwitchCore → SwitchCore) : (modCore d f).flt = d.flt := rfl
@[simp] theorem modCore_red (f : SwitchCore → SwitchCore) : (modCore d f).red = d.red := rfl
@[simp] theorem modCore_pwr (f : SwitchCore → SwitchCore) : (modCore d f).pwr = d.pwr := rfl
@[simp] theorem modCore_occs (f : SwitchCore → SwitchCore) : (modCore d f).occs = d.occs := rfl
@[simp] theorem modCore_moves (f : SwitchCore → SwitchCore) : (modCore d f).moves = d.moves := rfl

/-! ### modFwd -/

@[simp] theorem modFwd_now (f : Fwd → Fwd) : (modFwd d f).now = d.now := rfl
@[simp] theorem modFwd_dev (f : Fwd → Fwd) : (modFwd d f).dev = d.dev := rfl
@[simp] theorem modFwd_tick (f : Fwd → Fwd) : (modFwd d f).tick = d.tick := rfl
@[simp] theorem modFwd_fresh (f : Fwd → Fwd) : (modFwd d f).fresh = d.fresh := rfl
@[simp] theorem modFwd_emitted (f : Fwd → Fwd) : (modFwd d f).emitted = d.emitted := rfl
@[simp] theorem modFwd_fuse (f : Fwd → Fwd) : (modFwd d f).fuse = d.fuse := rfl
@[simp] theorem modFwd_regs (f : Fwd → Fwd) : (modFwd d f).regs = d.regs := rfl
@[simp] theorem modFwd_cnts (f : Fwd → Fwd) : (modFwd d f).cnts = d.cnts := rfl
@[simp] theorem modFwd_parityBad (f : Fwd → Fwd) : (modFwd d f).parityBad = d.parityBad := rfl
@[simp] theorem modFwd_bus (f : Fwd → Fwd) : (modFwd d f).bus = d.bus := rfl
@[simp] theorem modFwd_lanes (f : Fwd → Fwd) : (modFwd d f).lanes = d.lanes := rfl
@[simp] theorem modFwd_ladders (f : Fwd → Fwd) : (modFwd d f).ladders = d.ladders := rfl
@[simp] theorem modFwd_ports (f : Fwd → Fwd) : (modFwd d f).ports = d.ports := rfl
@[simp] theorem modFwd_core (f : Fwd → Fwd) : (modFwd d f).core = d.core := rfl
@[simp] theorem modFwd_fwd (f : Fwd → Fwd) : (modFwd d f).fwd = f d.fwd := rfl
@[simp] theorem modFwd_outs (f : Fwd → Fwd) : (modFwd d f).outs = d.outs := rfl
@[simp] theorem modFwd_tb (f : Fwd → Fwd) : (modFwd d f).tb = d.tb := rfl
@[simp] theorem modFwd_clk (f : Fwd → Fwd) : (modFwd d f).clk = d.clk := rfl
@[simp] theorem modFwd_trl (f : Fwd → Fwd) : (modFwd d f).trl = d.trl := rfl
@[simp] theorem modFwd_meters (f : Fwd → Fwd) : (modFwd d f).meters = d.meters := rfl
@[simp] theorem modFwd_cf (f : Fwd → Fwd) : (modFwd d f).cf = d.cf := rfl
@[simp] theorem modFwd_syn (f : Fwd → Fwd) : (modFwd d f).syn = d.syn := rfl
@[simp] theorem modFwd_eng (f : Fwd → Fwd) : (modFwd d f).eng = d.eng := rfl
@[simp] theorem modFwd_cmd (f : Fwd → Fwd) : (modFwd d f).cmd = d.cmd := rfl
@[simp] theorem modFwd_flt (f : Fwd → Fwd) : (modFwd d f).flt = d.flt := rfl
@[simp] theorem modFwd_red (f : Fwd → Fwd) : (modFwd d f).red = d.red := rfl
@[simp] theorem modFwd_pwr (f : Fwd → Fwd) : (modFwd d f).pwr = d.pwr := rfl
@[simp] theorem modFwd_occs (f : Fwd → Fwd) : (modFwd d f).occs = d.occs := rfl
@[simp] theorem modFwd_moves (f : Fwd → Fwd) : (modFwd d f).moves = d.moves := rfl

/-! ### modClk -/

@[simp] theorem modClk_now (f : Clocks → Clocks) : (modClk d f).now = d.now := rfl
@[simp] theorem modClk_dev (f : Clocks → Clocks) : (modClk d f).dev = d.dev := rfl
@[simp] theorem modClk_tick (f : Clocks → Clocks) : (modClk d f).tick = d.tick := rfl
@[simp] theorem modClk_fresh (f : Clocks → Clocks) : (modClk d f).fresh = d.fresh := rfl
@[simp] theorem modClk_emitted (f : Clocks → Clocks) : (modClk d f).emitted = d.emitted := rfl
@[simp] theorem modClk_fuse (f : Clocks → Clocks) : (modClk d f).fuse = d.fuse := rfl
@[simp] theorem modClk_regs (f : Clocks → Clocks) : (modClk d f).regs = d.regs := rfl
@[simp] theorem modClk_cnts (f : Clocks → Clocks) : (modClk d f).cnts = d.cnts := rfl
@[simp] theorem modClk_parityBad (f : Clocks → Clocks) : (modClk d f).parityBad = d.parityBad := rfl
@[simp] theorem modClk_bus (f : Clocks → Clocks) : (modClk d f).bus = d.bus := rfl
@[simp] theorem modClk_lanes (f : Clocks → Clocks) : (modClk d f).lanes = d.lanes := rfl
@[simp] theorem modClk_ladders (f : Clocks → Clocks) : (modClk d f).ladders = d.ladders := rfl
@[simp] theorem modClk_ports (f : Clocks → Clocks) : (modClk d f).ports = d.ports := rfl
@[simp] theorem modClk_core (f : Clocks → Clocks) : (modClk d f).core = d.core := rfl
@[simp] theorem modClk_fwd (f : Clocks → Clocks) : (modClk d f).fwd = d.fwd := rfl
@[simp] theorem modClk_outs (f : Clocks → Clocks) : (modClk d f).outs = d.outs := rfl
@[simp] theorem modClk_tb (f : Clocks → Clocks) : (modClk d f).tb = d.tb := rfl
@[simp] theorem modClk_clk (f : Clocks → Clocks) : (modClk d f).clk = f d.clk := rfl
@[simp] theorem modClk_trl (f : Clocks → Clocks) : (modClk d f).trl = d.trl := rfl
@[simp] theorem modClk_meters (f : Clocks → Clocks) : (modClk d f).meters = d.meters := rfl
@[simp] theorem modClk_cf (f : Clocks → Clocks) : (modClk d f).cf = d.cf := rfl
@[simp] theorem modClk_syn (f : Clocks → Clocks) : (modClk d f).syn = d.syn := rfl
@[simp] theorem modClk_eng (f : Clocks → Clocks) : (modClk d f).eng = d.eng := rfl
@[simp] theorem modClk_cmd (f : Clocks → Clocks) : (modClk d f).cmd = d.cmd := rfl
@[simp] theorem modClk_flt (f : Clocks → Clocks) : (modClk d f).flt = d.flt := rfl
@[simp] theorem modClk_red (f : Clocks → Clocks) : (modClk d f).red = d.red := rfl
@[simp] theorem modClk_pwr (f : Clocks → Clocks) : (modClk d f).pwr = d.pwr := rfl
@[simp] theorem modClk_occs (f : Clocks → Clocks) : (modClk d f).occs = d.occs := rfl
@[simp] theorem modClk_moves (f : Clocks → Clocks) : (modClk d f).moves = d.moves := rfl

/-! ### modCmd -/

@[simp] theorem modCmd_now (f : Trobuic → Trobuic) : (modCmd d f).now = d.now := rfl
@[simp] theorem modCmd_dev (f : Trobuic → Trobuic) : (modCmd d f).dev = d.dev := rfl
@[simp] theorem modCmd_tick (f : Trobuic → Trobuic) : (modCmd d f).tick = d.tick := rfl
@[simp] theorem modCmd_fresh (f : Trobuic → Trobuic) : (modCmd d f).fresh = d.fresh := rfl
@[simp] theorem modCmd_emitted (f : Trobuic → Trobuic) : (modCmd d f).emitted = d.emitted := rfl
@[simp] theorem modCmd_fuse (f : Trobuic → Trobuic) : (modCmd d f).fuse = d.fuse := rfl
@[simp] theorem modCmd_regs (f : Trobuic → Trobuic) : (modCmd d f).regs = d.regs := rfl
@[simp] theorem modCmd_cnts (f : Trobuic → Trobuic) : (modCmd d f).cnts = d.cnts := rfl
@[simp] theorem modCmd_parityBad (f : Trobuic → Trobuic) : (modCmd d f).parityBad = d.parityBad := rfl
@[simp] theorem modCmd_bus (f : Trobuic → Trobuic) : (modCmd d f).bus = d.bus := rfl
@[simp] theorem modCmd_lanes (f : Trobuic → Trobuic) : (modCmd d f).lanes = d.lanes := rfl
@[simp] theorem modCmd_ladders (f : Trobuic → Trobuic) : (modCmd d f).ladders = d.ladders := rfl
@[simp] theorem modCmd_ports (f : Trobuic → Trobuic) : (modCmd d f).ports = d.ports := rfl
@[simp] theorem modCmd_core (f : Trobuic → Trobuic) : (modCmd d f).core = d.core := rfl
@[simp] theorem modCmd_fwd (f : Trobuic → Trobuic) : (modCmd d f).fwd = d.fwd := rfl
@[simp] theorem modCmd_outs (f : Trobuic → Trobuic) : (modCmd d f).outs = d.outs := rfl
@[simp] theorem modCmd_tb (f : Trobuic → Trobuic) : (modCmd d f).tb = d.tb := rfl
@[simp] theorem modCmd_clk (f : Trobuic → Trobuic) : (modCmd d f).clk = d.clk := rfl
@[simp] theorem modCmd_trl (f : Trobuic → Trobuic) : (modCmd d f).trl = d.trl := rfl
@[simp] theorem modCmd_meters (f : Trobuic → Trobuic) : (modCmd d f).meters = d.meters := rfl
@[simp] theorem modCmd_cf (f : Trobuic → Trobuic) : (modCmd d f).cf = d.cf := rfl
@[simp] theorem modCmd_syn (f : Trobuic → Trobuic) : (modCmd d f).syn = d.syn := rfl
@[simp] theorem modCmd_eng (f : Trobuic → Trobuic) : (modCmd d f).eng = d.eng := rfl
@[simp] theorem modCmd_cmd (f : Trobuic → Trobuic) : (modCmd d f).cmd = f d.cmd := rfl
@[simp] theorem modCmd_flt (f : Trobuic → Trobuic) : (modCmd d f).flt = d.flt := rfl
@[simp] theorem modCmd_red (f : Trobuic → Trobuic) : (modCmd d f).red = d.red := rfl
@[simp] theorem modCmd_pwr (f : Trobuic → Trobuic) : (modCmd d f).pwr = d.pwr := rfl
@[simp] theorem modCmd_occs (f : Trobuic → Trobuic) : (modCmd d f).occs = d.occs := rfl
@[simp] theorem modCmd_moves (f : Trobuic → Trobuic) : (modCmd d f).moves = d.moves := rfl

/-! ### modFlt -/

@[simp] theorem modFlt_now (f : Safety → Safety) : (modFlt d f).now = d.now := rfl
@[simp] theorem modFlt_dev (f : Safety → Safety) : (modFlt d f).dev = d.dev := rfl
@[simp] theorem modFlt_tick (f : Safety → Safety) : (modFlt d f).tick = d.tick := rfl
@[simp] theorem modFlt_fresh (f : Safety → Safety) : (modFlt d f).fresh = d.fresh := rfl
@[simp] theorem modFlt_emitted (f : Safety → Safety) : (modFlt d f).emitted = d.emitted := rfl
@[simp] theorem modFlt_fuse (f : Safety → Safety) : (modFlt d f).fuse = d.fuse := rfl
@[simp] theorem modFlt_regs (f : Safety → Safety) : (modFlt d f).regs = d.regs := rfl
@[simp] theorem modFlt_cnts (f : Safety → Safety) : (modFlt d f).cnts = d.cnts := rfl
@[simp] theorem modFlt_parityBad (f : Safety → Safety) : (modFlt d f).parityBad = d.parityBad := rfl
@[simp] theorem modFlt_bus (f : Safety → Safety) : (modFlt d f).bus = d.bus := rfl
@[simp] theorem modFlt_lanes (f : Safety → Safety) : (modFlt d f).lanes = d.lanes := rfl
@[simp] theorem modFlt_ladders (f : Safety → Safety) : (modFlt d f).ladders = d.ladders := rfl
@[simp] theorem modFlt_ports (f : Safety → Safety) : (modFlt d f).ports = d.ports := rfl
@[simp] theorem modFlt_core (f : Safety → Safety) : (modFlt d f).core = d.core := rfl
@[simp] theorem modFlt_fwd (f : Safety → Safety) : (modFlt d f).fwd = d.fwd := rfl
@[simp] theorem modFlt_outs (f : Safety → Safety) : (modFlt d f).outs = d.outs := rfl
@[simp] theorem modFlt_tb (f : Safety → Safety) : (modFlt d f).tb = d.tb := rfl
@[simp] theorem modFlt_clk (f : Safety → Safety) : (modFlt d f).clk = d.clk := rfl
@[simp] theorem modFlt_trl (f : Safety → Safety) : (modFlt d f).trl = d.trl := rfl
@[simp] theorem modFlt_meters (f : Safety → Safety) : (modFlt d f).meters = d.meters := rfl
@[simp] theorem modFlt_cf (f : Safety → Safety) : (modFlt d f).cf = d.cf := rfl
@[simp] theorem modFlt_syn (f : Safety → Safety) : (modFlt d f).syn = d.syn := rfl
@[simp] theorem modFlt_eng (f : Safety → Safety) : (modFlt d f).eng = d.eng := rfl
@[simp] theorem modFlt_cmd (f : Safety → Safety) : (modFlt d f).cmd = d.cmd := rfl
@[simp] theorem modFlt_flt (f : Safety → Safety) : (modFlt d f).flt = f d.flt := rfl
@[simp] theorem modFlt_red (f : Safety → Safety) : (modFlt d f).red = d.red := rfl
@[simp] theorem modFlt_pwr (f : Safety → Safety) : (modFlt d f).pwr = d.pwr := rfl
@[simp] theorem modFlt_occs (f : Safety → Safety) : (modFlt d f).occs = d.occs := rfl
@[simp] theorem modFlt_moves (f : Safety → Safety) : (modFlt d f).moves = d.moves := rfl

/-! ### modRed -/

@[simp] theorem modRed_now (f : Red → Red) : (modRed d f).now = d.now := rfl
@[simp] theorem modRed_dev (f : Red → Red) : (modRed d f).dev = d.dev := rfl
@[simp] theorem modRed_tick (f : Red → Red) : (modRed d f).tick = d.tick := rfl
@[simp] theorem modRed_fresh (f : Red → Red) : (modRed d f).fresh = d.fresh := rfl
@[simp] theorem modRed_emitted (f : Red → Red) : (modRed d f).emitted = d.emitted := rfl
@[simp] theorem modRed_fuse (f : Red → Red) : (modRed d f).fuse = d.fuse := rfl
@[simp] theorem modRed_regs (f : Red → Red) : (modRed d f).regs = d.regs := rfl
@[simp] theorem modRed_cnts (f : Red → Red) : (modRed d f).cnts = d.cnts := rfl
@[simp] theorem modRed_parityBad (f : Red → Red) : (modRed d f).parityBad = d.parityBad := rfl
@[simp] theorem modRed_bus (f : Red → Red) : (modRed d f).bus = d.bus := rfl
@[simp] theorem modRed_lanes (f : Red → Red) : (modRed d f).lanes = d.lanes := rfl
@[simp] theorem modRed_ladders (f : Red → Red) : (modRed d f).ladders = d.ladders := rfl
@[simp] theorem modRed_ports (f : Red → Red) : (modRed d f).ports = d.ports := rfl
@[simp] theorem modRed_core (f : Red → Red) : (modRed d f).core = d.core := rfl
@[simp] theorem modRed_fwd (f : Red → Red) : (modRed d f).fwd = d.fwd := rfl
@[simp] theorem modRed_outs (f : Red → Red) : (modRed d f).outs = d.outs := rfl
@[simp] theorem modRed_tb (f : Red → Red) : (modRed d f).tb = d.tb := rfl
@[simp] theorem modRed_clk (f : Red → Red) : (modRed d f).clk = d.clk := rfl
@[simp] theorem modRed_trl (f : Red → Red) : (modRed d f).trl = d.trl := rfl
@[simp] theorem modRed_meters (f : Red → Red) : (modRed d f).meters = d.meters := rfl
@[simp] theorem modRed_cf (f : Red → Red) : (modRed d f).cf = d.cf := rfl
@[simp] theorem modRed_syn (f : Red → Red) : (modRed d f).syn = d.syn := rfl
@[simp] theorem modRed_eng (f : Red → Red) : (modRed d f).eng = d.eng := rfl
@[simp] theorem modRed_cmd (f : Red → Red) : (modRed d f).cmd = d.cmd := rfl
@[simp] theorem modRed_flt (f : Red → Red) : (modRed d f).flt = d.flt := rfl
@[simp] theorem modRed_red (f : Red → Red) : (modRed d f).red = f d.red := rfl
@[simp] theorem modRed_pwr (f : Red → Red) : (modRed d f).pwr = d.pwr := rfl
@[simp] theorem modRed_occs (f : Red → Red) : (modRed d f).occs = d.occs := rfl
@[simp] theorem modRed_moves (f : Red → Red) : (modRed d f).moves = d.moves := rfl

/-! ### modPwr -/

@[simp] theorem modPwr_now (f : Power → Power) : (modPwr d f).now = d.now := rfl
@[simp] theorem modPwr_dev (f : Power → Power) : (modPwr d f).dev = d.dev := rfl
@[simp] theorem modPwr_tick (f : Power → Power) : (modPwr d f).tick = d.tick := rfl
@[simp] theorem modPwr_fresh (f : Power → Power) : (modPwr d f).fresh = d.fresh := rfl
@[simp] theorem modPwr_emitted (f : Power → Power) : (modPwr d f).emitted = d.emitted := rfl
@[simp] theorem modPwr_fuse (f : Power → Power) : (modPwr d f).fuse = d.fuse := rfl
@[simp] theorem modPwr_regs (f : Power → Power) : (modPwr d f).regs = d.regs := rfl
@[simp] theorem modPwr_cnts (f : Power → Power) : (modPwr d f).cnts = d.cnts := rfl
@[simp] theorem modPwr_parityBad (f : Power → Power) : (modPwr d f).parityBad = d.parityBad := rfl
@[simp] theorem modPwr_bus (f : Power → Power) : (modPwr d f).bus = d.bus := rfl
@[simp] theorem modPwr_lanes (f : Power → Power) : (modPwr d f).lanes = d.lanes := rfl
@[simp] theorem modPwr_ladders (f : Power → Power) : (modPwr d f).ladders = d.ladders := rfl
@[simp] theorem modPwr_ports (f : Power → Power) : (modPwr d f).ports = d.ports := rfl
@[simp] theorem modPwr_core (f : Power → Power) : (modPwr d f).core = d.core := rfl
@[simp] theorem modPwr_fwd (f : Power → Power) : (modPwr d f).fwd = d.fwd := rfl
@[simp] theorem modPwr_outs (f : Power → Power) : (modPwr d f).outs = d.outs := rfl
@[simp] theorem modPwr_tb (f : Power → Power) : (modPwr d f).tb = d.tb := rfl
@[simp] theorem modPwr_clk (f : Power → Power) : (modPwr d f).clk = d.clk := rfl
@[simp] theorem modPwr_trl (f : Power → Power) : (modPwr d f).trl = d.trl := rfl
@[simp] theorem modPwr_meters (f : Power → Power) : (modPwr d f).meters = d.meters := rfl
@[simp] theorem modPwr_cf (f : Power → Power) : (modPwr d f).cf = d.cf := rfl
@[simp] theorem modPwr_syn (f : Power → Power) : (modPwr d f).syn = d.syn := rfl
@[simp] theorem modPwr_eng (f : Power → Power) : (modPwr d f).eng = d.eng := rfl
@[simp] theorem modPwr_cmd (f : Power → Power) : (modPwr d f).cmd = d.cmd := rfl
@[simp] theorem modPwr_flt (f : Power → Power) : (modPwr d f).flt = d.flt := rfl
@[simp] theorem modPwr_red (f : Power → Power) : (modPwr d f).red = d.red := rfl
@[simp] theorem modPwr_pwr (f : Power → Power) : (modPwr d f).pwr = f d.pwr := rfl
@[simp] theorem modPwr_occs (f : Power → Power) : (modPwr d f).occs = d.occs := rfl
@[simp] theorem modPwr_moves (f : Power → Power) : (modPwr d f).moves = d.moves := rfl

/-! ### modBus -/

@[simp] theorem modBus_now (f : Bus → Bus) : (modBus d f).now = d.now := rfl
@[simp] theorem modBus_dev (f : Bus → Bus) : (modBus d f).dev = d.dev := rfl
@[simp] theorem modBus_tick (f : Bus → Bus) : (modBus d f).tick = d.tick := rfl
@[simp] theorem modBus_fresh (f : Bus → Bus) : (modBus d f).fresh = d.fresh := rfl
@[simp] theorem modBus_emitted (f : Bus → Bus) : (modBus d f).emitted = d.emitted := rfl
@[simp] theorem modBus_fuse (f : Bus → Bus) : (modBus d f).fuse = d.fuse := rfl
@[simp] theorem modBus_regs (f : Bus → Bus) : (modBus d f).regs = d.regs := rfl
@[simp] theorem modBus_cnts (f : Bus → Bus) : (modBus d f).cnts = d.cnts := rfl
@[simp] theorem modBus_parityBad (f : Bus → Bus) : (modBus d f).parityBad = d.parityBad := rfl
@[simp] theorem modBus_bus (f : Bus → Bus) : (modBus d f).bus = f d.bus := rfl
@[simp] theorem modBus_lanes (f : Bus → Bus) : (modBus d f).lanes = d.lanes := rfl
@[simp] theorem modBus_ladders (f : Bus → Bus) : (modBus d f).ladders = d.ladders := rfl
@[simp] theorem modBus_ports (f : Bus → Bus) : (modBus d f).ports = d.ports := rfl
@[simp] theorem modBus_core (f : Bus → Bus) : (modBus d f).core = d.core := rfl
@[simp] theorem modBus_fwd (f : Bus → Bus) : (modBus d f).fwd = d.fwd := rfl
@[simp] theorem modBus_outs (f : Bus → Bus) : (modBus d f).outs = d.outs := rfl
@[simp] theorem modBus_tb (f : Bus → Bus) : (modBus d f).tb = d.tb := rfl
@[simp] theorem modBus_clk (f : Bus → Bus) : (modBus d f).clk = d.clk := rfl
@[simp] theorem modBus_trl (f : Bus → Bus) : (modBus d f).trl = d.trl := rfl
@[simp] theorem modBus_meters (f : Bus → Bus) : (modBus d f).meters = d.meters := rfl
@[simp] theorem modBus_cf (f : Bus → Bus) : (modBus d f).cf = d.cf := rfl
@[simp] theorem modBus_syn (f : Bus → Bus) : (modBus d f).syn = d.syn := rfl
@[simp] theorem modBus_eng (f : Bus → Bus) : (modBus d f).eng = d.eng := rfl
@[simp] theorem modBus_cmd (f : Bus → Bus) : (modBus d f).cmd = d.cmd := rfl
@[simp] theorem modBus_flt (f : Bus → Bus) : (modBus d f).flt = d.flt := rfl
@[simp] theorem modBus_red (f : Bus → Bus) : (modBus d f).red = d.red := rfl
@[simp] theorem modBus_pwr (f : Bus → Bus) : (modBus d f).pwr = d.pwr := rfl
@[simp] theorem modBus_occs (f : Bus → Bus) : (modBus d f).occs = d.occs := rfl
@[simp] theorem modBus_moves (f : Bus → Bus) : (modBus d f).moves = d.moves := rfl

/-! ### modApplet -/

@[simp] theorem modApplet_now (n : Nat) (f : Applet → Applet) : (modApplet d n f).now = d.now := rfl
@[simp] theorem modApplet_dev (n : Nat) (f : Applet → Applet) : (modApplet d n f).dev = d.dev := rfl
@[simp] theorem modApplet_tick (n : Nat) (f : Applet → Applet) : (modApplet d n f).tick = d.tick := rfl
@[simp] theorem modApplet_fresh (n : Nat) (f : Applet → Applet) : (modApplet d n f).fresh = d.fresh := rfl
@[simp] theorem modApplet_emitted (n : Nat) (f : Applet → Applet) : (modApplet d n f).emitted = d.emitted := rfl
@[simp] theorem modApplet_fuse (n : Nat) (f : Applet → Applet) : (modApplet d n f).fuse = d.fuse := rfl
@[simp] theorem modApplet_regs (n : Nat) (f : Applet → Applet) : (modApplet d n f).regs = d.regs := rfl
@[simp] theorem modApplet_cnts (n : Nat) (f : Applet → Applet) : (modApplet d n f).cnts = d.cnts := rfl
@[simp] theorem modApplet_parityBad (n : Nat) (f : Applet → Applet) : (modApplet d n f).parityBad = d.parityBad := rfl
@[simp] theorem modApplet_bus (n : Nat) (f : Applet → Applet) : (modApplet d n f).bus = d.bus := rfl
@[simp] theorem modApplet_lanes (n : Nat) (f : Applet → Applet) : (modApplet d n f).lanes = d.lanes := rfl
@[simp] theorem modApplet_ladders (n : Nat) (f : Applet → Applet) : (modApplet d n f).ladders = d.ladders := rfl
@[simp] theorem modApplet_ports (n : Nat) (f : Applet → Applet) : (modApplet d n f).ports = d.ports := rfl
@[simp] theorem modApplet_core (n : Nat) (f : Applet → Applet) : (modApplet d n f).core = d.core := rfl
@[simp] theorem modApplet_fwd (n : Nat) (f : Applet → Applet) : (modApplet d n f).fwd = d.fwd := rfl
@[simp] theorem modApplet_outs (n : Nat) (f : Applet → Applet) : (modApplet d n f).outs = d.outs := rfl
@[simp] theorem modApplet_tb (n : Nat) (f : Applet → Applet) : (modApplet d n f).tb = d.tb := rfl
@[simp] theorem modApplet_clk (n : Nat) (f : Applet → Applet) : (modApplet d n f).clk = d.clk := rfl
@[simp] theorem modApplet_trl (n : Nat) (f : Applet → Applet) : (modApplet d n f).trl = d.trl := rfl
@[simp] theorem modApplet_meters (n : Nat) (f : Applet → Applet) : (modApplet d n f).meters = d.meters := rfl
@[simp] theorem modApplet_cf (n : Nat) (f : Applet → Applet) : (modApplet d n f).cf = d.cf := rfl
@[simp] theorem modApplet_syn (n : Nat) (f : Applet → Applet) : (modApplet d n f).syn = d.syn := rfl
@[simp] theorem modApplet_cmd (n : Nat) (f : Applet → Applet) : (modApplet d n f).cmd = d.cmd := rfl
@[simp] theorem modApplet_flt (n : Nat) (f : Applet → Applet) : (modApplet d n f).flt = d.flt := rfl
@[simp] theorem modApplet_red (n : Nat) (f : Applet → Applet) : (modApplet d n f).red = d.red := rfl
@[simp] theorem modApplet_pwr (n : Nat) (f : Applet → Applet) : (modApplet d n f).pwr = d.pwr := rfl
@[simp] theorem modApplet_occs (n : Nat) (f : Applet → Applet) : (modApplet d n f).occs = d.occs := rfl
@[simp] theorem modApplet_moves (n : Nat) (f : Applet → Applet) : (modApplet d n f).moves = d.moves := rfl

/-! ### modTb -/

@[simp] theorem modTb_now (x n : Nat) (f : TimeBase → TimeBase) : (modTb d x n f).now = d.now := rfl
@[simp] theorem modTb_dev (x n : Nat) (f : TimeBase → TimeBase) : (modTb d x n f).dev = d.dev := rfl
@[simp] theorem modTb_tick (x n : Nat) (f : TimeBase → TimeBase) : (modTb d x n f).tick = d.tick := rfl
@[simp] theorem modTb_fresh (x n : Nat) (f : TimeBase → TimeBase) : (modTb d x n f).fresh = d.fresh := rfl
@[simp] theorem modTb_emitted (x n : Nat) (f : TimeBase → TimeBase) : (modTb d x n f).emitted = d.emitted := rfl
@[simp] theorem modTb_fuse (x n : Nat) (f : TimeBase → TimeBase) : (modTb d x n f).fuse = d.fuse := rfl
@[simp] theorem modTb_regs (x n : Nat) (f : TimeBase → TimeBase) : (modTb d x n f).regs = d.regs := rfl
@[simp] theorem modTb_cnts (x n : Nat) (f : TimeBase → TimeBase) : (modTb d x n f).cnts = d.cnts := rfl
@[simp] theorem modTb_parityBad (x n : Nat) (f : TimeBase → TimeBase) : (modTb d x n f).parityBad = d.parityBad := rfl
@[simp] theorem modTb_bus (x n : Nat) (f : TimeBase → TimeBase) : (modTb d x n f).bus = d.bus := rfl
@[simp] theorem modTb_lanes (x n : Nat) (f : TimeBase → TimeBase) : (modTb d x n f).lanes = d.lanes := rfl
@[simp] theorem modTb_ladders (x n : Nat) (f : TimeBase → TimeBase) : (modTb d x n f).ladders = d.ladders := rfl
@[simp] theorem modTb_ports (x n : Nat) (f : TimeBase → TimeBase) : (modTb d x n f).ports = d.ports := rfl
@[simp] theorem modTb_core (x n : Nat) (f : TimeBase → TimeBase) : (modTb d x n f).core = d.core := rfl
@[simp] theorem modTb_fwd (x n : Nat) (f : TimeBase → TimeBase) : (modTb d x n f).fwd = d.fwd := rfl
@[simp] theorem modTb_outs (x n : Nat) (f : TimeBase → TimeBase) : (modTb d x n f).outs = d.outs := rfl
@[simp] theorem modTb_clk (x n : Nat) (f : TimeBase → TimeBase) : (modTb d x n f).clk = d.clk := rfl
@[simp] theorem modTb_trl (x n : Nat) (f : TimeBase → TimeBase) : (modTb d x n f).trl = d.trl := rfl
@[simp] theorem modTb_meters (x n : Nat) (f : TimeBase → TimeBase) : (modTb d x n f).meters = d.meters := rfl
@[simp] theorem modTb_cf (x n : Nat) (f : TimeBase → TimeBase) : (modTb d x n f).cf = d.cf := rfl
@[simp] theorem modTb_syn (x n : Nat) (f : TimeBase → TimeBase) : (modTb d x n f).syn = d.syn := rfl
@[simp] theorem modTb_eng (x n : Nat) (f : TimeBase → TimeBase) : (modTb d x n f).eng = d.eng := rfl
@[simp] theorem modTb_cmd (x n : Nat) (f : TimeBase → TimeBase) : (modTb d x n f).cmd = d.cmd := rfl
@[simp] theorem modTb_flt (x n : Nat) (f : TimeBase → TimeBase) : (modTb d x n f).flt = d.flt := rfl
@[simp] theorem modTb_red (x n : Nat) (f : TimeBase → TimeBase) : (modTb d x n f).red = d.red := rfl
@[simp] theorem modTb_pwr (x n : Nat) (f : TimeBase → TimeBase) : (modTb d x n f).pwr = d.pwr := rfl
@[simp] theorem modTb_occs (x n : Nat) (f : TimeBase → TimeBase) : (modTb d x n f).occs = d.occs := rfl
@[simp] theorem modTb_moves (x n : Nat) (f : TimeBase → TimeBase) : (modTb d x n f).moves = d.moves := rfl

/-! ### modTrl -/

@[simp] theorem modTrl_now (x : Nat) (f : Trellis → Trellis) : (modTrl d x f).now = d.now := rfl
@[simp] theorem modTrl_dev (x : Nat) (f : Trellis → Trellis) : (modTrl d x f).dev = d.dev := rfl
@[simp] theorem modTrl_tick (x : Nat) (f : Trellis → Trellis) : (modTrl d x f).tick = d.tick := rfl
@[simp] theorem modTrl_fresh (x : Nat) (f : Trellis → Trellis) : (modTrl d x f).fresh = d.fresh := rfl
@[simp] theorem modTrl_emitted (x : Nat) (f : Trellis → Trellis) : (modTrl d x f).emitted = d.emitted := rfl
@[simp] theorem modTrl_fuse (x : Nat) (f : Trellis → Trellis) : (modTrl d x f).fuse = d.fuse := rfl
@[simp] theorem modTrl_regs (x : Nat) (f : Trellis → Trellis) : (modTrl d x f).regs = d.regs := rfl
@[simp] theorem modTrl_cnts (x : Nat) (f : Trellis → Trellis) : (modTrl d x f).cnts = d.cnts := rfl
@[simp] theorem modTrl_parityBad (x : Nat) (f : Trellis → Trellis) : (modTrl d x f).parityBad = d.parityBad := rfl
@[simp] theorem modTrl_bus (x : Nat) (f : Trellis → Trellis) : (modTrl d x f).bus = d.bus := rfl
@[simp] theorem modTrl_lanes (x : Nat) (f : Trellis → Trellis) : (modTrl d x f).lanes = d.lanes := rfl
@[simp] theorem modTrl_ladders (x : Nat) (f : Trellis → Trellis) : (modTrl d x f).ladders = d.ladders := rfl
@[simp] theorem modTrl_ports (x : Nat) (f : Trellis → Trellis) : (modTrl d x f).ports = d.ports := rfl
@[simp] theorem modTrl_core (x : Nat) (f : Trellis → Trellis) : (modTrl d x f).core = d.core := rfl
@[simp] theorem modTrl_fwd (x : Nat) (f : Trellis → Trellis) : (modTrl d x f).fwd = d.fwd := rfl
@[simp] theorem modTrl_outs (x : Nat) (f : Trellis → Trellis) : (modTrl d x f).outs = d.outs := rfl
@[simp] theorem modTrl_tb (x : Nat) (f : Trellis → Trellis) : (modTrl d x f).tb = d.tb := rfl
@[simp] theorem modTrl_clk (x : Nat) (f : Trellis → Trellis) : (modTrl d x f).clk = d.clk := rfl
@[simp] theorem modTrl_trl (x : Nat) (f : Trellis → Trellis) : (modTrl d x f).trl = tmod (fun _ => {}) d.trl x f := rfl
@[simp] theorem modTrl_meters (x : Nat) (f : Trellis → Trellis) : (modTrl d x f).meters = d.meters := rfl
@[simp] theorem modTrl_cf (x : Nat) (f : Trellis → Trellis) : (modTrl d x f).cf = d.cf := rfl
@[simp] theorem modTrl_syn (x : Nat) (f : Trellis → Trellis) : (modTrl d x f).syn = d.syn := rfl
@[simp] theorem modTrl_eng (x : Nat) (f : Trellis → Trellis) : (modTrl d x f).eng = d.eng := rfl
@[simp] theorem modTrl_cmd (x : Nat) (f : Trellis → Trellis) : (modTrl d x f).cmd = d.cmd := rfl
@[simp] theorem modTrl_flt (x : Nat) (f : Trellis → Trellis) : (modTrl d x f).flt = d.flt := rfl
@[simp] theorem modTrl_red (x : Nat) (f : Trellis → Trellis) : (modTrl d x f).red = d.red := rfl
@[simp] theorem modTrl_pwr (x : Nat) (f : Trellis → Trellis) : (modTrl d x f).pwr = d.pwr := rfl
@[simp] theorem modTrl_occs (x : Nat) (f : Trellis → Trellis) : (modTrl d x f).occs = d.occs := rfl
@[simp] theorem modTrl_moves (x : Nat) (f : Trellis → Trellis) : (modTrl d x f).moves = d.moves := rfl

/-! ### modMeter -/

@[simp] theorem modMeter_now (k : Nat) (f : Meter → Meter) : (modMeter d k f).now = d.now := rfl
@[simp] theorem modMeter_dev (k : Nat) (f : Meter → Meter) : (modMeter d k f).dev = d.dev := rfl
@[simp] theorem modMeter_tick (k : Nat) (f : Meter → Meter) : (modMeter d k f).tick = d.tick := rfl
@[simp] theorem modMeter_fresh (k : Nat) (f : Meter → Meter) : (modMeter d k f).fresh = d.fresh := rfl
@[simp] theorem modMeter_emitted (k : Nat) (f : Meter → Meter) : (modMeter d k f).emitted = d.emitted := rfl
@[simp] theorem modMeter_fuse (k : Nat) (f : Meter → Meter) : (modMeter d k f).fuse = d.fuse := rfl
@[simp] theorem modMeter_regs (k : Nat) (f : Meter → Meter) : (modMeter d k f).regs = d.regs := rfl
@[simp] theorem modMeter_cnts (k : Nat) (f : Meter → Meter) : (modMeter d k f).cnts = d.cnts := rfl
@[simp] theorem modMeter_parityBad (k : Nat) (f : Meter → Meter) : (modMeter d k f).parityBad = d.parityBad := rfl
@[simp] theorem modMeter_bus (k : Nat) (f : Meter → Meter) : (modMeter d k f).bus = d.bus := rfl
@[simp] theorem modMeter_lanes (k : Nat) (f : Meter → Meter) : (modMeter d k f).lanes = d.lanes := rfl
@[simp] theorem modMeter_ladders (k : Nat) (f : Meter → Meter) : (modMeter d k f).ladders = d.ladders := rfl
@[simp] theorem modMeter_ports (k : Nat) (f : Meter → Meter) : (modMeter d k f).ports = d.ports := rfl
@[simp] theorem modMeter_core (k : Nat) (f : Meter → Meter) : (modMeter d k f).core = d.core := rfl
@[simp] theorem modMeter_fwd (k : Nat) (f : Meter → Meter) : (modMeter d k f).fwd = d.fwd := rfl
@[simp] theorem modMeter_outs (k : Nat) (f : Meter → Meter) : (modMeter d k f).outs = d.outs := rfl
@[simp] theorem modMeter_tb (k : Nat) (f : Meter → Meter) : (modMeter d k f).tb = d.tb := rfl
@[simp] theorem modMeter_clk (k : Nat) (f : Meter → Meter) : (modMeter d k f).clk = d.clk := rfl
@[simp] theorem modMeter_trl (k : Nat) (f : Meter → Meter) : (modMeter d k f).trl = d.trl := rfl
@[simp] theorem modMeter_meters (k : Nat) (f : Meter → Meter) : (modMeter d k f).meters = tmod (fun _ => {}) d.meters k f := rfl
@[simp] theorem modMeter_cf (k : Nat) (f : Meter → Meter) : (modMeter d k f).cf = d.cf := rfl
@[simp] theorem modMeter_syn (k : Nat) (f : Meter → Meter) : (modMeter d k f).syn = d.syn := rfl
@[simp] theorem modMeter_eng (k : Nat) (f : Meter → Meter) : (modMeter d k f).eng = d.eng := rfl
@[simp] theorem modMeter_cmd (k : Nat) (f : Meter → Meter) : (modMeter d k f).cmd = d.cmd := rfl
@[simp] theorem modMeter_flt (k : Nat) (f : Meter → Meter) : (modMeter d k f).flt = d.flt := rfl
@[simp] theorem modMeter_red (k : Nat) (f : Meter → Meter) : (modMeter d k f).red = d.red := rfl
@[simp] theorem modMeter_pwr (k : Nat) (f : Meter → Meter) : (modMeter d k f).pwr = d.pwr := rfl
@[simp] theorem modMeter_occs (k : Nat) (f : Meter → Meter) : (modMeter d k f).occs = d.occs := rfl
@[simp] theorem modMeter_moves (k : Nat) (f : Meter → Meter) : (modMeter d k f).moves = d.moves := rfl

/-! ### modSyn -/

@[simp] theorem modSyn_now (f : Syn → Syn) : (modSyn d f).now = d.now := rfl
@[simp] theorem modSyn_dev (f : Syn → Syn) : (modSyn d f).dev = d.dev := rfl
@[simp] theorem modSyn_tick (f : Syn → Syn) : (modSyn d f).tick = d.tick := rfl
@[simp] theorem modSyn_fresh (f : Syn → Syn) : (modSyn d f).fresh = d.fresh := rfl
@[simp] theorem modSyn_emitted (f : Syn → Syn) : (modSyn d f).emitted = d.emitted := rfl
@[simp] theorem modSyn_fuse (f : Syn → Syn) : (modSyn d f).fuse = d.fuse := rfl
@[simp] theorem modSyn_regs (f : Syn → Syn) : (modSyn d f).regs = d.regs := rfl
@[simp] theorem modSyn_cnts (f : Syn → Syn) : (modSyn d f).cnts = d.cnts := rfl
@[simp] theorem modSyn_parityBad (f : Syn → Syn) : (modSyn d f).parityBad = d.parityBad := rfl
@[simp] theorem modSyn_bus (f : Syn → Syn) : (modSyn d f).bus = d.bus := rfl
@[simp] theorem modSyn_lanes (f : Syn → Syn) : (modSyn d f).lanes = d.lanes := rfl
@[simp] theorem modSyn_ladders (f : Syn → Syn) : (modSyn d f).ladders = d.ladders := rfl
@[simp] theorem modSyn_ports (f : Syn → Syn) : (modSyn d f).ports = d.ports := rfl
@[simp] theorem modSyn_core (f : Syn → Syn) : (modSyn d f).core = d.core := rfl
@[simp] theorem modSyn_fwd (f : Syn → Syn) : (modSyn d f).fwd = d.fwd := rfl
@[simp] theorem modSyn_outs (f : Syn → Syn) : (modSyn d f).outs = d.outs := rfl
@[simp] theorem modSyn_tb (f : Syn → Syn) : (modSyn d f).tb = d.tb := rfl
@[simp] theorem modSyn_clk (f : Syn → Syn) : (modSyn d f).clk = d.clk := rfl
@[simp] theorem modSyn_trl (f : Syn → Syn) : (modSyn d f).trl = d.trl := rfl
@[simp] theorem modSyn_meters (f : Syn → Syn) : (modSyn d f).meters = d.meters := rfl
@[simp] theorem modSyn_cf (f : Syn → Syn) : (modSyn d f).cf = d.cf := rfl
@[simp] theorem modSyn_syn (f : Syn → Syn) : (modSyn d f).syn = f d.syn := rfl
@[simp] theorem modSyn_eng (f : Syn → Syn) : (modSyn d f).eng = d.eng := rfl
@[simp] theorem modSyn_cmd (f : Syn → Syn) : (modSyn d f).cmd = d.cmd := rfl
@[simp] theorem modSyn_flt (f : Syn → Syn) : (modSyn d f).flt = d.flt := rfl
@[simp] theorem modSyn_red (f : Syn → Syn) : (modSyn d f).red = d.red := rfl
@[simp] theorem modSyn_pwr (f : Syn → Syn) : (modSyn d f).pwr = d.pwr := rfl
@[simp] theorem modSyn_occs (f : Syn → Syn) : (modSyn d f).occs = d.occs := rfl
@[simp] theorem modSyn_moves (f : Syn → Syn) : (modSyn d f).moves = d.moves := rfl

/-! ### modPin -/

@[simp] theorem modPin_now (j : Nat) (f : Pin → Pin) : (modPin d j f).now = d.now := rfl
@[simp] theorem modPin_dev (j : Nat) (f : Pin → Pin) : (modPin d j f).dev = d.dev := rfl
@[simp] theorem modPin_tick (j : Nat) (f : Pin → Pin) : (modPin d j f).tick = d.tick := rfl
@[simp] theorem modPin_fresh (j : Nat) (f : Pin → Pin) : (modPin d j f).fresh = d.fresh := rfl
@[simp] theorem modPin_emitted (j : Nat) (f : Pin → Pin) : (modPin d j f).emitted = d.emitted := rfl
@[simp] theorem modPin_fuse (j : Nat) (f : Pin → Pin) : (modPin d j f).fuse = d.fuse := rfl
@[simp] theorem modPin_regs (j : Nat) (f : Pin → Pin) : (modPin d j f).regs = d.regs := rfl
@[simp] theorem modPin_cnts (j : Nat) (f : Pin → Pin) : (modPin d j f).cnts = d.cnts := rfl
@[simp] theorem modPin_parityBad (j : Nat) (f : Pin → Pin) : (modPin d j f).parityBad = d.parityBad := rfl
@[simp] theorem modPin_bus (j : Nat) (f : Pin → Pin) : (modPin d j f).bus = d.bus := rfl
@[simp] theorem modPin_lanes (j : Nat) (f : Pin → Pin) : (modPin d j f).lanes = d.lanes := rfl
@[simp] theorem modPin_ladders (j : Nat) (f : Pin → Pin) : (modPin d j f).ladders = d.ladders := rfl
@[simp] theorem modPin_ports (j : Nat) (f : Pin → Pin) : (modPin d j f).ports = d.ports := rfl
@[simp] theorem modPin_core (j : Nat) (f : Pin → Pin) : (modPin d j f).core = d.core := rfl
@[simp] theorem modPin_fwd (j : Nat) (f : Pin → Pin) : (modPin d j f).fwd = d.fwd := rfl
@[simp] theorem modPin_outs (j : Nat) (f : Pin → Pin) : (modPin d j f).outs = d.outs := rfl
@[simp] theorem modPin_tb (j : Nat) (f : Pin → Pin) : (modPin d j f).tb = d.tb := rfl
@[simp] theorem modPin_clk (j : Nat) (f : Pin → Pin) : (modPin d j f).clk = d.clk := rfl
@[simp] theorem modPin_trl (j : Nat) (f : Pin → Pin) : (modPin d j f).trl = d.trl := rfl
@[simp] theorem modPin_meters (j : Nat) (f : Pin → Pin) : (modPin d j f).meters = d.meters := rfl
@[simp] theorem modPin_cf (j : Nat) (f : Pin → Pin) : (modPin d j f).cf = d.cf := rfl
@[simp] theorem modPin_eng (j : Nat) (f : Pin → Pin) : (modPin d j f).eng = d.eng := rfl
@[simp] theorem modPin_cmd (j : Nat) (f : Pin → Pin) : (modPin d j f).cmd = d.cmd := rfl
@[simp] theorem modPin_flt (j : Nat) (f : Pin → Pin) : (modPin d j f).flt = d.flt := rfl
@[simp] theorem modPin_red (j : Nat) (f : Pin → Pin) : (modPin d j f).red = d.red := rfl
@[simp] theorem modPin_pwr (j : Nat) (f : Pin → Pin) : (modPin d j f).pwr = d.pwr := rfl
@[simp] theorem modPin_occs (j : Nat) (f : Pin → Pin) : (modPin d j f).occs = d.occs := rfl
@[simp] theorem modPin_moves (j : Nat) (f : Pin → Pin) : (modPin d j f).moves = d.moves := rfl

/-! ### modShaft -/

@[simp] theorem modShaft_now (n : Nat) (f : Shaft → Shaft) : (modShaft d n f).now = d.now := rfl
@[simp] theorem modShaft_dev (n : Nat) (f : Shaft → Shaft) : (modShaft d n f).dev = d.dev := rfl
@[simp] theorem modShaft_tick (n : Nat) (f : Shaft → Shaft) : (modShaft d n f).tick = d.tick := rfl
@[simp] theorem modShaft_fresh (n : Nat) (f : Shaft → Shaft) : (modShaft d n f).fresh = d.fresh := rfl
@[simp] theorem modShaft_emitted (n : Nat) (f : Shaft → Shaft) : (modShaft d n f).emitted = d.emitted := rfl
@[simp] theorem modShaft_fuse (n : Nat) (f : Shaft → Shaft) : (modShaft d n f).fuse = d.fuse := rfl
@[simp] theorem modShaft_regs (n : Nat) (f : Shaft → Shaft) : (modShaft d n f).regs = d.regs := rfl
@[simp] theorem modShaft_cnts (n : Nat) (f : Shaft → Shaft) : (modShaft d n f).cnts = d.cnts := rfl
@[simp] theorem modShaft_parityBad (n : Nat) (f : Shaft → Shaft) : (modShaft d n f).parityBad = d.parityBad := rfl
@[simp] theorem modShaft_bus (n : Nat) (f : Shaft → Shaft) : (modShaft d n f).bus = d.bus := rfl
@[simp] theorem modShaft_lanes (n : Nat) (f : Shaft → Shaft) : (modShaft d n f).lanes = d.lanes := rfl
@[simp] theorem modShaft_ladders (n : Nat) (f : Shaft → Shaft) : (modShaft d n f).ladders = d.ladders := rfl
@[simp] theorem modShaft_ports (n : Nat) (f : Shaft → Shaft) : (modShaft d n f).ports = d.ports := rfl
@[simp] theorem modShaft_core (n : Nat) (f : Shaft → Shaft) : (modShaft d n f).core = d.core := rfl
@[simp] theorem modShaft_fwd (n : Nat) (f : Shaft → Shaft) : (modShaft d n f).fwd = d.fwd := rfl
@[simp] theorem modShaft_outs (n : Nat) (f : Shaft → Shaft) : (modShaft d n f).outs = d.outs := rfl
@[simp] theorem modShaft_tb (n : Nat) (f : Shaft → Shaft) : (modShaft d n f).tb = d.tb := rfl
@[simp] theorem modShaft_clk (n : Nat) (f : Shaft → Shaft) : (modShaft d n f).clk = d.clk := rfl
@[simp] theorem modShaft_trl (n : Nat) (f : Shaft → Shaft) : (modShaft d n f).trl = d.trl := rfl
@[simp] theorem modShaft_meters (n : Nat) (f : Shaft → Shaft) : (modShaft d n f).meters = d.meters := rfl
@[simp] theorem modShaft_cf (n : Nat) (f : Shaft → Shaft) : (modShaft d n f).cf = d.cf := rfl
@[simp] theorem modShaft_eng (n : Nat) (f : Shaft → Shaft) : (modShaft d n f).eng = d.eng := rfl
@[simp] theorem modShaft_cmd (n : Nat) (f : Shaft → Shaft) : (modShaft d n f).cmd = d.cmd := rfl
@[simp] theorem modShaft_flt (n : Nat) (f : Shaft → Shaft) : (modShaft d n f).flt = d.flt := rfl
@[simp] theorem modShaft_red (n : Nat) (f : Shaft → Shaft) : (modShaft d n f).red = d.red := rfl
@[simp] theorem modShaft_pwr (n : Nat) (f : Shaft → Shaft) : (modShaft d n f).pwr = d.pwr := rfl
@[simp] theorem modShaft_occs (n : Nat) (f : Shaft → Shaft) : (modShaft d n f).occs = d.occs := rfl
@[simp] theorem modShaft_moves (n : Nat) (f : Shaft → Shaft) : (modShaft d n f).moves = d.moves := rfl

/-! ### modCf -/

@[simp] theorem modCf_now (f : ColdFrame → ColdFrame) : (modCf d f).now = d.now := rfl
@[simp] theorem modCf_dev (f : ColdFrame → ColdFrame) : (modCf d f).dev = d.dev := rfl
@[simp] theorem modCf_tick (f : ColdFrame → ColdFrame) : (modCf d f).tick = d.tick := rfl
@[simp] theorem modCf_fresh (f : ColdFrame → ColdFrame) : (modCf d f).fresh = d.fresh := rfl
@[simp] theorem modCf_emitted (f : ColdFrame → ColdFrame) : (modCf d f).emitted = d.emitted := rfl
@[simp] theorem modCf_fuse (f : ColdFrame → ColdFrame) : (modCf d f).fuse = d.fuse := rfl
@[simp] theorem modCf_regs (f : ColdFrame → ColdFrame) : (modCf d f).regs = d.regs := rfl
@[simp] theorem modCf_cnts (f : ColdFrame → ColdFrame) : (modCf d f).cnts = d.cnts := rfl
@[simp] theorem modCf_parityBad (f : ColdFrame → ColdFrame) : (modCf d f).parityBad = d.parityBad := rfl
@[simp] theorem modCf_bus (f : ColdFrame → ColdFrame) : (modCf d f).bus = d.bus := rfl
@[simp] theorem modCf_lanes (f : ColdFrame → ColdFrame) : (modCf d f).lanes = d.lanes := rfl
@[simp] theorem modCf_ladders (f : ColdFrame → ColdFrame) : (modCf d f).ladders = d.ladders := rfl
@[simp] theorem modCf_ports (f : ColdFrame → ColdFrame) : (modCf d f).ports = d.ports := rfl
@[simp] theorem modCf_core (f : ColdFrame → ColdFrame) : (modCf d f).core = d.core := rfl
@[simp] theorem modCf_fwd (f : ColdFrame → ColdFrame) : (modCf d f).fwd = d.fwd := rfl
@[simp] theorem modCf_outs (f : ColdFrame → ColdFrame) : (modCf d f).outs = d.outs := rfl
@[simp] theorem modCf_tb (f : ColdFrame → ColdFrame) : (modCf d f).tb = d.tb := rfl
@[simp] theorem modCf_clk (f : ColdFrame → ColdFrame) : (modCf d f).clk = d.clk := rfl
@[simp] theorem modCf_trl (f : ColdFrame → ColdFrame) : (modCf d f).trl = d.trl := rfl
@[simp] theorem modCf_meters (f : ColdFrame → ColdFrame) : (modCf d f).meters = d.meters := rfl
@[simp] theorem modCf_cf (f : ColdFrame → ColdFrame) : (modCf d f).cf = f d.cf := rfl
@[simp] theorem modCf_syn (f : ColdFrame → ColdFrame) : (modCf d f).syn = d.syn := rfl
@[simp] theorem modCf_eng (f : ColdFrame → ColdFrame) : (modCf d f).eng = d.eng := rfl
@[simp] theorem modCf_cmd (f : ColdFrame → ColdFrame) : (modCf d f).cmd = d.cmd := rfl
@[simp] theorem modCf_flt (f : ColdFrame → ColdFrame) : (modCf d f).flt = d.flt := rfl
@[simp] theorem modCf_red (f : ColdFrame → ColdFrame) : (modCf d f).red = d.red := rfl
@[simp] theorem modCf_pwr (f : ColdFrame → ColdFrame) : (modCf d f).pwr = d.pwr := rfl
@[simp] theorem modCf_occs (f : ColdFrame → ColdFrame) : (modCf d f).occs = d.occs := rfl
@[simp] theorem modCf_moves (f : ColdFrame → ColdFrame) : (modCf d f).moves = d.moves := rfl

/-! ### Registers, counters and the device's conditions are not touched by the updates of the units -/

@[simp] theorem cnt_wr (r : Nat) (a v : Nat) : cnt (wr d a v) r = cnt d r := rfl
@[simp] theorem running_wr (a v : Nat) : running (wr d a v) = running d := rfl
@[simp] theorem ticking_wr (a v : Nat) : ticking (wr d a v) = ticking d := rfl
@[simp] theorem freeVal_wr (a v : Nat) : freeVal (wr d a v) = freeVal d := rfl
@[simp] theorem cnt_setFld (r : Nat) (a hi lo v : Nat) : cnt (setFld d a hi lo v) r = cnt d r := rfl
@[simp] theorem running_setFld (a hi lo v : Nat) : running (setFld d a hi lo v) = running d := rfl
@[simp] theorem ticking_setFld (a hi lo v : Nat) : ticking (setFld d a hi lo v) = ticking d := rfl
@[simp] theorem freeVal_setFld (a hi lo v : Nat) : freeVal (setFld d a hi lo v) = freeVal d := rfl
@[simp] theorem cnt_setFlag (r : Nat) (a k : Nat) (b : Bool) : cnt (setFlag d a k b) r = cnt d r := rfl
@[simp] theorem running_setFlag (a k : Nat) (b : Bool) : running (setFlag d a k b) = running d := rfl
@[simp] theorem ticking_setFlag (a k : Nat) (b : Bool) : ticking (setFlag d a k b) = ticking d := rfl
@[simp] theorem freeVal_setFlag (a k : Nat) (b : Bool) : freeVal (setFlag d a k b) = freeVal d := rfl
@[simp] theorem cnt_event (r : Nat) (a k : Nat) : cnt (event d a k) r = cnt d r := rfl
@[simp] theorem running_event (a k : Nat) : running (event d a k) = running d := rfl
@[simp] theorem ticking_event (a k : Nat) : ticking (event d a k) = ticking d := rfl
@[simp] theorem freeVal_event (a k : Nat) : freeVal (event d a k) = freeVal d := rfl
@[simp] theorem rd_setCnt (r : Nat) (a v : Nat) : rd (setCnt d a v) r = rd d r := rfl
@[simp] theorem fld_setCnt (r hi lo : Nat) (a v : Nat) : fld (setCnt d a v) r hi lo = fld d r hi lo := rfl
@[simp] theorem flag_setCnt (r bitNo : Nat) (a v : Nat) : flag (setCnt d a v) r bitNo = flag d r bitNo := rfl
@[simp] theorem running_setCnt (a v : Nat) : running (setCnt d a v) = running d := rfl
@[simp] theorem ticking_setCnt (a v : Nat) : ticking (setCnt d a v) = ticking d := rfl
@[simp] theorem freeVal_setCnt (a v : Nat) : freeVal (setCnt d a v) = freeVal d := rfl
@[simp] theorem rd_emit (r : Nat) (e : Emit) : rd (emit d e) r = rd d r := rfl
@[simp] theorem fld_emit (r hi lo : Nat) (e : Emit) : fld (emit d e) r hi lo = fld d r hi lo := rfl
@[simp] theorem flag_emit (r bitNo : Nat) (e : Emit) : flag (emit d e) r bitNo = flag d r bitNo := rfl
@[simp] theorem cnt_emit (r : Nat) (e : Emit) : cnt (emit d e) r = cnt d r := rfl
@[simp] theorem running_emit (e : Emit) : running (emit d e) = running d := rfl
@[simp] theorem ticking_emit (e : Emit) : ticking (emit d e) = ticking d := rfl
@[simp] theorem freeVal_emit (e : Emit) : freeVal (emit d e) = freeVal d := rfl
@[simp] theorem rd_nextFree (r : Nat) : rd (nextFree d) r = rd d r := rfl
@[simp] theorem fld_nextFree (r hi lo : Nat) : fld (nextFree d) r hi lo = fld d r hi lo := rfl
@[simp] theorem flag_nextFree (r bitNo : Nat) : flag (nextFree d) r bitNo = flag d r bitNo := rfl
@[simp] theorem cnt_nextFree (r : Nat) : cnt (nextFree d) r = cnt d r := rfl
@[simp] theorem running_nextFree : running (nextFree d) = running d := rfl
@[simp] theorem ticking_nextFree : ticking (nextFree d) = ticking d := rfl
@[simp] theorem rd_occur (r : Nat) (o : Occ) : rd (occur d o) r = rd d r := rfl
@[simp] theorem fld_occur (r hi lo : Nat) (o : Occ) : fld (occur d o) r hi lo = fld d r hi lo := rfl
@[simp] theorem flag_occur (r bitNo : Nat) (o : Occ) : flag (occur d o) r bitNo = flag d r bitNo := rfl
@[simp] theorem cnt_occur (r : Nat) (o : Occ) : cnt (occur d o) r = cnt d r := rfl
@[simp] theorem running_occur (o : Occ) : running (occur d o) = running d := rfl
@[simp] theorem ticking_occur (o : Occ) : ticking (occur d o) = ticking d := rfl
@[simp] theorem freeVal_occur (o : Occ) : freeVal (occur d o) = freeVal d := rfl
@[simp] theorem rd_modLane (r : Nat) (n : Nat) (f : Lane → Lane) : rd (modLane d n f) r = rd d r := rfl
@[simp] theorem fld_modLane (r hi lo : Nat) (n : Nat) (f : Lane → Lane) : fld (modLane d n f) r hi lo = fld d r hi lo := rfl
@[simp] theorem flag_modLane (r bitNo : Nat) (n : Nat) (f : Lane → Lane) : flag (modLane d n f) r bitNo = flag d r bitNo := rfl
@[simp] theorem cnt_modLane (r : Nat) (n : Nat) (f : Lane → Lane) : cnt (modLane d n f) r = cnt d r := rfl
@[simp] theorem running_modLane (n : Nat) (f : Lane → Lane) : running (modLane d n f) = running d := rfl
@[simp] theorem ticking_modLane (n : Nat) (f : Lane → Lane) : ticking (modLane d n f) = ticking d := rfl
@[simp] theorem freeVal_modLane (n : Nat) (f : Lane → Lane) : freeVal (modLane d n f) = freeVal d := rfl
@[simp] theorem rd_modLadder (r : Nat) (n : Nat) (f : Ladder → Ladder) : rd (modLadder d n f) r = rd d r := rfl
@[simp] theorem fld_modLadder (r hi lo : Nat) (n : Nat) (f : Ladder → Ladder) : fld (modLadder d n f) r hi lo = fld d r hi lo := rfl
@[simp] theorem flag_modLadder (r bitNo : Nat) (n : Nat) (f : Ladder → Ladder) : flag (modLadder d n f) r bitNo = flag d r bitNo := rfl
@[simp] theorem cnt_modLadder (r : Nat) (n : Nat) (f : Ladder → Ladder) : cnt (modLadder d n f) r = cnt d r := rfl
@[simp] theorem running_modLadder (n : Nat) (f : Ladder → Ladder) : running (modLadder d n f) = running d := rfl
@[simp] theorem ticking_modLadder (n : Nat) (f : Ladder → Ladder) : ticking (modLadder d n f) = ticking d := rfl
@[simp] theorem freeVal_modLadder (n : Nat) (f : Ladder → Ladder) : freeVal (modLadder d n f) = freeVal d := rfl
@[simp] theorem rd_modPort (r : Nat) (n : Nat) (f : Port → Port) : rd (modPort d n f) r = rd d r := rfl
@[simp] theorem fld_modPort (r hi lo : Nat) (n : Nat) (f : Port → Port) : fld (modPort d n f) r hi lo = fld d r hi lo := rfl
@[simp] theorem flag_modPort (r bitNo : Nat) (n : Nat) (f : Port → Port) : flag (modPort d n f) r bitNo = flag d r bitNo := rfl
@[simp] theorem cnt_modPort (r : Nat) (n : Nat) (f : Port → Port) : cnt (modPort d n f) r = cnt d r := rfl
@[simp] theorem running_modPort (n : Nat) (f : Port → Port) : running (modPort d n f) = running d := rfl
@[simp] theorem ticking_modPort (n : Nat) (f : Port → Port) : ticking (modPort d n f) = ticking d := rfl
@[simp] theorem freeVal_modPort (n : Nat) (f : Port → Port) : freeVal (modPort d n f) = freeVal d := rfl
@[simp] theorem rd_modOut (r : Nat) (n : Nat) (f : Output → Output) : rd (modOut d n f) r = rd d r := rfl
@[simp] theorem fld_modOut (r hi lo : Nat) (n : Nat) (f : Output → Output) : fld (modOut d n f) r hi lo = fld d r hi lo := rfl
@[simp] theorem flag_modOut (r bitNo : Nat) (n : Nat) (f : Output → Output) : flag (modOut d n f) r bitNo = flag d r bitNo := rfl
@[simp] theorem cnt_modOut (r : Nat) (n : Nat) (f : Output → Output) : cnt (modOut d n f) r = cnt d r := rfl
@[simp] theorem running_modOut (n : Nat) (f : Output → Output) : running (modOut d n f) = running d := rfl
@[simp] theorem ticking_modOut (n : Nat) (f : Output → Output) : ticking (modOut d n f) = ticking d := rfl
@[simp] theorem freeVal_modOut (n : Nat) (f : Output → Output) : freeVal (modOut d n f) = freeVal d := rfl
@[simp] theorem rd_modCore (r : Nat) (f : SwitchCore → SwitchCore) : rd (modCore d f) r = rd d r := rfl
@[simp] theorem fld_modCore (r hi lo : Nat) (f : SwitchCore → SwitchCore) : fld (modCore d f) r hi lo = fld d r hi lo := rfl
@[simp] theorem flag_modCore (r bitNo : Nat) (f : SwitchCore → SwitchCore) : flag (modCore d f) r bitNo = flag d r bitNo := rfl
@[simp] theorem cnt_modCore (r : Nat) (f : SwitchCore → SwitchCore) : cnt (modCore d f) r = cnt d r := rfl
@[simp] theorem running_modCore (f : SwitchCore → SwitchCore) : running (modCore d f) = running d := rfl
@[simp] theorem ticking_modCore (f : SwitchCore → SwitchCore) : ticking (modCore d f) = ticking d := rfl
@[simp] theorem freeVal_modCore (f : SwitchCore → SwitchCore) : freeVal (modCore d f) = freeVal d := rfl
@[simp] theorem rd_modFwd (r : Nat) (f : Fwd → Fwd) : rd (modFwd d f) r = rd d r := rfl
@[simp] theorem fld_modFwd (r hi lo : Nat) (f : Fwd → Fwd) : fld (modFwd d f) r hi lo = fld d r hi lo := rfl
@[simp] theorem flag_modFwd (r bitNo : Nat) (f : Fwd → Fwd) : flag (modFwd d f) r bitNo = flag d r bitNo := rfl
@[simp] theorem cnt_modFwd (r : Nat) (f : Fwd → Fwd) : cnt (modFwd d f) r = cnt d r := rfl
@[simp] theorem running_modFwd (f : Fwd → Fwd) : running (modFwd d f) = running d := rfl
@[simp] theorem ticking_modFwd (f : Fwd → Fwd) : ticking (modFwd d f) = ticking d := rfl
@[simp] theorem freeVal_modFwd (f : Fwd → Fwd) : freeVal (modFwd d f) = freeVal d := rfl
@[simp] theorem rd_modClk (r : Nat) (f : Clocks → Clocks) : rd (modClk d f) r = rd d r := rfl
@[simp] theorem fld_modClk (r hi lo : Nat) (f : Clocks → Clocks) : fld (modClk d f) r hi lo = fld d r hi lo := rfl
@[simp] theorem flag_modClk (r bitNo : Nat) (f : Clocks → Clocks) : flag (modClk d f) r bitNo = flag d r bitNo := rfl
@[simp] theorem cnt_modClk (r : Nat) (f : Clocks → Clocks) : cnt (modClk d f) r = cnt d r := rfl
@[simp] theorem freeVal_modClk (f : Clocks → Clocks) : freeVal (modClk d f) = freeVal d := rfl
@[simp] theorem rd_modCmd (r : Nat) (f : Trobuic → Trobuic) : rd (modCmd d f) r = rd d r := rfl
@[simp] theorem fld_modCmd (r hi lo : Nat) (f : Trobuic → Trobuic) : fld (modCmd d f) r hi lo = fld d r hi lo := rfl
@[simp] theorem flag_modCmd (r bitNo : Nat) (f : Trobuic → Trobuic) : flag (modCmd d f) r bitNo = flag d r bitNo := rfl
@[simp] theorem cnt_modCmd (r : Nat) (f : Trobuic → Trobuic) : cnt (modCmd d f) r = cnt d r := rfl
@[simp] theorem running_modCmd (f : Trobuic → Trobuic) : running (modCmd d f) = running d := rfl
@[simp] theorem ticking_modCmd (f : Trobuic → Trobuic) : ticking (modCmd d f) = ticking d := rfl
@[simp] theorem freeVal_modCmd (f : Trobuic → Trobuic) : freeVal (modCmd d f) = freeVal d := rfl
@[simp] theorem rd_modFlt (r : Nat) (f : Safety → Safety) : rd (modFlt d f) r = rd d r := rfl
@[simp] theorem fld_modFlt (r hi lo : Nat) (f : Safety → Safety) : fld (modFlt d f) r hi lo = fld d r hi lo := rfl
@[simp] theorem flag_modFlt (r bitNo : Nat) (f : Safety → Safety) : flag (modFlt d f) r bitNo = flag d r bitNo := rfl
@[simp] theorem cnt_modFlt (r : Nat) (f : Safety → Safety) : cnt (modFlt d f) r = cnt d r := rfl
@[simp] theorem running_modFlt (f : Safety → Safety) : running (modFlt d f) = running d := rfl
@[simp] theorem ticking_modFlt (f : Safety → Safety) : ticking (modFlt d f) = ticking d := rfl
@[simp] theorem freeVal_modFlt (f : Safety → Safety) : freeVal (modFlt d f) = freeVal d := rfl
@[simp] theorem rd_modRed (r : Nat) (f : Red → Red) : rd (modRed d f) r = rd d r := rfl
@[simp] theorem fld_modRed (r hi lo : Nat) (f : Red → Red) : fld (modRed d f) r hi lo = fld d r hi lo := rfl
@[simp] theorem flag_modRed (r bitNo : Nat) (f : Red → Red) : flag (modRed d f) r bitNo = flag d r bitNo := rfl
@[simp] theorem cnt_modRed (r : Nat) (f : Red → Red) : cnt (modRed d f) r = cnt d r := rfl
@[simp] theorem running_modRed (f : Red → Red) : running (modRed d f) = running d := rfl
@[simp] theorem ticking_modRed (f : Red → Red) : ticking (modRed d f) = ticking d := rfl
@[simp] theorem freeVal_modRed (f : Red → Red) : freeVal (modRed d f) = freeVal d := rfl
@[simp] theorem rd_modPwr (r : Nat) (f : Power → Power) : rd (modPwr d f) r = rd d r := rfl
@[simp] theorem fld_modPwr (r hi lo : Nat) (f : Power → Power) : fld (modPwr d f) r hi lo = fld d r hi lo := rfl
@[simp] theorem flag_modPwr (r bitNo : Nat) (f : Power → Power) : flag (modPwr d f) r bitNo = flag d r bitNo := rfl
@[simp] theorem cnt_modPwr (r : Nat) (f : Power → Power) : cnt (modPwr d f) r = cnt d r := rfl
@[simp] theorem freeVal_modPwr (f : Power → Power) : freeVal (modPwr d f) = freeVal d := rfl
@[simp] theorem rd_modBus (r : Nat) (f : Bus → Bus) : rd (modBus d f) r = rd d r := rfl
@[simp] theorem fld_modBus (r hi lo : Nat) (f : Bus → Bus) : fld (modBus d f) r hi lo = fld d r hi lo := rfl
@[simp] theorem flag_modBus (r bitNo : Nat) (f : Bus → Bus) : flag (modBus d f) r bitNo = flag d r bitNo := rfl
@[simp] theorem cnt_modBus (r : Nat) (f : Bus → Bus) : cnt (modBus d f) r = cnt d r := rfl
@[simp] theorem running_modBus (f : Bus → Bus) : running (modBus d f) = running d := rfl
@[simp] theorem ticking_modBus (f : Bus → Bus) : ticking (modBus d f) = ticking d := rfl
@[simp] theorem freeVal_modBus (f : Bus → Bus) : freeVal (modBus d f) = freeVal d := rfl
@[simp] theorem rd_modApplet (r : Nat) (n : Nat) (f : Applet → Applet) : rd (modApplet d n f) r = rd d r := rfl
@[simp] theorem fld_modApplet (r hi lo : Nat) (n : Nat) (f : Applet → Applet) : fld (modApplet d n f) r hi lo = fld d r hi lo := rfl
@[simp] theorem flag_modApplet (r bitNo : Nat) (n : Nat) (f : Applet → Applet) : flag (modApplet d n f) r bitNo = flag d r bitNo := rfl
@[simp] theorem cnt_modApplet (r : Nat) (n : Nat) (f : Applet → Applet) : cnt (modApplet d n f) r = cnt d r := rfl
@[simp] theorem running_modApplet (n : Nat) (f : Applet → Applet) : running (modApplet d n f) = running d := rfl
@[simp] theorem ticking_modApplet (n : Nat) (f : Applet → Applet) : ticking (modApplet d n f) = ticking d := rfl
@[simp] theorem freeVal_modApplet (n : Nat) (f : Applet → Applet) : freeVal (modApplet d n f) = freeVal d := rfl
@[simp] theorem rd_modTb (r : Nat) (x n : Nat) (f : TimeBase → TimeBase) : rd (modTb d x n f) r = rd d r := rfl
@[simp] theorem fld_modTb (r hi lo : Nat) (x n : Nat) (f : TimeBase → TimeBase) : fld (modTb d x n f) r hi lo = fld d r hi lo := rfl
@[simp] theorem flag_modTb (r bitNo : Nat) (x n : Nat) (f : TimeBase → TimeBase) : flag (modTb d x n f) r bitNo = flag d r bitNo := rfl
@[simp] theorem cnt_modTb (r : Nat) (x n : Nat) (f : TimeBase → TimeBase) : cnt (modTb d x n f) r = cnt d r := rfl
@[simp] theorem running_modTb (x n : Nat) (f : TimeBase → TimeBase) : running (modTb d x n f) = running d := rfl
@[simp] theorem ticking_modTb (x n : Nat) (f : TimeBase → TimeBase) : ticking (modTb d x n f) = ticking d := rfl
@[simp] theorem freeVal_modTb (x n : Nat) (f : TimeBase → TimeBase) : freeVal (modTb d x n f) = freeVal d := rfl
@[simp] theorem rd_modTrl (r : Nat) (x : Nat) (f : Trellis → Trellis) : rd (modTrl d x f) r = rd d r := rfl
@[simp] theorem fld_modTrl (r hi lo : Nat) (x : Nat) (f : Trellis → Trellis) : fld (modTrl d x f) r hi lo = fld d r hi lo := rfl
@[simp] theorem flag_modTrl (r bitNo : Nat) (x : Nat) (f : Trellis → Trellis) : flag (modTrl d x f) r bitNo = flag d r bitNo := rfl
@[simp] theorem cnt_modTrl (r : Nat) (x : Nat) (f : Trellis → Trellis) : cnt (modTrl d x f) r = cnt d r := rfl
@[simp] theorem running_modTrl (x : Nat) (f : Trellis → Trellis) : running (modTrl d x f) = running d := rfl
@[simp] theorem ticking_modTrl (x : Nat) (f : Trellis → Trellis) : ticking (modTrl d x f) = ticking d := rfl
@[simp] theorem freeVal_modTrl (x : Nat) (f : Trellis → Trellis) : freeVal (modTrl d x f) = freeVal d := rfl
@[simp] theorem rd_modMeter (r : Nat) (k : Nat) (f : Meter → Meter) : rd (modMeter d k f) r = rd d r := rfl
@[simp] theorem fld_modMeter (r hi lo : Nat) (k : Nat) (f : Meter → Meter) : fld (modMeter d k f) r hi lo = fld d r hi lo := rfl
@[simp] theorem flag_modMeter (r bitNo : Nat) (k : Nat) (f : Meter → Meter) : flag (modMeter d k f) r bitNo = flag d r bitNo := rfl
@[simp] theorem cnt_modMeter (r : Nat) (k : Nat) (f : Meter → Meter) : cnt (modMeter d k f) r = cnt d r := rfl
@[simp] theorem running_modMeter (k : Nat) (f : Meter → Meter) : running (modMeter d k f) = running d := rfl
@[simp] theorem ticking_modMeter (k : Nat) (f : Meter → Meter) : ticking (modMeter d k f) = ticking d := rfl
@[simp] theorem freeVal_modMeter (k : Nat) (f : Meter → Meter) : freeVal (modMeter d k f) = freeVal d := rfl
@[simp] theorem rd_modSyn (r : Nat) (f : Syn → Syn) : rd (modSyn d f) r = rd d r := rfl
@[simp] theorem fld_modSyn (r hi lo : Nat) (f : Syn → Syn) : fld (modSyn d f) r hi lo = fld d r hi lo := rfl
@[simp] theorem flag_modSyn (r bitNo : Nat) (f : Syn → Syn) : flag (modSyn d f) r bitNo = flag d r bitNo := rfl
@[simp] theorem cnt_modSyn (r : Nat) (f : Syn → Syn) : cnt (modSyn d f) r = cnt d r := rfl
@[simp] theorem running_modSyn (f : Syn → Syn) : running (modSyn d f) = running d := rfl
@[simp] theorem ticking_modSyn (f : Syn → Syn) : ticking (modSyn d f) = ticking d := rfl
@[simp] theorem freeVal_modSyn (f : Syn → Syn) : freeVal (modSyn d f) = freeVal d := rfl
@[simp] theorem rd_modPin (r : Nat) (j : Nat) (f : Pin → Pin) : rd (modPin d j f) r = rd d r := rfl
@[simp] theorem fld_modPin (r hi lo : Nat) (j : Nat) (f : Pin → Pin) : fld (modPin d j f) r hi lo = fld d r hi lo := rfl
@[simp] theorem flag_modPin (r bitNo : Nat) (j : Nat) (f : Pin → Pin) : flag (modPin d j f) r bitNo = flag d r bitNo := rfl
@[simp] theorem cnt_modPin (r : Nat) (j : Nat) (f : Pin → Pin) : cnt (modPin d j f) r = cnt d r := rfl
@[simp] theorem running_modPin (j : Nat) (f : Pin → Pin) : running (modPin d j f) = running d := rfl
@[simp] theorem ticking_modPin (j : Nat) (f : Pin → Pin) : ticking (modPin d j f) = ticking d := rfl
@[simp] theorem freeVal_modPin (j : Nat) (f : Pin → Pin) : freeVal (modPin d j f) = freeVal d := rfl
@[simp] theorem rd_modShaft (r : Nat) (n : Nat) (f : Shaft → Shaft) : rd (modShaft d n f) r = rd d r := rfl
@[simp] theorem fld_modShaft (r hi lo : Nat) (n : Nat) (f : Shaft → Shaft) : fld (modShaft d n f) r hi lo = fld d r hi lo := rfl
@[simp] theorem flag_modShaft (r bitNo : Nat) (n : Nat) (f : Shaft → Shaft) : flag (modShaft d n f) r bitNo = flag d r bitNo := rfl
@[simp] theorem cnt_modShaft (r : Nat) (n : Nat) (f : Shaft → Shaft) : cnt (modShaft d n f) r = cnt d r := rfl
@[simp] theorem running_modShaft (n : Nat) (f : Shaft → Shaft) : running (modShaft d n f) = running d := rfl
@[simp] theorem ticking_modShaft (n : Nat) (f : Shaft → Shaft) : ticking (modShaft d n f) = ticking d := rfl
@[simp] theorem freeVal_modShaft (n : Nat) (f : Shaft → Shaft) : freeVal (modShaft d n f) = freeVal d := rfl
@[simp] theorem rd_modCf (r : Nat) (f : ColdFrame → ColdFrame) : rd (modCf d f) r = rd d r := rfl
@[simp] theorem fld_modCf (r hi lo : Nat) (f : ColdFrame → ColdFrame) : fld (modCf d f) r hi lo = fld d r hi lo := rfl
@[simp] theorem flag_modCf (r bitNo : Nat) (f : ColdFrame → ColdFrame) : flag (modCf d f) r bitNo = flag d r bitNo := rfl
@[simp] theorem cnt_modCf (r : Nat) (f : ColdFrame → ColdFrame) : cnt (modCf d f) r = cnt d r := rfl
@[simp] theorem running_modCf (f : ColdFrame → ColdFrame) : running (modCf d f) = running d := rfl
@[simp] theorem ticking_modCf (f : ColdFrame → ColdFrame) : ticking (modCf d f) = ticking d := rfl
@[simp] theorem freeVal_modCf (f : ColdFrame → ColdFrame) : freeVal (modCf d f) = freeVal d := rfl

end Sys2Proof.Machine
end

