-- ==== Sys2Proof/Laws/Ops.lean ====
section
/-! SUPPORT. What the shared operations do, each said once: registers and their flags, counters, the units' records, time that
passes, and a row as a run of its own effect. -/

namespace Sys2Proof.Machine

set_option Elab.async false

open Sys2Proof

/-! ### Registers -/

/-- A register reads what was written, modulo 2^32. -/
@[simp] theorem rd_wr_self (d : Device) (a v : Nat) : rd (wr d a v) a = v % 2 ^ 32 := by
  simp [rd]

/-- A write leaves every other register. -/
theorem rd_wr_other (d : Device) {a b : Nat} (v : Nat) (h : b ≠ a) : rd (wr d a v) b = rd d b := by
  simp [rd, h]

/-- A register is below 2^32. -/
theorem rd_lt (d : Device) (a : Nat) : rd d a < 2 ^ 32 := (tget regDflt d.regs a).isLt

/-- Writing a field leaves every other register. -/
theorem rd_setFld_other (d : Device) {a b : Nat} (hi lo v : Nat) (h : b ≠ a) : rd (setFld d a hi lo v) b = rd d b :=
  rd_wr_other d _ h

/-- Writing a flag leaves every other register. -/
theorem rd_setFlag_other (d : Device) {a b : Nat} (k : Nat) (v : Bool) (h : b ≠ a) : rd (setFlag d a k v) b = rd d b :=
  rd_wr_other d _ h

/-- An event leaves every other register. -/
theorem rd_event_other (d : Device) {a b : Nat} (k : Nat) (h : b ≠ a) : rd (event d a k) b = rd d b :=
  rd_wr_other d _ h

/-- A bit of a number, by the library's word for it. -/
theorem bit_eq_testBit (v k : Nat) : bit v k = v.testBit k := by
  rw [Nat.testBit_eq_decide_div_mod_eq, bit]
  rcases Nat.mod_two_eq_zero_or_one (v / 2 ^ k) with h | h <;> simp [h]

/-- Bit k of a word whose bit k has been replaced. -/
theorem bit_withBits (v k : Nat) (b : Bool) (hk : k < 32) : bit (withBits v k k (b2n b) % 2 ^ 32) k = b := by
  have hp : 0 < 2 ^ k := Nat.two_pow_pos k
  rw [bit_eq_testBit, Nat.testBit_mod_two_pow, ← bit_eq_testBit]
  have hx : b2n b % 2 = b2n b := by cases b <;> rfl
  have hb : b2n b < 2 := by cases b <;> decide
  have hn : withBits v k k (b2n b) = v % 2 ^ k + 2 ^ k * (2 * (v / 2 ^ k / 2) + b2n b) := by
    have h1 := Nat.div_add_mod v (2 ^ k)
    have h2 := Nat.div_add_mod (v / 2 ^ k) 2
    have h3 : 2 ^ k * (v / 2 ^ k) = 2 ^ k * (2 * (v / 2 ^ k / 2)) + v / 2 ^ k % 2 * 2 ^ k := by
      rw [← Nat.mul_comm (2 ^ k) (v / 2 ^ k % 2), ← Nat.mul_add, h2]
    simp only [withBits, bits, Nat.add_sub_cancel_left, Nat.pow_one, hx, Nat.mul_add]
    rw [Nat.mul_comm (b2n b)]
    omega
  rw [hn, bit, Nat.add_mul_div_left _ _ hp, Nat.div_eq_of_lt (Nat.mod_lt _ hp)]
  simp only [hk, decide_true, Bool.true_and, Nat.zero_add]
  cases b <;> simp [b2n]

/-- A flag reads what was written. -/
theorem flag_setFlag_self (d : Device) (a k : Nat) (b : Bool) (hk : k < 32) : flag (setFlag d a k b) a k = b := by
  simp only [flag, setFlag, setFld, rd_wr_self]
  exact bit_withBits _ _ _ hk

/-- An event bit is set once its event has happened (R517). -/
theorem flag_event (d : Device) (a k : Nat) (hk : k < 32) : flag (event d a k) a k = true := flag_setFlag_self d a k true hk

/-- Flags of other registers are untouched. -/
theorem flag_setFlag_other (d : Device) {a b : Nat} (k j : Nat) (v : Bool) (h : b ≠ a) :
    flag (setFlag d a k v) b j = flag d b j := by
  simp [flag, rd_setFlag_other d k v h]

/-- The memory of the registers keeps its canonical form. -/
theorem regs_wf_wr (d : Device) (a v : Nat) (h : twf regDflt d.regs = true) : twf regDflt (wr d a v).regs = true :=
  twf_tset _ _ _ _ h

/-! ### Devices that differ in registers alone -/

/-- Every device differs from itself in nothing. -/
theorem same_refl (l : List Nat) (d : Device) : SameButRegs l d d := ⟨fun _ _ => rfl, rfl⟩

/-- A write of a register of the list. -/
theorem same_wr {l : List Nat} (d : Device) {a : Nat} (v : Nat) (h : a ∈ l) : SameButRegs l d (wr d a v) :=
  ⟨fun _ hb => rd_wr_other d v (fun e => hb (e ▸ h)), rfl⟩

/-- A flag of a register of the list. -/
theorem same_setFlag {l : List Nat} (d : Device) {a : Nat} (k : Nat) (v : Bool) (h : a ∈ l) : SameButRegs l d (setFlag d a k v) :=
  same_wr d _ h

/-- An event of the list. -/
theorem same_event {l : List Nat} (d : Device) {a : Nat} (k : Nat) (h : a ∈ l) : SameButRegs l d (event d a k) :=
  same_wr d _ h

/-- One change after another. -/
theorem same_trans {l : List Nat} {d e f : Device} (h : SameButRegs l d e) (g : SameButRegs l e f) : SameButRegs l d f := by
  refine ⟨fun a ha => (g.1 a ha).trans (h.1 a ha), ?_⟩
  rw [← h.2, ← g.2]

/-- The clocks go on as they were. -/
theorem same_running {l : List Nat} {d e : Device} (h : SameButRegs l d e) : running e = running d := by
  rw [← h.2]; rfl

/-! ### Counters -/

/-- A counter reads what was set. -/
@[simp] theorem cnt_setCnt_self (d : Device) (a v : Nat) : cnt (setCnt d a v) a = v := by simp [cnt]

/-- Setting a counter leaves every other. -/
theorem cnt_setCnt_other (d : Device) {a b : Nat} (v : Nat) (h : b ≠ a) : cnt (setCnt d a v) b = cnt d b := by simp [cnt, h]

/-- A counter that is counted has its width's sum. -/
theorem cnt_count (d : Device) (a k : Nat) (i : CntInfo) (h : cntInfo a = some i) :
    cnt (count d a k) a = (cnt d a + k) % 2 ^ i.width := by
  simp only [count, h]
  split
  · simp
  · split <;> simp

/-- Counting leaves every other counter. -/
theorem cnt_count_other (d : Device) {a b : Nat} (k : Nat) (h : b ≠ a) : cnt (count d a k) b = cnt d b := by
  simp only [count]
  split
  · rfl
  · split
    · simp [cnt, h]
    · split <;> simp [cnt, h]

/-- Where a counter does not wrap, counting changes that counter alone. -/
theorem count_no_wrap (d : Device) (a k : Nat) (i : CntInfo) (h : cntInfo a = some i) (hv : cnt d a + k < 2 ^ i.width) :
    count d a k = setCnt d a (cnt d a + k) := by
  simp [count, h, hv, Nat.mod_eq_of_lt hv]

/-! Counting touches neither the units nor what goes out. -/

@[simp] theorem count_fuse (d : Device) (a k : Nat) : (count d a k).fuse = d.fuse := by
  simp only [count]; split <;> (try split) <;> (try split) <;> rfl
@[simp] theorem bump_fuse (d : Device) (a : Nat) : (bump d a).fuse = d.fuse := count_fuse d a 1
@[simp] theorem count_cmd (d : Device) (a k : Nat) : (count d a k).cmd = d.cmd := by
  simp only [count]; split <;> (try split) <;> (try split) <;> rfl
@[simp] theorem bump_cmd (d : Device) (a : Nat) : (bump d a).cmd = d.cmd := count_cmd d a 1
@[simp] theorem count_pwr (d : Device) (a k : Nat) : (count d a k).pwr = d.pwr := by
  simp only [count]; split <;> (try split) <;> (try split) <;> rfl
@[simp] theorem bump_pwr (d : Device) (a : Nat) : (bump d a).pwr = d.pwr := count_pwr d a 1
@[simp] theorem count_clk (d : Device) (a k : Nat) : (count d a k).clk = d.clk := by
  simp only [count]; split <;> (try split) <;> (try split) <;> rfl
@[simp] theorem bump_clk (d : Device) (a : Nat) : (bump d a).clk = d.clk := count_clk d a 1
@[simp] theorem count_cf (d : Device) (a k : Nat) : (count d a k).cf = d.cf := by
  simp only [count]; split <;> (try split) <;> (try split) <;> rfl
@[simp] theorem bump_cf (d : Device) (a : Nat) : (bump d a).cf = d.cf := count_cf d a 1
@[simp] theorem count_bus (d : Device) (a k : Nat) : (count d a k).bus = d.bus := by
  simp only [count]; split <;> (try split) <;> (try split) <;> rfl
@[simp] theorem bump_bus (d : Device) (a : Nat) : (bump d a).bus = d.bus := count_bus d a 1
@[simp] theorem count_flt (d : Device) (a k : Nat) : (count d a k).flt = d.flt := by
  simp only [count]; split <;> (try split) <;> (try split) <;> rfl
@[simp] theorem bump_flt (d : Device) (a : Nat) : (bump d a).flt = d.flt := count_flt d a 1
@[simp] theorem count_red (d : Device) (a k : Nat) : (count d a k).red = d.red := by
  simp only [count]; split <;> (try split) <;> (try split) <;> rfl
@[simp] theorem bump_red (d : Device) (a : Nat) : (bump d a).red = d.red := count_red d a 1
@[simp] theorem count_eng (d : Device) (a k : Nat) : (count d a k).eng = d.eng := by
  simp only [count]; split <;> (try split) <;> (try split) <;> rfl
@[simp] theorem bump_eng (d : Device) (a : Nat) : (bump d a).eng = d.eng := count_eng d a 1
@[simp] theorem count_syn (d : Device) (a k : Nat) : (count d a k).syn = d.syn := by
  simp only [count]; split <;> (try split) <;> (try split) <;> rfl
@[simp] theorem bump_syn (d : Device) (a : Nat) : (bump d a).syn = d.syn := count_syn d a 1
@[simp] theorem count_core (d : Device) (a k : Nat) : (count d a k).core = d.core := by
  simp only [count]; split <;> (try split) <;> (try split) <;> rfl
@[simp] theorem bump_core (d : Device) (a : Nat) : (bump d a).core = d.core := count_core d a 1
@[simp] theorem count_fwd (d : Device) (a k : Nat) : (count d a k).fwd = d.fwd := by
  simp only [count]; split <;> (try split) <;> (try split) <;> rfl
@[simp] theorem bump_fwd (d : Device) (a : Nat) : (bump d a).fwd = d.fwd := count_fwd d a 1
@[simp] theorem count_trl (d : Device) (a k : Nat) : (count d a k).trl = d.trl := by
  simp only [count]; split <;> (try split) <;> (try split) <;> rfl
@[simp] theorem bump_trl (d : Device) (a : Nat) : (bump d a).trl = d.trl := count_trl d a 1
@[simp] theorem count_meters (d : Device) (a k : Nat) : (count d a k).meters = d.meters := by
  simp only [count]; split <;> (try split) <;> (try split) <;> rfl
@[simp] theorem bump_meters (d : Device) (a : Nat) : (bump d a).meters = d.meters := count_meters d a 1
@[simp] theorem count_tb (d : Device) (a k : Nat) : (count d a k).tb = d.tb := by
  simp only [count]; split <;> (try split) <;> (try split) <;> rfl
@[simp] theorem bump_tb (d : Device) (a : Nat) : (bump d a).tb = d.tb := count_tb d a 1
@[simp] theorem count_outs (d : Device) (a k : Nat) : (count d a k).outs = d.outs := by
  simp only [count]; split <;> (try split) <;> (try split) <;> rfl
@[simp] theorem bump_outs (d : Device) (a : Nat) : (bump d a).outs = d.outs := count_outs d a 1
@[simp] theorem count_lanes (d : Device) (a k : Nat) : (count d a k).lanes = d.lanes := by
  simp only [count]; split <;> (try split) <;> (try split) <;> rfl
@[simp] theorem bump_lanes (d : Device) (a : Nat) : (bump d a).lanes = d.lanes := count_lanes d a 1
@[simp] theorem count_ladders (d : Device) (a k : Nat) : (count d a k).ladders = d.ladders := by
  simp only [count]; split <;> (try split) <;> (try split) <;> rfl
@[simp] theorem bump_ladders (d : Device) (a : Nat) : (bump d a).ladders = d.ladders := count_ladders d a 1
@[simp] theorem count_ports (d : Device) (a k : Nat) : (count d a k).ports = d.ports := by
  simp only [count]; split <;> (try split) <;> (try split) <;> rfl
@[simp] theorem bump_ports (d : Device) (a : Nat) : (bump d a).ports = d.ports := count_ports d a 1
@[simp] theorem count_now (d : Device) (a k : Nat) : (count d a k).now = d.now := by
  simp only [count]; split <;> (try split) <;> (try split) <;> rfl
@[simp] theorem bump_now (d : Device) (a : Nat) : (bump d a).now = d.now := count_now d a 1
@[simp] theorem count_dev (d : Device) (a k : Nat) : (count d a k).dev = d.dev := by
  simp only [count]; split <;> (try split) <;> (try split) <;> rfl
@[simp] theorem bump_dev (d : Device) (a : Nat) : (bump d a).dev = d.dev := count_dev d a 1
@[simp] theorem count_tick (d : Device) (a k : Nat) : (count d a k).tick = d.tick := by
  simp only [count]; split <;> (try split) <;> (try split) <;> rfl
@[simp] theorem bump_tick (d : Device) (a : Nat) : (bump d a).tick = d.tick := count_tick d a 1
@[simp] theorem count_fresh (d : Device) (a k : Nat) : (count d a k).fresh = d.fresh := by
  simp only [count]; split <;> (try split) <;> (try split) <;> rfl
@[simp] theorem bump_fresh (d : Device) (a : Nat) : (bump d a).fresh = d.fresh := count_fresh d a 1
@[simp] theorem count_emitted (d : Device) (a k : Nat) : (count d a k).emitted = d.emitted := by
  simp only [count]; split <;> (try split) <;> (try split) <;> rfl
@[simp] theorem bump_emitted (d : Device) (a : Nat) : (bump d a).emitted = d.emitted := count_emitted d a 1
@[simp] theorem count_occs (d : Device) (a k : Nat) : (count d a k).occs = d.occs := by
  simp only [count]; split <;> (try split) <;> (try split) <;> rfl
@[simp] theorem bump_occs (d : Device) (a : Nat) : (bump d a).occs = d.occs := count_occs d a 1
@[simp] theorem count_moves (d : Device) (a k : Nat) : (count d a k).moves = d.moves := by
  simp only [count]; split <;> (try split) <;> (try split) <;> rfl
@[simp] theorem bump_moves (d : Device) (a : Nat) : (bump d a).moves = d.moves := count_moves d a 1
@[simp] theorem running_bump (d : Device) (a : Nat) : running (bump d a) = running d := by simp [running]

/-! ### The units' records -/

/-- The record that was changed. -/
@[simp] theorem lane_modLane_self (d : Device) (n : Nat) (f : Lane → Lane) : lane (modLane d n f) n = f (lane d n) := by
  simp [lane, modLane, tmod]
/-- Every other record. -/
theorem lane_modLane_other (d : Device) {n j : Nat} (f : Lane → Lane) (h : j ≠ n) : lane (modLane d n f) j = lane d j := by
  simp [lane, modLane, tmod, h]
/-- The record that was changed. -/
@[simp] theorem ladderOf_modLadder_self (d : Device) (n : Nat) (f : Ladder → Ladder) : ladderOf (modLadder d n f) n = f (ladderOf d n) := by
  simp [ladderOf, modLadder, tmod]
/-- Every other record. -/
theorem ladderOf_modLadder_other (d : Device) {n j : Nat} (f : Ladder → Ladder) (h : j ≠ n) : ladderOf (modLadder d n f) j = ladderOf d j := by
  simp [ladderOf, modLadder, tmod, h]
/-- The record that was changed. -/
@[simp] theorem portOf_modPort_self (d : Device) (n : Nat) (f : Port → Port) : portOf (modPort d n f) n = f (portOf d n) := by
  simp [portOf, modPort, tmod]
/-- Every other record. -/
theorem portOf_modPort_other (d : Device) {n j : Nat} (f : Port → Port) (h : j ≠ n) : portOf (modPort d n f) j = portOf d j := by
  simp [portOf, modPort, tmod, h]
/-- The record that was changed. -/
@[simp] theorem outOf_modOut_self (d : Device) (n : Nat) (f : Output → Output) : outOf (modOut d n f) n = f (outOf d n) := by
  simp [outOf, modOut, tmod]
/-- Every other record. -/
theorem outOf_modOut_other (d : Device) {n j : Nat} (f : Output → Output) (h : j ≠ n) : outOf (modOut d n f) j = outOf d j := by
  simp [outOf, modOut, tmod, h]
/-- The record that was changed. -/
@[simp] theorem meterOf_modMeter_self (d : Device) (n : Nat) (f : Meter → Meter) : meterOf (modMeter d n f) n = f (meterOf d n) := by
  simp [meterOf, modMeter, tmod]
/-- Every other record. -/
theorem meterOf_modMeter_other (d : Device) {n j : Nat} (f : Meter → Meter) (h : j ≠ n) : meterOf (modMeter d n f) j = meterOf d j := by
  simp [meterOf, modMeter, tmod, h]
/-- The record that was changed. -/
@[simp] theorem trlOf_modTrl_self (d : Device) (n : Nat) (f : Trellis → Trellis) : trlOf (modTrl d n f) n = f (trlOf d n) := by
  simp [trlOf, modTrl, tmod]
/-- Every other record. -/
theorem trlOf_modTrl_other (d : Device) {n j : Nat} (f : Trellis → Trellis) (h : j ≠ n) : trlOf (modTrl d n f) j = trlOf d j := by
  simp [trlOf, modTrl, tmod, h]
/-- The record that was changed. -/
@[simp] theorem pinOf_modPin_self (d : Device) (n : Nat) (f : Pin → Pin) : pinOf (modPin d n f) n = f (pinOf d n) := by
  simp [pinOf, modPin, tmod, modSyn]
/-- Every other record. -/
theorem pinOf_modPin_other (d : Device) {n j : Nat} (f : Pin → Pin) (h : j ≠ n) : pinOf (modPin d n f) j = pinOf d j := by
  simp [pinOf, modPin, tmod, h, modSyn]
/-- The record that was changed. -/
@[simp] theorem shaftOf_modShaft_self (d : Device) (n : Nat) (f : Shaft → Shaft) : shaftOf (modShaft d n f) n = f (shaftOf d n) := by
  simp [shaftOf, modShaft, tmod, modSyn]
/-- Every other record. -/
theorem shaftOf_modShaft_other (d : Device) {n j : Nat} (f : Shaft → Shaft) (h : j ≠ n) : shaftOf (modShaft d n f) j = shaftOf d j := by
  simp [shaftOf, modShaft, tmod, h, modSyn]
/-- The record that was changed. -/
@[simp] theorem applet_modApplet_self (d : Device) (n : Nat) (f : Applet → Applet) : applet (modApplet d n f) n = f (applet d n) := by
  simp [applet, modApplet, tmod]
/-- Every other record. -/
theorem applet_modApplet_other (d : Device) {n j : Nat} (f : Applet → Applet) (h : j ≠ n) : applet (modApplet d n f) j = applet d j := by
  simp [applet, modApplet, tmod, h]
/-- The time base that was changed. -/
@[simp] theorem tbOf_modTb_self (d : Device) (x n : Nat) (f : TimeBase → TimeBase) : tbOf (modTb d x n f) x n = f (tbOf d x n) := by
  simp [tbOf, modTb, tmod]
/-- Every other time base. -/
theorem tbOf_modTb_other (d : Device) {x n y m : Nat} (f : TimeBase → TimeBase) (h : 8 * y + m ≠ 8 * x + n) :
    tbOf (modTb d x n f) y m = tbOf d y m := by
  simp [tbOf, modTb, tmod, h]

/-! ### Staged words and shadows -/

/-- The application takes the word staged. -/
@[simp] theorem stagedOr_stage (d : Device) (v : View) (a x : Nat) : stagedOr (stage d v a x) v a = x % 2 ^ 32 := by
  simp [stagedOr, stage, w32]

/-- Once applied, the word is the register's. -/
@[simp] theorem stagedOr_unstage (d : Device) (v : View) (a : Nat) : stagedOr (unstage d v a) v a = rd d a := by
  simp [stagedOr, unstage]

/-- Staging changes no register. -/
@[simp] theorem rd_stage (d : Device) (v : View) (a x r : Nat) : rd (stage d v a x) r = rd d r := rfl

/-! ### What counting and sampling touch -/

/-- The registers that a counter of the engine and PMC blocks may write lie in those blocks. -/
theorem cntInfo_engine {a : Nat} {i : CntInfo} (ha : 0x200000 ≤ a) (h : cntInfo a = some i) :
    0x200000 ≤ i.ovf ∧ ∀ r b, i.ev = some (r, b) → 0x200000 ≤ r := by
  have hb : 0x200000 ≤ a / 8 * 8 := by omega
  unfold cntInfo at h
  generalize a / 8 * 8 = c at h hb
  simp only [show ¬ c < 0x20000 by omega, show ¬ c < 0x30000 by omega, show ¬ c < 0x50000 by omega,
    show ¬ c < 0x60000 by omega, show ¬ c < 0x70000 by omega, show ¬ c < 0x80000 by omega, show ¬ c < 0x90000 by omega,
    show ¬ c < 0x140000 by omega, show ¬ c < 0x168000 by omega, show ¬ c < 0x1A0000 by omega, show ¬ c < 0x1B5000 by omega,
    show ¬ c < 0x200000 by omega, if_false] at h
  repeat' split at h
  all_goals (try (cases h; done))
  all_goals cases h
  · exact ⟨by simp only [Reg.ENG_FE_CNT_OVF]; omega, fun r b hr => by cases hr; simp only [Reg.ENG_FE_EVENT]; omega⟩
  · exact ⟨by simp only [Reg.ENG_ME_CNT_OVF]; omega, fun r b hr => by cases hr⟩
  · exact ⟨show 0x200000 ≤ Reg.PMC_OVF_LO by decide, fun r b hr => by cases hr; decide⟩
  · exact ⟨show 0x200000 ≤ Reg.PMC_OVF_HI by decide, fun r b hr => by cases hr; decide⟩

/-- Two devices that differ at most in the engines' record, the counters, the free values taken, and the registers of the engine and
PMC blocks and beyond. -/
def SameButEngines (d e : Device) : Prop :=
  (∀ a, a < 0x200000 → rd e a = rd d a) ∧
  { e with regs := d.regs, parityBad := d.parityBad, cnts := d.cnts, eng := d.eng, fresh := d.fresh } = d

theorem sameEng_refl (d : Device) : SameButEngines d d := ⟨fun _ _ => rfl, rfl⟩

theorem sameEng_trans {d e f : Device} (h : SameButEngines d e) (g : SameButEngines e f) : SameButEngines d f := by
  obtain ⟨h1, h2⟩ := h
  obtain ⟨g1, g2⟩ := g
  refine ⟨fun a ha => (g1 a ha).trans (h1 a ha), ?_⟩
  have g3 := congrArg (fun x : Device =>
    { x with regs := d.regs, parityBad := d.parityBad, cnts := d.cnts, eng := d.eng, fresh := d.fresh }) g2
  exact g3.trans h2

/-- A write beyond the tables of the lower blocks. -/
theorem sameEng_wr (d : Device) {a : Nat} (v : Nat) (h : 0x200000 ≤ a) : SameButEngines d (wr d a v) :=
  ⟨fun b hb => rd_wr_other d v (by omega), rfl⟩

theorem sameEng_each {α : Type} (l : List α) (d : Device) (f : Device → α → Device) (h : ∀ e x, SameButEngines e (f e x)) :
    SameButEngines d (each l d f) := by
  unfold each
  induction l generalizing d with
  | nil => exact sameEng_refl d
  | cons x l ih => exact sameEng_trans (h d x) (ih (f d x))

/-- A counter of those blocks. -/
theorem sameEng_count (d : Device) {a : Nat} (k : Nat) (ha : 0x200000 ≤ a) : SameButEngines d (count d a k) := by
  unfold count
  split
  · exact sameEng_refl d
  · rename_i i hi
    obtain ⟨h1, h2⟩ := cntInfo_engine ha hi
    have hc (v : Nat) : SameButEngines d (setCnt d a v) := ⟨fun _ _ => rfl, rfl⟩
    dsimp only
    split
    · exact hc _
    · split
      · rename_i r b hr
        exact sameEng_trans (hc _) (sameEng_trans (sameEng_wr _ _ h1) (sameEng_wr _ _ (h2 r b hr)))
      · exact sameEng_trans (hc _) (sameEng_wr _ _ h1)

/-- The selections lie in those blocks. -/
theorem pmcSel_engine {a v lo u ev : Nat} {m en : Bool} (h : pmcSel a v = some (lo, u, ev, m, en)) : 0x200000 ≤ lo := by
  unfold pmcSel at h
  dsimp only at h
  repeat' split at h
  all_goals (try (cases h; done))
  all_goals
    cases h
    simp only [Reg.PMC_G_LO, Reg.ENG_FE_CNT_LO, Reg.ENG_ME_CNT_LO]
    omega

/-- Counting events. -/
theorem sameEng_pmcEach (d : Device) (f : Nat → Nat → Bool → Nat) : SameButEngines d (pmcEach d f) := by
  unfold pmcEach
  split
  · refine sameEng_each _ _ _ fun e x => ?_
    split
    · rename_i h
      split
      · exact sameEng_refl e
      · exact sameEng_count e _ (pmcSel_engine h)
    · exact sameEng_refl e
  · exact sameEng_refl d

/-- The engines' record, and the count of free values. -/
theorem sameEng_eng (d : Device) (g : Engines) : SameButEngines d { d with eng := g } := ⟨fun _ _ => rfl, rfl⟩
theorem sameEng_nextFree (d : Device) : SameButEngines d (nextFree d) := ⟨fun _ _ => rfl, rfl⟩

/-- Sampling. -/
theorem sameEng_smpEngine (w b : Nat) (d : Device) (i : Nat) : SameButEngines d (smpEngine w b d i) := by
  unfold smpEngine
  extract_lets v g run k old seq m l full e
  split
  · exact sameEng_refl d
  · have he : SameButEngines d e := sameEng_eng d _
    unfold eventIf
    split
    · exact sameEng_trans he (sameEng_wr _ _ (by decide))
    · exact he

/-- What the counters and sampling buffers take in w ticks touches nothing else. -/
theorem sameEng_codePass (d : Device) (w : Nat) : SameButEngines d (codePass d w) := by
  unfold codePass
  split
  · exact sameEng_trans (sameEng_trans (sameEng_pmcEach d _)
      (sameEng_each _ _ _ fun e b => sameEng_each _ _ _ fun e i => sameEng_smpEngine w b e i)) (sameEng_nextFree _)
  · exact sameEng_refl d

/-! ### Time that passes, and a row -/

/-- The queue is untouched by a row. -/
@[simp] theorem after_pending (w : Nat) (s : State) (e : Device) : (after w s e).pending = s.pending := rfl
/-- A row takes the time it is given. -/
@[simp] theorem after_now (w : Nat) (s : State) (e : Device) : (after w s e).dev.now = s.dev.now + w := rfl
/-- No row changes a fuse (R4). -/
@[simp] theorem after_fuse (w : Nat) (s : State) (e : Device) : (after w s e).dev.fuse = s.dev.fuse := rfl
/-- The time with running clocks is that of the ticks that passed. -/
@[simp] theorem after_dev (w : Nat) (s : State) (e : Device) : (after w s e).dev.dev = (wait w s.dev).dev := rfl

end Sys2Proof.Machine
end

