-- ==== Sys2Proof/Laws/Step.lean ====
section
/-! SUPPORT. What a step does, said once for every row: a run of some effect at the row's own time. Whatever holds of every step goes
through this and never unfolds the dispatch. -/

namespace Sys2Proof.Machine

set_option Elab.async false

open Sys2Proof

/-- Every row is a run of some effect on the device, at its own time. -/
theorem exec_run (c : Instr) (s : State) : ∃ f : Device → Device, exec c s = run c.ticks s f := by
  cases c with
  | devInfo w o p => exact ⟨_, exec_devInfo w o p s⟩
  | functionReset w o p => exact ⟨_, exec_functionReset w o p s⟩
  | setLatencyTolerance w o p => exact ⟨_, exec_setLatencyTolerance w o p s⟩
  | abort w o p => exact ⟨_, exec_abort w o p s⟩
  | fence w o p => exact ⟨_, exec_fence w o p s⟩
  | portConfig w o p => exact ⟨_, exec_portConfig w o p s⟩
  | portEnable w o p => exact ⟨_, exec_portEnable w o p s⟩
  | portDisable w o p => exact ⟨_, exec_portDisable w o p s⟩
  | portStatus w o p => exact ⟨_, exec_portStatus w o p s⟩
  | laneLadder w o p => exact ⟨_, exec_laneLadder w o p s⟩
  | portRegang w o p => exact ⟨_, exec_portRegang w o p s⟩
  | fdbWrite w o p => exact ⟨_, exec_fdbWrite w o p s⟩
  | fdbRead w o p => exact ⟨_, exec_fdbRead w o p s⟩
  | streamIdWrite w o p => exact ⟨_, exec_streamIdWrite w o p s⟩
  | mcastGroupWrite w o p => exact ⟨_, exec_mcastGroupWrite w o p s⟩
  | queueConfig w o p => exact ⟨_, exec_queueConfig w o p s⟩
  | gateListLoad w o p => exact ⟨_, exec_gateListLoad w o p s⟩
  | gateListSwap w o p => exact ⟨_, exec_gateListSwap w o p s⟩
  | timedLaunch w o p => exact ⟨_, exec_timedLaunch w o p s⟩
  | tbRead w o p => exact ⟨_, exec_tbRead w o p s⟩
  | tbSet w o p => exact ⟨_, exec_tbSet w o p s⟩
  | tbStep w o p => exact ⟨_, exec_tbStep w o p s⟩
  | tbSetIncr w o p => exact ⟨_, exec_tbSetIncr w o p s⟩
  | ptpPortConfig w o p => exact ⟨_, exec_ptpPortConfig w o p s⟩
  | asymSet w o p => exact ⟨_, exec_asymSet w o p s⟩
  | trellisTableLoad w o p => exact ⟨_, exec_trellisTableLoad w o p s⟩
  | trellisForce w o p => exact ⟨_, exec_trellisForce w o p s⟩
  | trellisStatus w o p => exact ⟨_, exec_trellisStatus w o p s⟩
  | dcoSteer w o p => exact ⟨_, exec_dcoSteer w o p s⟩
  | measJobStart w o p => exact ⟨_, exec_measJobStart w o p s⟩
  | measResult w o p => exact ⟨_, exec_measResult w o p s⟩
  | cfIdentity w o p => exact ⟨_, exec_cfIdentity w o p s⟩
  | cfAuditRead w o p => exact ⟨_, exec_cfAuditRead w o p s⟩
  | shaftConfig w o p => exact ⟨_, exec_shaftConfig w o p s⟩
  | shaftMotion w o p => exact ⟨_, exec_shaftMotion w o p s⟩
  | syncPinClaim w o p => exact ⟨_, exec_syncPinClaim w o p s⟩
  | syncPinRelease w o p => exact ⟨_, exec_syncPinRelease w o p s⟩
  | appletLoad w o p => exact ⟨_, exec_appletLoad w o p s⟩
  | appletStart w o p => exact ⟨_, exec_appletStart w o p s⟩
  | appletStop w o p => exact ⟨_, exec_appletStop w o p s⟩
  | pmcConfig w o p => exact ⟨_, exec_pmcConfig w o p s⟩
  | faultRead w o p => exact ⟨_, exec_faultRead w o p s⟩
  | faultAck w o p => exact ⟨_, exec_faultAck w o p s⟩
  | faultInjectArm w o p => exact ⟨_, exec_faultInjectArm w o p s⟩
  | claimStatus w o p => exact ⟨_, exec_claimStatus w o p s⟩
  | sidePrefer w o p => exact ⟨_, exec_sidePrefer w o p s⟩
  | graftJoin w o p => exact ⟨_, exec_graftJoin w o p s⟩
  | graftLeave w o p => exact ⟨_, exec_graftLeave w o p s⟩
  | bankRetire w o p => exact ⟨_, exec_bankRetire w o p s⟩
  | bankRestore w o p => exact ⟨_, exec_bankRestore w o p s⟩
  | imageWrite w o p => exact ⟨_, exec_imageWrite w o p s⟩
  | imageActivate w o p => exact ⟨_, exec_imageActivate w o p s⟩
  | cmdSqDoorbell w v k x => exact ⟨_, exec_cmdSqDoorbell w v k x s⟩
  | cmdRingReset w v k x => exact ⟨_, exec_cmdRingReset w v k x s⟩
  | cmdCqHeadWrite w v k x => exact ⟨_, exec_cmdCqHeadWrite w v k x s⟩
  | coalUsExpiry w k => exact ⟨_, exec_coalUsExpiry w k s⟩
  | cmdMbxWdata w x => exact ⟨_, exec_cmdMbxWdata w x s⟩
  | submit w => exact ⟨_, exec_submit w s⟩
  | discard w => exact ⟨_, exec_discard w s⟩
  | cmdMbxRdata w => exact ⟨_, exec_cmdMbxRdata w s⟩
  | brelyCommand w bytes => exact ⟨_, exec_brelyCommand w bytes s⟩
  | fenceWaitEnd w o tag => exact ⟨_, exec_fenceWaitEnd w o tag s⟩
  | timeout w o tag => exact ⟨_, exec_timeout w o tag s⟩
  | ladderOfferRx w n m => exact ⟨_, exec_ladderOfferRx w n m s⟩
  | ladderStepRx w n m => exact ⟨_, exec_ladderStepRx w n m s⟩
  | ladderStepAckRx w n m => exact ⟨_, exec_ladderStepAckRx w n m s⟩
  | ladderReportRx w n m => exact ⟨_, exec_ladderReportRx w n m s⟩
  | ladderFinalRx w n m => exact ⟨_, exec_ladderFinalRx w n m s⟩
  | ladderFinalAckRx w n m => exact ⟨_, exec_ladderFinalAckRx w n m s⟩
  | ladderAbandonRx w n m => exact ⟨_, exec_ladderAbandonRx w n m s⟩
  | ladderRepeat w n => exact ⟨_, exec_ladderRepeat w n s⟩
  | offerTmo w n => exact ⟨_, exec_offerTmo w n s⟩
  | adaptTmo w n => exact ⟨_, exec_adaptTmo w n s⟩
  | adaptReportTmo w n => exact ⟨_, exec_adaptReportTmo w n s⟩
  | ladderSwitchDelay w n => exact ⟨_, exec_ladderSwitchDelay w n s⟩
  | laneWindowEnd w g n => exact ⟨_, exec_laneWindowEnd w g n s⟩
  | cdrLost w n => exact ⟨_, exec_cdrLost w n s⟩
  | cdrLock w n ppb => exact ⟨_, exec_cdrLock w n ppb s⟩
  | coarseSweepDone w n foms => exact ⟨_, exec_coarseSweepDone w n foms s⟩
  | adaptRestart w v n => exact ⟨_, exec_adaptRestart w v n s⟩
  | fomMinClr w v n => exact ⟨_, exec_fomMinClr w v n s⟩
  | lanePwrWrite w v n x => exact ⟨_, exec_lanePwrWrite w v n x s⟩
  | lanePowerEntryDone w n dir => exact ⟨_, exec_lanePowerEntryDone w n dir s⟩
  | laneWakeDone w n dir => exact ⟨_, exec_laneWakeDone w n dir s⟩
  | laneTxeqWrite w v n k x => exact ⟨_, exec_laneTxeqWrite w v n k x s⟩
  | prbsCtlWrite w v n x => exact ⟨_, exec_prbsCtlWrite w v n x s⟩
  | slip w n dfs => exact ⟨_, exec_slip w n dfs s⟩
  | phaseAcqTimer w n => exact ⟨_, exec_phaseAcqTimer w n s⟩
  | phaseWindowPublish w n unwrapped rate => exact ⟨_, exec_phaseWindowPublish w n unwrapped rate s⟩
  | skewMarkerPeriod w n diff => exact ⟨_, exec_skewMarkerPeriod w n diff s⟩
  | txAlignErr w n => exact ⟨_, exec_txAlignErr w n s⟩
  | txRealign w n => exact ⟨_, exec_txRealign w n s⟩
  | kTempUpdate w n tjMilli => exact ⟨_, exec_kTempUpdate w n tjMilli s⟩
  | portAlphaHiWrite w v n x => exact ⟨_, exec_portAlphaHiWrite w v n x s⟩
  | rxFrame w n f => exact ⟨_, exec_rxFrame w n f s⟩
  | linkFault w n c => exact ⟨_, exec_linkFault w n c s⟩
  | linkOkHeld w n => exact ⟨_, exec_linkOkHeld w n s⟩
  | downHoldElapsed w n => exact ⟨_, exec_downHoldElapsed w n s⟩
  | recoveryAttemptFail w n => exact ⟨_, exec_recoveryAttemptFail w n s⟩
  | drainQueuesEmpty w n => exact ⟨_, exec_drainQueuesEmpty w n s⟩
  | drainTmo w n => exact ⟨_, exec_drainTmo w n s⟩
  | linkRestart w v n => exact ⟨_, exec_linkRestart w v n s⟩
  | l1SyncTlvRx w n flags optParams => exact ⟨_, exec_l1SyncTlvRx w n flags optParams s⟩
  | l1SyncTlvSend w n => exact ⟨_, exec_l1SyncTlvSend w n s⟩
  | l1SyncReceiptTmo w n => exact ⟨_, exec_l1SyncReceiptTmo w n s⟩
  | l1CfgWrite w v n x => exact ⟨_, exec_l1CfgWrite w v n x s⟩
  | hostFrameInject w pre bytes => exact ⟨_, exec_hostFrameInject w pre bytes s⟩
  | frameLink w pl ram => exact ⟨_, exec_frameLink w pl ram s⟩
  | rakeGap w out src tc => exact ⟨_, exec_rakeGap w out src tc s⟩
  | tendedRelease w out => exact ⟨_, exec_tendedRelease w out s⟩
  | ageDrop w out tc timed => exact ⟨_, exec_ageDrop w out tc timed s⟩
  | fdbAgeing w bucket way => exact ⟨_, exec_fdbAgeing w bucket way s⟩
  | recoveryResetTmo w i => exact ⟨_, exec_recoveryResetTmo w i s⟩
  | txComplete w out ram => exact ⟨_, exec_txComplete w out ram s⟩
  | freeListAudit w ram => exact ⟨_, exec_freeListAudit w ram s⟩
  | bankRetired w b => exact ⟨_, exec_bankRetired w b s⟩
  | bankTestDone w b pass => exact ⟨_, exec_bankTestDone w b pass s⟩
  | bankRateWindow w b => exact ⟨_, exec_bankRateWindow w b s⟩
  | selectionPoint w out errs ram => exact ⟨_, exec_selectionPoint w out errs ram s⟩
  | timedLaunchReady w n => exact ⟨_, exec_timedLaunchReady w n s⟩
  | launchTick w n errs => exact ⟨_, exec_launchTick w n errs s⟩
  | launchDrop w n => exact ⟨_, exec_launchDrop w n s⟩
  | gateBoundary w n => exact ⟨_, exec_gateBoundary w n s⟩
  | gateSwapped w n => exact ⟨_, exec_gateSwapped w n s⟩
  | quegPoolCfgWrite w v x => exact ⟨_, exec_quegPoolCfgWrite w v x s⟩
  | tbIncrLoWrite w v n x => exact ⟨_, exec_tbIncrLoWrite w v n x s⟩
  | tbIncrHiWrite w v n x => exact ⟨_, exec_tbIncrHiWrite w v n x s⟩
  | tbEnableWrite w v x => exact ⟨_, exec_tbEnableWrite w v x s⟩
  | snap w v => exact ⟨_, exec_snap w v s⟩
  | scheduledStep w n => exact ⟨_, exec_scheduledStep w n s⟩
  | slewDone w n => exact ⟨_, exec_slewDone w n s⟩
  | tbCapRead w v first => exact ⟨_, exec_tbCapRead w v first s⟩
  | trellisLoopUpdate w x => exact ⟨_, exec_trellisLoopUpdate w x s⟩
  | qualTimer w x e => exact ⟨_, exec_qualTimer w x e s⟩
  | wtrTimer w x e => exact ⟨_, exec_wtrTimer w x e s⟩
  | driftWindowEnd w x e => exact ⟨_, exec_driftWindowEnd w x e s⟩
  | holdoffElapsed w x => exact ⟨_, exec_holdoffElapsed w x s⟩
  | acqTmo w x => exact ⟨_, exec_acqTmo w x s⟩
  | modelSample w x => exact ⟨_, exec_modelSample w x s⟩
  | holdoverDcoWrite w x => exact ⟨_, exec_holdoverDcoWrite w x s⟩
  | xchkSecond w x e spare mean => exact ⟨_, exec_xchkSecond w x e spare mean s⟩
  | ptpOffset w n a b c d chg0 intervalTicks => exact ⟨_, exec_ptpOffset w n a b c d chg0 intervalTicks s⟩
  | rootPllLock w => exact ⟨_, exec_rootPllLock w s⟩
  | rootUnlock w => exact ⟨_, exec_rootUnlock w s⟩
  | oscLoss w => exact ⟨_, exec_oscLoss w s⟩
  | oscReturn w => exact ⟨_, exec_oscReturn w s⟩
  | restarted w => exact ⟨_, exec_restarted w s⟩
  | synLock w x => exact ⟨_, exec_synLock w x s⟩
  | synUnlock w x => exact ⟨_, exec_synUnlock w x s⟩
  | coreDivReq w v x => exact ⟨_, exec_coreDivReq w v x s⟩
  | coreDivDone w => exact ⟨_, exec_coreDivDone w s⟩
  | synSlewMove w x => exact ⟨_, exec_synSlewMove w x s⟩
  | ppsOutPulse w => exact ⟨_, exec_ppsOutPulse w s⟩
  | ppsPulseEnd w => exact ⟨_, exec_ppsPulseEnd w s⟩
  | lockmonRefresh w => exact ⟨_, exec_lockmonRefresh w s⟩
  | meterCalStart w => exact ⟨_, exec_meterCalStart w s⟩
  | calDone w m r => exact ⟨_, exec_calDone w m r s⟩
  | shadowBlockEnd w m mean rms => exact ⟨_, exec_shadowBlockEnd w m mean rms s⟩
  | ringPeriodCheck w m pStart pStop => exact ⟨_, exec_ringPeriodCheck w m pStart pStop s⟩
  | meterEdge w m rising c => exact ⟨_, exec_meterEdge w m rising c s⟩
  | measGateClose w m => exact ⟨_, exec_measGateClose w m s⟩
  | clkMtrRdW0 w v first => exact ⟨_, exec_clkMtrRdW0 w v first s⟩
  | cfRequest w => exact ⟨_, exec_cfRequest w s⟩
  | cfReplyRead w => exact ⟨_, exec_cfReplyRead w s⟩
  | tamperSample w open0 open1 => exact ⟨_, exec_tamperSample w open0 open1 s⟩
  | vbatLow w => exact ⟨_, exec_vbatLow w s⟩
  | cfPowerFail w => exact ⟨_, exec_cfPowerFail w s⟩
  | lockstep w => exact ⟨_, exec_lockstep w s⟩
  | cfImageStart w => exact ⟨_, exec_cfImageStart w s⟩
  | shaftInjection w i => exact ⟨_, exec_shaftInjection w i s⟩
  | syncPinEdge w j => exact ⟨_, exec_syncPinEdge w j s⟩
  | shearsEnter w => exact ⟨_, exec_shearsEnter w s⟩
  | haltFrameDone w n => exact ⟨_, exec_haltFrameDone w n s⟩
  | timeRead w e => exact ⟨_, exec_timeRead w e s⟩
  | waitUntil w e t => exact ⟨_, exec_waitUntil w e t s⟩
  | waitUntilWake w e => exact ⟨_, exec_waitUntilWake w e s⟩
  | frameSend w e pre bytes => exact ⟨_, exec_frameSend w e pre bytes s⟩
  | msgPut w e ws => exact ⟨_, exec_msgPut w e ws s⟩
  | msgGet w e => exact ⟨_, exec_msgGet w e s⟩
  | command w e opcode p => exact ⟨_, exec_command w e opcode p s⟩
  | pmcRead w e c => exact ⟨_, exec_pmcRead w e c s⟩
  | wdtKick w e => exact ⟨_, exec_wdtKick w e s⟩
  | exit w e => exact ⟨_, exec_exit w e s⟩
  | violation w e addr k => exact ⟨_, exec_violation w e addr k s⟩
  | wdtExpired w e => exact ⟨_, exec_wdtExpired w e s⟩
  | appletStopped w e => exact ⟨_, exec_appletStopped w e s⟩
  | toFull w v e => exact ⟨_, exec_toFull w v e s⟩
  | fromFullClear w v e => exact ⟨_, exec_fromFullClear w v e s⟩
  | globalEn w v x => exact ⟨_, exec_globalEn w v x s⟩
  | pmcSmpCtlWrite w v b x => exact ⟨_, exec_pmcSmpCtlWrite w v b x s⟩
  | pmcSmpRead w v b first => exact ⟨_, exec_pmcSmpRead w v b first s⟩
  | registerWrite w v addr x => exact ⟨_, exec_registerWrite w v addr x s⟩
  | eventClear w v addr x => exact ⟨_, exec_eventClear w v addr x s⟩
  | glbSrcEnWrite w v x => exact ⟨_, exec_glbSrcEnWrite w v x s⟩
  | glbLock w v x => exact ⟨_, exec_glbLock w v x s⟩
  | ppFail w v addr => exact ⟨_, exec_ppFail w v addr s⟩
  | glbDevReset w v x comp => exact ⟨_, exec_glbDevReset w v x comp s⟩
  | glbDormant w v x comp => exact ⟨_, exec_glbDormant w v x comp s⟩
  | fltShearsReq w v x comp => exact ⟨_, exec_fltShearsReq w v x comp s⟩
  | fltShearsRel w v x comp => exact ⟨_, exec_fltShearsRel w v x comp s⟩
  | redGraftForce w v x comp => exact ⟨_, exec_redGraftForce w v x comp s⟩
  | fwdSelWrite w v x => exact ⟨_, exec_fwdSelWrite w v x s⟩
  | fwdSnapshotDone w => exact ⟨_, exec_fwdSnapshotDone w s⟩
  | fwdClr w v => exact ⟨_, exec_fwdClr w v s⟩
  | parityScan w addr upset => exact ⟨_, exec_parityScan w addr upset s⟩
  | fltWriteRequest w => exact ⟨_, exec_fltWriteRequest w s⟩
  | me1Wdt w => exact ⟨_, exec_me1Wdt w s⟩
  | safetySelfcheck w => exact ⟨_, exec_safetySelfcheck w s⟩
  | rearm w v => exact ⟨_, exec_rearm w v s⟩
  | fltPinWrite w v x => exact ⟨_, exec_fltPinWrite w v x s⟩
  | faultPulseEnd w => exact ⟨_, exec_faultPulseEnd w s⟩
  | factoryModeEnd w => exact ⟨_, exec_factoryModeEnd w s⟩
  | brelyClaimSend w => exact ⟨_, exec_brelyClaimSend w s⟩
  | brelyClaimRx w k msg => exact ⟨_, exec_brelyClaimRx w k msg s⟩
  | claimPinSend w => exact ⟨_, exec_claimPinSend w s⟩
  | claimPinRx w msg => exact ⟨_, exec_claimPinRx w msg s⟩
  | brelyPathTmo w k => exact ⟨_, exec_brelyPathTmo w k s⟩
  | pinPathTmo w => exact ⟨_, exec_pinPathTmo w s⟩
  | alignedTimer w errFs => exact ⟨_, exec_alignedTimer w errFs s⟩
  | restoreHoldEnd w => exact ⟨_, exec_restoreHoldEnd w s⟩
  | mirrorRecordSend w => exact ⟨_, exec_mirrorRecordSend w s⟩
  | mirrorRecordRx w r => exact ⟨_, exec_mirrorRecordRx w r s⟩
  | mirrorDone w => exact ⟨_, exec_mirrorDone w s⟩
  | lastGasp w => exact ⟨_, exec_lastGasp w s⟩
  | handoverTmo w => exact ⟨_, exec_handoverTmo w s⟩
  | pairHoldClr w v => exact ⟨_, exec_pairHoldClr w v s⟩
  | powerOnResetRelease w straps => exact ⟨_, exec_powerOnResetRelease w straps s⟩
  | brownOut w rail ticks => exact ⟨_, exec_brownOut w rail ticks s⟩
  | resetN w ticks => exact ⟨_, exec_resetN w ticks s⟩
  | pcieFundamentalReset w k => exact ⟨_, exec_pcieFundamentalReset w k s⟩
  | safetySelfcheckPass w pass => exact ⟨_, exec_safetySelfcheckPass w pass s⟩
  | mainImageVerified w readErr0 readErr1 => exact ⟨_, exec_mainImageVerified w readErr0 readErr1 s⟩
  | coreReady w => exact ⟨_, exec_coreReady w s⟩
  | wakeN w ticks => exact ⟨_, exec_wakeN w ticks s⟩
  | wakeTimer w => exact ⟨_, exec_wakeTimer w s⟩
  | dormantRailsKept w => exact ⟨_, exec_dormantRailsKept w s⟩
  | pcsAligned w n => exact ⟨_, exec_pcsAligned w n s⟩
  | anDone w n rate fec => exact ⟨_, exec_anDone w n rate fec s⟩
  | chkLock w n lock errors => exact ⟨_, exec_chkLock w n lock errors s⟩
  | flashProgrammingDone w => exact ⟨_, exec_flashProgrammingDone w s⟩
  | lowPowerWakeDone w u => exact ⟨_, exec_lowPowerWakeDone w u s⟩
  | presenceLost w x e => exact ⟨_, exec_presenceLost w x e s⟩
  | alignLost w errFs => exact ⟨_, exec_alignLost w errFs s⟩
  | diverged w => exact ⟨_, exec_diverged w s⟩
  | brelyFrameRx w bytes => exact ⟨_, exec_brelyFrameRx w bytes s⟩
  | pcieLinkUp w => exact ⟨_, exec_pcieLinkUp w s⟩
  | groupLowWordRead w v addr => exact ⟨_, exec_groupLowWordRead w v addr s⟩

/-- A step on a non-empty queue is the front command on the queue's rest. -/
theorem step_cons (c : Instr) (l : List Instr) (d : Device) : step ⟨c :: l, d⟩ = exec c ⟨l, d⟩ := rfl

/-- A step on an empty queue passes one tick. -/
theorem step_nil (d : Device) : step ⟨[], d⟩ = idle ⟨[], d⟩ := rfl

/-- The ticks that a step passes: those of the front command, or one. -/
def stepTicks (s : State) : Nat := (s.pending.head?.map Instr.ticks).getD 1

/-- What a step does: it answers a next state, whose queue has lost its front command, if any; the device is that of some effect on
what the step's ticks leave. -/
theorem step_next (s : State) : ∃ f : Device → Device,
    step s = .next (after (stepTicks s) ⟨s.pending.tail, s.dev⟩ (f (before (stepTicks s) s.dev))) := by
  obtain ⟨p, d⟩ := s
  cases p with
  | nil => exact ⟨id, rfl⟩
  | cons c l =>
    obtain ⟨f, hf⟩ := exec_run c ⟨l, d⟩
    exact ⟨f, by rw [step_cons, hf]; rfl⟩

end Sys2Proof.Machine
end

