-- ==== Sys2Proof/Laws/Front.lean ====
section
/-! SUPPORT. The command front end: packets and their words, and what a command does that is alone in flight with nothing wrong with
its header. Statements about a command's own effect cite these and never unfold acceptance or commit. -/

namespace Sys2Proof.Machine

set_option Elab.async false

open Sys2Proof

/-! ### Packets -/

/-- A packet read back from its words is the packet. -/
theorem packetOf_words (opcode : Nat) (p : Pkt) (h1 : opcode < 65536) (h2 : p.words.length ≤ 2047) :
    packetOf (packetWords opcode p) = (opcode, p) := by
  obtain ⟨tag, fb, fa, ch, rp, part, target, cookie, words⟩ := p
  have ht := tag.isLt
  have hp := part.isLt
  have hg := target.isLt
  have e1 : bits (w32 (opcode + 2 ^ 16 * tag.toNat)).toNat 15 0 = opcode := by simp [bits, w32]; omega
  have e2 : bits (w32 (opcode + 2 ^ 16 * tag.toNat)).toNat 25 16 = tag.toNat := by simp [bits, w32]; omega
  have e3 : lengthOf (packetWords opcode ⟨tag, fb, fa, ch, rp, part, target, cookie, words⟩) = words.length := by
    dsimp only at h2
    simp [lengthOf, packetWords, bits, w32]; omega
  have hb : ∀ b : Bool, b2n b < 2 := by intro b; cases b <;> decide
  have f1 := hb fb; have f2 := hb fa; have f3 := hb ch; have f4 := hb rp
  have hbit : ∀ (v k : Nat) (b : Bool), v / 2 ^ k % 2 = b2n b → bit v k = b := by
    intro v k b hv; rw [bit, hv]; cases b <;> rfl
  have e4 : bits (w32 (b2n fb + 2 * b2n fa + 4 * b2n ch + 8 * b2n rp + 16 * part.toNat + 2 ^ 16 * target.toNat)).toNat 5 4
      = part.toNat := by simp [bits, w32]; omega
  have e5 : bits (w32 (b2n fb + 2 * b2n fa + 4 * b2n ch + 8 * b2n rp + 16 * part.toNat + 2 ^ 16 * target.toNat)).toNat 31 16
      = target.toNat := by simp [bits, w32]; omega
  have b0 := hbit (w32 (b2n fb + 2 * b2n fa + 4 * b2n ch + 8 * b2n rp + 16 * part.toNat + 2 ^ 16 * target.toNat)).toNat 0 fb
    (by simp [w32]; omega)
  have b1 := hbit (w32 (b2n fb + 2 * b2n fa + 4 * b2n ch + 8 * b2n rp + 16 * part.toNat + 2 ^ 16 * target.toNat)).toNat 1 fa
    (by simp [w32]; omega)
  have b2 := hbit (w32 (b2n fb + 2 * b2n fa + 4 * b2n ch + 8 * b2n rp + 16 * part.toNat + 2 ^ 16 * target.toNat)).toNat 2 ch
    (by simp [w32]; omega)
  have b3 := hbit (w32 (b2n fb + 2 * b2n fa + 4 * b2n ch + 8 * b2n rp + 16 * part.toNat + 2 ^ 16 * target.toNat)).toNat 3 rp
    (by simp [w32]; omega)
  simp only [packetOf, e3]
  simp only [packetWords, List.cons_append, List.nil_append, List.getD_cons_zero, List.getD_cons_succ, List.drop_succ_cons,
    List.drop_zero, List.take_length, e1, e2, e4, e5, b0, b1, b2, b3, BitVec.ofNat_toNat, BitVec.setWidth_eq]

/-! ### The header check looks at the packet and the fuses alone -/

/-- Two devices with the same fuses find the same fault. -/
theorem headerFault_congr (d e : Device) (c : InFlight) (b : Bool) (h : d.fuse = e.fuse) : headerFault d c b = headerFault e c b := by
  simp [headerFault, partOk, h]

/-! ### Recovery is not touched by the count and the number of a commit -/

/-- Counting leaves the flags of every register but the counter's overflow bits and its event register. -/
theorem flag_count_other (d : Device) (a k r i : Nat)
    (h : ∀ j, cntInfo a = some j → r ≠ j.ovf ∧ ∀ e, j.ev = some e → r ≠ e.1) : flag (count d a k) r i = flag d r i := by
  simp only [count]
  split
  · rfl
  · rename_i j hj
    obtain ⟨h1, h2⟩ := h j hj
    split
    · rfl
    · split
      · rename_i e b he
        have h3 := h2 _ he
        dsimp only at h3
        simp only [event, flag_setFlag_other _ _ _ _ h3, flag_setFlag_other _ _ _ _ h1, flag_setCnt]
      · simp only [event, flag_setFlag_other _ _ _ _ h1, flag_setCnt]

/-- Counting a command leaves recovery. -/
@[simp] theorem recovery_bump (d : Device) : recovery (bump d (Reg.CMD_CNT 0)) = recovery d := by
  refine flag_count_other _ _ _ _ _ (fun j hj => ?_)
  have h : (cntInfo (Reg.CMD_CNT 0)).all
      (fun j => Reg.GLB_PWR_STATUS != j.ovf && j.ev.all (fun e => Reg.GLB_PWR_STATUS != e.1)) = true := by decide
  rw [hj, Option.all_some, Bool.and_eq_true, bne_iff_ne] at h
  exact ⟨h.1, fun e he => by have := h.2; rw [he, Option.all_some, bne_iff_ne] at this; exact this⟩

/-- Numbering a command leaves recovery. -/
@[simp] theorem recovery_modCmd (d : Device) (f : Trobuic → Trobuic) : recovery (modCmd d f) = recovery d := rfl

@[simp] theorem recovery_taking (d : Device) (o : Origin) (opcode : Nat) (p : Pkt) (vlans : List Word) :
    recovery (taking d o opcode p vlans) = recovery d := recovery_bump d

/-! ### A command alone in flight commits at once -/

/-- The one command in flight commits, where it may. -/
theorem frontGo_one (d : Device) (c : InFlight) (h : d.cmd.inflight = [c]) (hr : running d = true) (hm : mayCommit d c = true) :
    frontGo d = commitOne d c := by
  have hs : c.stage = .wait := by
    simp only [mayCommit, Bool.and_eq_true, beq_iff_eq] at hm
    exact hm.1.1.1.1
  simp [frontGo, hr, waitingCommands, countInflight, h, hs, commitAll, hm]

/-- A command that waits for nothing, alone in flight, may commit. -/
theorem mayCommit_one (d : Device) (c : InFlight) (h : d.cmd.inflight = [c]) (hs : c.stage = .wait)
    (ha : c.aux = if fencesBefore c then [2] else []) (hp : c.pkt.part ≠ 2 ∨ d.cf.reqs.length < 16) : mayCommit d c = true := by
  have h1 : heldBack d c = false := by simp [heldBack, h]
  have h2 : (c.pkt.part == 2 && decide (16 ≤ d.cf.reqs.length)) = false := by
    rcases hp with hp | hp <;> simp <;> intros <;> first | contradiction | omega
  rw [mayCommit, hs, h1, h2, ha]
  cases fencesBefore c <;> decide

/-- A commit, by the device and the command as it takes them. -/
theorem commitOne_as (e : Device) (c : InFlight) {d : Device} {x : InFlight}
    (hd : modInflight e c.seq (fun c => { c with at_ := e.dev, aux := [] }) = d) (hx : { c with at_ := e.dev, aux := [] } = x)
    (hb : (x.pkt.chain && chainBroken d x) = false) (hr : recovery d = false) :
    commitOne e c = if x.pkt.part = 2 then toCf d x else forwards (carryOut d x) x (cnt d (Reg.CMD_CNT 1)) := by
  subst hd hx
  exact (if_neg (Bool.eq_false_iff.mp hb)).trans
    ((if_neg (by rw [hr, Bool.false_and]; exact Bool.false_ne_true)).trans rfl)

/-- What an accepted command that commits at once does: its own rule by opcode, or the Cold Frame's request FIFO. -/
theorem commits_run {d : Device} {o : Origin} {opcode : Nat} {p : Pkt} {d' : Device} {vlans : List Word}
    (h : Commits d o opcode p d' vlans) (hop : opcode < 65536) (hne : opcode ≠ 0x0110)
    (hp : p.part ≠ 2 ∨ d'.cf.reqs.length < 16) :
    packet d o opcode p =
      if p.part = 2 then toCf (taking d' o opcode p vlans) (taken d' o opcode p vlans)
      else forwards (carryOut (taking d' o opcode p vlans) (taken d' o opcode p vlans)) (taken d' o opcode p vlans)
        (cnt (taking d' o opcode p vlans) (Reg.CMD_CNT 1)) := by
  have hl : p.words.length ≤ 2047 := by simpa [Pkt.wf] using h.length
  rw [h.handed]
  simp only [accept, packetOf_words _ _ hop hl, h.alone, List.any_nil, Bool.false_eq_true, if_false]
  split
  · rename_i f hf
    exact absurd (hf.symm.trans ((headerFault_congr _ d' _ _ (by simp)).trans h.header)) (by simp)
  · rw [if_neg hne, if_neg (by simp [fenceOver, h.alone])]
    rw [frontGo_one _ { taken d' o opcode p vlans with
        at_ := 0, aux := if fencesBefore (taken d' o opcode p vlans) then [2] else [] }
      (by simp [modInflight, h.alone, taken, fencesBefore]) (by simpa [modInflight] using h.runs)
      (mayCommit_one _ _ (by simp [modInflight, h.alone, taken, fencesBefore]) rfl rfl (by simpa [modInflight, taken] using hp))]
    refine commitOne_as (x := taken d' o opcode p vlans) _ _ ?_ ?_ h.chained ((recovery_taking d' o opcode p vlans).trans h.normal)
    · simp [modInflight, modCmd, taking, taken, h.alone]
    · simp [modInflight, taken]

/-- A packet that firmware queues and that commits at once, as a test of the device it finds. -/
def firmwareCommits (d : Device) (opcode : Nat) (p : Pkt) : Bool :=
  frontOpen d .firmware && slotFree d .firmware opcode 32 isFirmware && decide (d.cmd.inflight = [])
    && decide (headerFault d (taken d .firmware opcode p []) false = none) && !recovery d && p.wf
    && !(p.chain && chainBroken (taking d .firmware opcode p []) (taken d .firmware opcode p []))

/-- Such a packet commits at once. -/
theorem commits_firmware {d : Device} {opcode : Nat} {p : Pkt} (h : firmwareCommits d opcode p = true) :
    Commits d .firmware opcode p d [] := by
  simp only [firmwareCommits, Bool.and_eq_true, decide_eq_true_eq, Bool.not_eq_true'] at h
  obtain ⟨⟨⟨⟨⟨⟨h1, h2⟩, h3⟩, h4⟩, h5⟩, h6⟩, h7⟩ := h
  have hr : running d = true := by
    simp only [frontOpen, Bool.and_eq_true] at h1
    exact h1.1
  exact ⟨by simp [packet, h1, h2], hr, h3, h4, h5, h6, h7⟩

end Sys2Proof.Machine
end

