-- ==== Sys2Proof/Tests/Slice0.lean ====
section
/-! SUPPORT. The model's own tests: commands that are not well-formed, a witness for the hypotheses of each statement, and single
steps on small states, their expected values taken from the specification's words and worked examples. -/

open Sys2Proof Sys2Proof.Machine



namespace Sys2Proof.Tests

set_option Elab.async false

/-! ### What the tests run on -/

/-- A running device whose firmware is up and whose PCIe link is trained. -/
def ready : Device :=
  { regs := [(Reg.GLB_PWR_STATUS, 1)], pwr := { resetHeld := false, pcieUp := true },
    clk := { gated := false, rootLocked := true, tickStop := none } }
/-- With registers written. -/
def withRegs (d : Device) (l : List (Nat × Nat)) : Device := each l d (fun d x => wr d x.1 x.2)
/-- The same device some hours later. -/
def later : Device := { ready with now := 10000 * secTicks, dev := 10000 * secTicks, tick := 10000 * secTicks }
/-- A packet to a unit of a partition. -/
def packetTo (part u : Nat) (ws : List Word) : Pkt :=
  { tag := 5, part := BitVec.ofNat 2 part, target := BitVec.ofNat 16 u, words := ws }
/-- A setpoint frame of one axis. -/
def aFrame : SFrame := { offset := 0, group := 0, vid := 0, pcp := 0, entries := 1, first := 0 }

/-- A row finds what the hypothesis asks. -/
abbrev meets (d : Device) (H : Device → Prop) : Prop := H (before 0 d)

def commitsWith (d : Device) (opcode : Nat) (p : Pkt) (H : Device → InFlight → Prop) : Prop :=
  Commits (before 0 d) .firmware opcode p (before 0 d) [] ∧
  H (taking (before 0 d) .firmware opcode p []) (taken (before 0 d) .firmware opcode p [])

theorem commitsWith_of {d : Device} {opcode : Nat} {p : Pkt} {H : Device → InFlight → Prop}
    (h : firmwareCommits (before 0 d) opcode p = true)
    (g : H (taking (before 0 d) .firmware opcode p []) (taken (before 0 d) .firmware opcode p [])) : commitsWith d opcode p H :=
  ⟨commits_firmware h, g⟩

/-! ### Commands that are not well-formed -/

/-- A ladder message of lane 1 at width 1. -/
def offer : LadderMsg := ⟨1, 1, 1, 5, 0, 3, [70], 0⟩
/-- A packet of too many words. -/
def tooLong : Pkt := packetTo 0 uDevice (List.replicate 2048 0)
/-- A calibration that found both periods. -/
def measured : CalResult := { pStart := 1, pStop := 1, histOk := true, rms := 0, table := 0 }

theorem test_wf_command : (Instr.devInfo 0 .spi (packetTo 0 uDevice [])).wf = true := by decide
theorem test_illformed_packet : (Instr.devInfo 0 .spi tooLong).wf = false := by decide +kernel
theorem test_illformed_applet_packet : (Instr.command 0 1 0x0100 tooLong).wf = false := by decide +kernel
theorem test_wf_ladder : (Instr.ladderOfferRx 0 1 offer).wf = true := by decide
theorem test_illformed_ladder_width : (Instr.ladderOfferRx 0 1 { offer with width := 3 }).wf = false := by decide
theorem test_illformed_ladder_lane : (Instr.ladderStepRx 0 1 { offer with lane := 40 }).wf = false := by decide
theorem test_illformed_ladder_rung : (Instr.ladderStepRx 0 1 { offer with rung := 4 }).wf = false := by decide
theorem test_illformed_ladder_rate : (Instr.ladderStepRx 0 1 { offer with rateMax := 4 }).wf = false := by decide
theorem test_illformed_ladder_figures : (Instr.ladderReportRx 0 1 { offer with foms := [1, 2, 3, 4, 5] }).wf = false := by decide
theorem test_illformed_ladder_figure : (Instr.ladderReportRx 0 1 { offer with foms := [256] }).wf = false := by decide
theorem test_illformed_frame_empty : (Instr.rxFrame 0 1 { bytes := [], lane := 1 }).wf = false := by decide
theorem test_illformed_frame_phase : (Instr.rxFrame 0 1 { bytes := [0], lane := 1, phi := 52429 }).wf = false := by decide
theorem test_illformed_inject_prefix : (Instr.hostFrameInject 0 [] [0]).wf = false := by decide
theorem test_illformed_frame_send : (Instr.frameSend 0 1 (List.replicate 8 0) []).wf = false := by decide
theorem test_illformed_histogram_levels : (Instr.laneWindowEnd 0 1 [[1]]).wf = false := by decide
theorem test_illformed_histogram_bins : (Instr.laneWindowEnd 0 1 [List.replicate 257 1, [1]]).wf = false := by decide +kernel
theorem test_illformed_sweep : (Instr.coarseSweepDone 0 1 [1]).wf = false := by decide
theorem test_illformed_sweep_figure : (Instr.coarseSweepDone 0 1 (List.replicate 16 256)).wf = false := by decide
theorem test_illformed_slip : (Instr.slip 0 1 1000000).wf = false := by decide
theorem test_illformed_read_error_word : (Instr.selectionPoint 0 1 [{ cell := 0, word := 4, errs := [] }] none).wf = false :=
  by decide
theorem test_illformed_read_error_symbol : (Instr.launchTick 0 1 [{ cell := 0, word := 0, errs := [(72, 1)] }]).wf = false :=
  by decide
theorem test_illformed_read_error_value : (Instr.launchTick 0 1 [{ cell := 0, word := 0, errs := [(0, 0)] }]).wf = false :=
  by decide
theorem test_illformed_conversion : (Instr.meterEdge 0 (.clk 1) true (.cap 1024)).wf = false := by decide
theorem test_illformed_calibration : (Instr.calDone 0 (.clk 1) { measured with pStart := 0 }).wf = false := by decide
theorem test_illformed_ring_period : (Instr.ringPeriodCheck 0 (.clk 1) 0 1).wf = false := by decide
theorem test_illformed_message : (Instr.msgPut 0 1 (List.replicate 17 0)).wf = false := by decide
theorem test_illformed_address : (Instr.registerWrite 0 .pcie 0x1080000 (.whole 0)).wf = false := by decide
theorem test_illformed_mirror_bases : (Instr.mirrorRecordRx 0 ⟨[], [(0, 0), (0, 0), (0, 0), (0, 0)], none⟩).wf = false := by decide
theorem test_illformed_mirror_value :
    (Instr.mirrorRecordRx 0 ⟨List.replicate 7 (0, 1000000000, 0, 0), List.replicate 4 (0, 0), none⟩).wf = false := by decide
theorem test_illformed_mirror_shafts : (Instr.mirrorRecordRx 0 ⟨List.replicate 7 (0, 0, 0, 0), [], none⟩).wf = false := by decide
theorem test_illformed_brely_frame (b : List Byte) (h : b.length = 65536) : (Instr.brelyFrameRx 0 b).wf = false := by
  simp [Instr.wf, h]
theorem test_illformed_brely_command (b : List Byte) (h : b.length = 65536) : (Instr.brelyCommand 0 b).wf = false := by
  simp [Instr.wf, h]

/-- No row of the table has bits, so no word spells a command. -/
theorem test_no_word_spells_a_command : decodeTableWord 32 0 = none ∧ decodeTableWord 16 0xFFFF = none := by decide

/-! ### Single steps -/

/-- A packet of the command front end as a command in flight. -/
def flying (opcode target : Nat) (ws : List Word) : InFlight :=
  { origin := .firmware, opcode := opcode, pkt := packetTo 0 target ws, stage := .wait, seq := 0 }

/-- The gate of the example of chapter 10: 10,000,000 edges of a 10 MHz reference that runs 2.5 × 10⁻¹¹ fast,
  stamp noise 2.60 ps. -/
def referenceGate : Job :=
  { mode := 0, fnom := 10000000, n := 10000000, sx := 49999995000000, sxx := 333333283333335000000, sy := 327679991734272000331,
    sxy := 2184533128151038673090411722, m := 9999998, sdd := 29032 * 6 * 9999998 }

/-- R372, by the example's table: PERIOD 429,496,729,589; FREQ 42,949,672,961,073,742; FOFF 25,000; SIGMA 171. U_REL is
rounded upward by the rule (the example's table prints 2,848, rounded down). -/
theorem test_freq_example :
    freqWords referenceGate 1 =
      (1, words2 429496729589 ++ words2 42949672961073742 ++ words2 25000 ++ words2 2849 ++ [171]) := by decide +kernel

/-- R210: 3 × 2⁴⁶ and 0.85 ns are the ends of the range of INCR; 0 stands apart. -/
theorem test_increment_range :
    incrOk 1 0xC00000000000 = true ∧ incrOk 1 0xBFFFFFFFFFFF = false ∧ incrOk 1 0xD9999999999A = true ∧
    incrOk 1 0xD9999999999B = false ∧ incrOk 0 0xC00000000000 = false := by decide

/-- R211, by its example: 0x7492_7914 is staged, and the write of 0x0000_CCCD makes 0x00_CCCD_7492_7914. -/
theorem test_increment_example :
    let d := access (before 0 ready) .pcie (Reg.TB_INCR_LO 1) (.whole 0x74927914)
    tbIncr d 1 = tbIncr ready 1 ∧ tbIncr (access d .pcie (Reg.TB_INCR_HI 1) (.whole 0x0000CCCD)) 1 = 225182796118292 := by
  decide +kernel

/-- R214: −0.5 ns is SEC_OFF −1, NS_OFF 999,999,999, FNS_OFF 0x8000. -/
theorem test_step_offset_example :
    stepOff (flying 0x0502 0x8400 [0, 999999999, 0xFFFFFFFF, 0xFFFFFFFF, 0x8000]) = -32768 := by decide

/-- R169, by the example of chapter 5: 224.0, 819.2 and 1,233.6 ns at 10GBASE-R. -/
theorem test_occupancy_example :
    occupancy 1 256 = 22400 ∧ occupancy 1 1000 = 81920 ∧ occupancy 1 1518 = 123360 := by decide

/-- The three copies of the example of chapter 4: A from P3, B from P24, C from P14. -/
def tendedAt (src arr : Nat) : Copy := { fid := 0, out := 31, tag := { src := src, tc := 7, arrTick := arr } }

/-- R142, by the example: linked in the order B, C, A and released in the order A, C, B. -/
theorem test_tended_order_example :
    tendedInsert (tendedAt 3 1000000) (tendedInsert (tendedAt 14 1000300) (tendedInsert (tendedAt 24 1000300) []))
      = [tendedAt 3 1000000, tendedAt 14 1000300, tendedAt 24 1000300] := by decide

/-- R141, by the example: with TREL 2,500, A's release tick is 2,500 after its arrival. -/
theorem test_release_tick_example :
    releaseTick (wr ready Reg.CORE_TENDED_REL 2500) (tendedAt 3 1000000) = 1002500 := by decide +kernel

/-- R423, by the example of chapter 12: twenty axes on one tagged frame have 222 bytes. -/
theorem test_setpoint_frame_length_example : leastLen { aFrame with vid := 100, entries := 20 } = 222 := by decide

/-- The plan of the example of chapter 12: to 12 rev/s with 2 rev/s² and 4 rev/s³, from standstill. -/
def runUp : Master := plan {} (qOf 12) (qOf 2) (qOf 4)

/-- R428, by the example: half a second, 5.5 s and half a second. -/
theorem test_run_up_plan_example : (runUp.segs.map (fun p => units32 p.1)) = [2 ^ 31, 11 * 2 ^ 31, 2 ^ 31] := by decide +kernel

/-- R427 and R428, by steps 6 and 8 of the example: 7 7/12 rev rounded down and 5.5 rev/s after 3 s, 39 rev and 12 rev/s after
6.5 s. -/
theorem test_run_up_positions_example :
    (let x := runMaster runUp runUp.segs (qOf 3)
     units32 x.m = 0x000000079555_5555 ∧ units32 x.v = 0x58000 * 65536) ∧
    (let x := runMaster runUp runUp.segs (q16 (13 * 32768))
     units32 x.m = 0x27_0000_0000 ∧ units32 x.v = 12 * 2 ^ 32) := by decide +kernel

/-- R567, by the example of chapter 17: priority 20 gives claims 0xE9 and, withdrawn, 0x29 to TWIN_ID 0, and 0xE8 to TWIN_ID 1. -/
theorem test_member_claim_example :
    let x := wr ready Reg.RED_GRAFT_CFG (20 * 256)
    let y := wr ready Reg.RED_GRAFT_CFG (20 * 256 + 1)
    memberClaim x 3 = 0xE9 ∧ memberClaim x 0 = 0x29 ∧ memberClaim y 3 = 0xE8 := by decide +kernel

/-- R532 and R533, by the example of chapter 16: two banks flag words, the second escalates, and the first again is a repeat of
both of its records. -/
theorem test_escalation_example :
    let o (b : Nat) : Occ := { cause := 0x03, unit := 0x9200 + b }
    let d := handleOcc (handleOcc (handleOcc ready (o 5)) (o 11)) (o 5)
    d.flt.records.map (fun r => (r.unit, r.level, r.count, r.cls)) = [(0x9205, 0, 2, 1), (0x920B, 0, 1, 1), (0x8000, 1, 2, 1)] := by
  decide +kernel

/-- R242: a TB_SET whose NS is above 999,999,999 changes no time base. -/
theorem test_set_out_of_range : (opTbSet ready (flying 0x0501 0x8400 [1, 1000000000, 0, 0, 0])).tb = ready.tb := by decide +kernel

/-- R558 and R557: with no ceiling HEALTH is 3; the standby side's RESTORE_HOLD leaves 2, LOL leaves 0. -/
theorem test_health_of_ceilings : healthOfBits 0 = 3 ∧ healthOfBits 256 = 2 ∧ healthOfBits 1 = 0 := by decide

/-! ### The hypotheses of the statements can be met: one witness for each statement of an effect -/

theorem wit_deviceCommandsDoTheirWork_1 :
    commitsWith ready 0x0100 (packetTo 0 uDevice [])
      (fun _ _ => True) :=
  commitsWith_of (by decide +kernel) (by decide +kernel)
theorem wit_deviceCommandsDoTheirWork_2 :
    commitsWith ready 0x0101 (packetTo 0 uDevice [0])
      (fun _ _ => True) :=
  commitsWith_of (by decide +kernel) (by decide +kernel)
theorem wit_deviceCommandsDoTheirWork_3 :
    commitsWith ready 0x0102 (packetTo 0 uDevice [100])
      (fun _ c => tgt c = uDevice ∧ pw c 0 ≤ 0xFFFFF) :=
  commitsWith_of (by decide +kernel) (by decide +kernel)
theorem wit_deviceCommandsDoTheirWork_4 :
    commitsWith ready 0x0102 (packetTo 0 (uPort 1) [100])
      (fun d c => tgt c ≠ uDevice ∧ absorbed d (portOfUnit (tgt c)) = false ∧ pw c 0 ≤ 0xFFFFF) :=
  commitsWith_of (by decide +kernel) (by decide +kernel)
theorem wit_deviceCommandsDoTheirWork_5 :
    commitsWith ready 0x0111 (packetTo 0 uDevice [])
      (fun _ _ => True) :=
  commitsWith_of (by decide +kernel) (by decide +kernel)
theorem wit_portCommandsDoTheirWork_1 :
    commitsWith ready 0x0200 (packetTo 0 (uPort 1) (List.replicate 8 0))
      (fun d c => absorbed d (portOfUnit (tgt c)) = false ∧ portSt d (portOfUnit (tgt c)) = 0 ∧ portConfigBad d c = none) :=
  commitsWith_of (by decide +kernel) (by decide +kernel)
theorem wit_portCommandsDoTheirWork_2 :
    commitsWith (withRegs ready [(Reg.PORT_MAC_LO 1, 5)]) 0x0201 (packetTo 0 (uPort 1) [])
      (fun d c => absorbed d (portOfUnit (tgt c)) = false ∧ portSt d (portOfUnit (tgt c)) = 0 ∧
      macBad d (portOfUnit (tgt c)) = false ∧ enableFits d (portOfUnit (tgt c)) = true ∧
      powerReady d (portOfUnit (tgt c)) (bedLoad d (portOfUnit (tgt c) / 10) + portCapacity d (portOfUnit (tgt c))) = true) :=
  commitsWith_of (by decide +kernel) (by decide +kernel)
theorem wit_portCommandsDoTheirWork_3 :
    commitsWith (withRegs ready [(Reg.PORT_STATUS 1, 2)]) 0x0202 (packetTo 0 (uPort 1) [10])
      (fun d c => absorbed d (portOfUnit (tgt c)) = false ∧ portSt d (portOfUnit (tgt c)) = 2 ∧ 1 ≤ pf c 0 6 0 ∧
        pf c 0 6 0 ≤ 100) :=
  commitsWith_of (by decide +kernel) (by decide +kernel)
theorem wit_portCommandsDoTheirWork_4 :
    commitsWith (withRegs ready [(Reg.PORT_STATUS 1, 2)]) 0x0202 (packetTo 0 (uPort 1) [0])
      (fun d c => absorbed d (portOfUnit (tgt c)) = false ∧ portSt d (portOfUnit (tgt c)) = 2 ∧ pf c 0 6 0 = 0) :=
  commitsWith_of (by decide +kernel) (by decide +kernel)
theorem wit_portCommandsDoTheirWork_5 :
    commitsWith ready 0x0203 (packetTo 0 (uPort 1) [])
      (fun _ _ => True) :=
  commitsWith_of (by decide +kernel) (by decide +kernel)
theorem wit_portCommandsDoTheirWork_6 :
    commitsWith (withRegs ready [(Reg.PORT_STATUS 1, 2), (Reg.LANE_CFG 1, 0)]) 0x0204 (packetTo 0 (uPort 1) [0])
      (fun d c => absorbed d (portOfUnit (tgt c)) = false ∧ portSt d (portOfUnit (tgt c)) ≠ 0 ∧ bringup d (portOfUnit (tgt c)) = 0 ∧
      (working d 0x0204).any (fun x => portOfUnit (tgt x) == portOfUnit (tgt c)) = false ∧ pb c 0 0 = false) :=
  commitsWith_of (by decide +kernel) (by decide +kernel)
theorem wit_portCommandsDoTheirWork_7 :
    commitsWith ready 0x0205 (packetTo 0 (uBed 0) [0])
      (fun d c => pf c 0 6 4 ≤ 4 ∧ pf c 0 14 8 ≤ 100 ∧ working d 0x0205 = [] ∧ working d 0x0202 = []) :=
  commitsWith_of (by decide +kernel) (by decide +kernel)
theorem wit_forwardingCommandsDoTheirWork_1 :
    commitsWith ready 0x0300 (packetTo 0 uDevice [0, 0, 5, 3])
      (fun d c => pf c 0 1 0 = 0 ∧ pb c 0 2 = false ∧ pf c 3 12 0 ≤ 41 ∧
      fdbWay d (pf c 1 11 0) (pf c 1 31 16 * 2 ^ 32 + pw c 2) (pb c 3 17) = some 0) :=
  commitsWith_of (by decide +kernel) (by decide +kernel)
theorem wit_forwardingCommandsDoTheirWork_2 :
    commitsWith ready 0x0300 (packetTo 0 uDevice [1, 0, 0, 0, 0, 0, 0, 0])
      (fun _ c => pf c 0 1 0 = 1) :=
  commitsWith_of (by decide +kernel) (by decide +kernel)
theorem wit_forwardingCommandsDoTheirWork_3 :
    commitsWith ready 0x0300 (packetTo 0 uDevice (2 :: List.replicate 17 0))
      (fun _ c => pf c 0 1 0 = 2) :=
  commitsWith_of (by decide +kernel) (by decide +kernel)
theorem wit_forwardingCommandsDoTheirWork_4 :
    commitsWith ready 0x0301 (packetTo 0 uDevice [0, 0])
      (fun _ c => pf c 0 1 0 = 0 ∧ pw c 1 ≤ 65535) :=
  commitsWith_of (by decide +kernel) (by decide +kernel)
theorem wit_forwardingCommandsDoTheirWork_5 :
    commitsWith ready 0x0301 (packetTo 0 uDevice [1, 0])
      (fun _ c => pf c 0 1 0 = 1 ∧ pw c 1 ≤ 4095) :=
  commitsWith_of (by decide +kernel) (by decide +kernel)
theorem wit_forwardingCommandsDoTheirWork_6 :
    commitsWith ready 0x0301 (packetTo 0 uDevice [2, 0])
      (fun _ c => pf c 0 1 0 = 2 ∧ pw c 1 ≤ 4095) :=
  commitsWith_of (by decide +kernel) (by decide +kernel)
theorem wit_forwardingCommandsDoTheirWork_7 :
    commitsWith ready 0x0302 (packetTo 0 uDevice [0x30001, 0, 0])
      (fun _ c => streamBad c = none ∧ pf c 0 2 0 = 1 ∧ pb c 0 16 = true) :=
  commitsWith_of (by decide +kernel) (by decide +kernel)
theorem wit_forwardingCommandsDoTheirWork_8 :
    commitsWith ready 0x0302 (packetTo 0 uDevice [0x30001, 0, 0])
      (fun _ c => streamBad c = none) :=
  commitsWith_of (by decide +kernel) (by decide +kernel)
theorem wit_forwardingCommandsDoTheirWork_9 :
    commitsWith ready 0x0303 (packetTo 0 uDevice [0, 0, 0])
      (fun _ _ => True) :=
  commitsWith_of (by decide +kernel) (by decide +kernel)
theorem wit_queueCommandsDoTheirWork_1 :
    commitsWith ready 0x0400 (packetTo 0 (uBed 4) (0x10000 :: List.replicate 27 0))
      (fun d c => queueTarget (tgt c) = none ∧ pf c 0 9 0 = 0 ∧ pb c 0 16 = true ∧ pf c 27 14 0 ≤ 16384 ∧
      tendedFits d (pf c 27 14 0) = true) :=
  commitsWith_of (by decide +kernel) (by decide +kernel)
theorem wit_queueCommandsDoTheirWork_2 :
    commitsWith ready 0x0400 (packetTo 0 (uEgress 1) (List.replicate 28 0))
      (fun d c => ∃ o, queueTarget (tgt c) = some o ∧ (decide (o < 40) && absorbed d o) = false ∧ queueBad c o = none ∧
        pb c 0 1 = false) :=
  commitsWith_of (by decide +kernel) ⟨1, by decide +kernel, by decide +kernel, by decide +kernel, by decide +kernel⟩
theorem wit_queueCommandsDoTheirWork_3 :
    commitsWith ready 0x0401 (packetTo 0 (uEgress 1) [0x10000, 0, 0, 0, 1250, 1, 1000, 255])
      (fun d c => absorbed d (unitIdx (tgt c)) = false ∧ gateBad c = none ∧ pf c 0 9 0 = 0 ∧ pf c 0 24 16 ≤ pf c 5 10 0 ∧
      (outOf d (unitIdx (tgt c))).armed.isSome = false) :=
  commitsWith_of (by decide +kernel) (by decide +kernel)
theorem wit_queueCommandsDoTheirWork_4 :
    commitsWith ready 0x0402 (packetTo 0 (uEgress 1) [2])
      (fun d c => absorbed d (unitIdx (tgt c)) = false ∧ pb c 0 1 = true) :=
  commitsWith_of (by decide +kernel) (by decide +kernel)
theorem wit_queueCommandsDoTheirWork_5 :
    commitsWith (modOut ready 1 (fun x =>
      { x with pend := some ⟨0, 0, 1, [(0, some (1000, 255))]⟩ })) 0x0402 (packetTo 0 (uEgress 1) [0])
      (fun d c => absorbed d (unitIdx (tgt c)) = false ∧ pb c 0 1 = false ∧ pb c 0 0 = false ∧
      pendValid (outOf d (unitIdx (tgt c))) = true ∧ (outOf d (unitIdx (tgt c))).armed.isSome = false) :=
  commitsWith_of (by decide +kernel) (by decide +kernel)
theorem wit_queueCommandsDoTheirWork_6 :
    commitsWith ready 0x0403 (packetTo 0 (uBed 4) [0x101, 0, 0, 0])
      (fun _ c => 1 ≤ pf c 0 7 0 ∧ pf c 0 9 8 = 1 ∧ pw c 1 ≤ 1000000000) :=
  commitsWith_of (by decide +kernel) (by decide +kernel)
theorem wit_timeCommandsDoTheirWork_1 :
    commitsWith ready 0x0500 (packetTo 0 (uBed 4) [1])
      (fun _ c => pf c 0 7 0 ≠ 0) :=
  commitsWith_of (by decide +kernel) (by decide +kernel)
theorem wit_timeCommandsDoTheirWork_2 :
    commitsWith ready 0x0501 (packetTo 0 (uBed 4) [1, 5, 0, 0, 0])
      (fun _ c => pw c 1 ≤ 999999999) :=
  commitsWith_of (by decide +kernel) (by decide +kernel)
theorem wit_timeCommandsDoTheirWork_3 :
    commitsWith ready 0x0502 (packetTo 0 (uBed 4) [1, 5, 0, 0, 0, 0, 0, 0, 0, 0])
      (fun d c => maskOf (pf c 0 7 0) ≠ [] ∧ pf c 0 9 8 = 0 ∧ pw c 1 ≤ 999999999 ∧
      (maskOf (pf c 0 7 0)).all (fun n => decide (0 ≤ tbDue d n + stepOff c * (2 ^ 32 : Nat))) = true) :=
  commitsWith_of (by decide +kernel) (by decide +kernel)
theorem wit_timeCommandsDoTheirWork_4 :
    commitsWith ready 0x0503 (packetTo 0 (uBed 4) [1, 0x7492784E, 0xCCCC])
      (fun _ c => pf c 0 2 0 ≠ 0 ∧ incrOk (pf c 0 2 0) (pw c 1 + 2 ^ 32 * pf c 2 23 0) = true) :=
  commitsWith_of (by decide +kernel) (by decide +kernel)
theorem wit_timeCommandsDoTheirWork_5 :
    commitsWith ready 0x0504 (packetTo 0 (uPort 1) (List.replicate 5 0))
      (fun d c => absorbed d (portOfUnit (tgt c)) = false ∧ pf c 0 2 0 ≤ 4 ∧ pb c 1 0 = false ∧ pb c 1 1 = false) :=
  commitsWith_of (by decide +kernel) (by decide +kernel)
theorem wit_timeCommandsDoTheirWork_6 :
    commitsWith ready 0x0505 (packetTo 0 (uPort 1) [1, 0, 0, 0, 0, 0])
      (fun d c => absorbed d (portOfUnit (tgt c)) = false ∧ pf c 0 3 0 = 1 ∧ portValueOk 0x200 (pw c 1) = true) :=
  commitsWith_of (by decide +kernel) (by decide +kernel)
theorem wit_trellisCommandsDoTheirWork_1 :
    commitsWith ready 0x0600 (packetTo 0 uDevice [1])
      (fun d c => sidesOf c ≠ [] ∧ (sidesOf c).all (fun x => (loadBad d c x).isNone) = true) :=
  commitsWith_of (by decide +kernel) (by decide +kernel)
theorem wit_trellisCommandsDoTheirWork_2 :
    commitsWith ready 0x0601 (packetTo 0 (uBed 4) [1])
      (fun _ c => sidesOf c ≠ [] ∧ pf c 0 5 4 ≠ 1) :=
  commitsWith_of (by decide +kernel) (by decide +kernel)
theorem wit_trellisCommandsDoTheirWork_3 :
    commitsWith (withRegs ready [(Reg.TRL_CAND_STATUS 0 0, 3)]) 0x0601 (packetTo 0 (uBed 4) [0x11])
      (fun d c => sidesOf c ≠ [] ∧ pf c 0 5 4 = 1 ∧
      (sidesOf c).all (fun x => candSt d x (pf c 0 11 8) == 3 || candSt d x (pf c 0 11 8) == 4) = true) :=
  commitsWith_of (by decide +kernel) (by decide +kernel)
theorem wit_trellisCommandsDoTheirWork_4 :
    commitsWith ready 0x0602 (packetTo 0 (uBed 4) [1])
      (fun _ c => sidesOf c ≠ []) :=
  commitsWith_of (by decide +kernel) (by decide +kernel)
theorem wit_trellisCommandsDoTheirWork_5 :
    commitsWith (withRegs ready [(Reg.TRL_STATUS 0, 6)]) 0x0603 (packetTo 0 (uBed 4) [1, 0, 0])
      (fun d c => sidesOf c ≠ [] ∧ (sidesOf c).all (fun x => sideSt d x == 6) = true ∧ pb c 0 4 = false ∧
      (signed 48 (pw c 1 + 2 ^ 32 * pf c 2 15 0)).natAbs ≤ ppm500) :=
  commitsWith_of (by decide +kernel) (by decide +kernel)
theorem wit_measurementAndColdFrameCommandsDoTheirWork_1 :
    commitsWith ready 0x0700 (packetTo 0 (uRefin 1) [1, 0, 0, 0, 0, 0, 1000000, 0, 0, 1, 0])
      (fun d c => c.pkt.part ≠ 2 ∧ ∃ k, keyOfMeter (tgt c) = some k ∧ measBad d k c.pkt.words = none ∧
      measHeld d (ownerOf c.origin) (measKeys k c.pkt.words) = none ∧ (meterOf d k).job = none ∧
      pf c 0 3 0 ≠ 0 ∧ pf c 0 3 0 ≠ 5) :=
  commitsWith_of (by decide +kernel) ⟨by decide +kernel, 41, by decide +kernel⟩
theorem wit_measurementAndColdFrameCommandsDoTheirWork_2 :
    commitsWith ready 0x0701 (packetTo 0 (uRefin 1) [0x10])
      (fun _ c => c.pkt.part ≠ 2 ∧ (keyOfMeter (tgt c)).isSome = true ∧ 1 ≤ pf c 0 8 4 ∧ pf c 0 8 4 ≤ 16) :=
  commitsWith_of (by decide +kernel) (by decide +kernel)
theorem wit_measurementAndColdFrameCommandsDoTheirWork_3 :
    commitsWith ready 0x0700 (packetTo 2 (uCfMeter 0) (List.replicate 11 0))
      (fun d c => c.pkt.part = 2 ∧ d.cf.reqs.length < 16) :=
  commitsWith_of (by decide +kernel) (by decide +kernel)
theorem wit_measurementAndColdFrameCommandsDoTheirWork_4 :
    commitsWith ready 0x0701 (packetTo 2 (uCfMeter 0) [0x10])
      (fun d c => c.pkt.part = 2 ∧ d.cf.reqs.length < 16) :=
  commitsWith_of (by decide +kernel) (by decide +kernel)
theorem wit_measurementAndColdFrameCommandsDoTheirWork_5 :
    commitsWith ready 0x0702 (packetTo 2 (uCE 0) [])
      (fun d _ => d.cf.reqs.length < 16) :=
  commitsWith_of (by decide +kernel) (by decide +kernel)
theorem wit_measurementAndColdFrameCommandsDoTheirWork_6 :
    commitsWith ready 0x0703 (packetTo 2 (uCE 0) [0, 1])
      (fun d _ => d.cf.reqs.length < 16) :=
  commitsWith_of (by decide +kernel) (by decide +kernel)
theorem wit_measurementAndColdFrameCommandsDoTheirWork_7 :
    commitsWith ready 0x0D00 (packetTo 2 (uCE 0) [2, 0, 0])
      (fun d c => c.pkt.part = 2 ∧ d.cf.reqs.length < 16) :=
  commitsWith_of (by decide +kernel) (by decide +kernel)
theorem wit_measurementAndColdFrameCommandsDoTheirWork_8 :
    commitsWith ready 0x0D01 (packetTo 2 (uCE 0) [2])
      (fun d c => c.pkt.part = 2 ∧ d.cf.reqs.length < 16) :=
  commitsWith_of (by decide +kernel) (by decide +kernel)
theorem wit_shaftAndPinCommandsDoTheirWork_1 :
    commitsWith ready 0x0800 (packetTo 0 (uFE 0) [0, 0, 0, 0, 8000, 0, 8000, 0, 1, 1, 1, 1, 1, 0, 0])
      (fun d c => sectionBad d c = none) :=
  commitsWith_of (by decide +kernel) (by decide +kernel)
theorem wit_shaftAndPinCommandsDoTheirWork_2 :
    commitsWith (modShaft ready 0 (fun h =>
      { h with cycle := 8000, lead := 8000, axisCount := 1, frames := [aFrame] })) 0x0800 (packetTo 0 (uFE 0) [0x37])
      (fun d c => pf c 0 2 0 = 7 ∧ pb c 0 4 = true ∧ pb c 0 5 = true ∧ shSt d (unitBed (tgt c)) = 0 ∧ graftSt d = 0 ∧
      wholeOk d (shaftOf d (unitBed (tgt c))) = true ∧
      workFits (shaftOf d (unitBed (tgt c))) (positionPins d (unitBed (tgt c)) 16) = true) :=
  commitsWith_of (by decide +kernel) (by decide +kernel)
theorem wit_shaftAndPinCommandsDoTheirWork_3 :
    commitsWith (modShaft (withRegs ready [(Reg.SYN_SH_STATUS 0, 1)]) 0 (fun h =>
      { h with cycle := 8000, axisCount := 1, frames := [aFrame] })) 0x0801 (packetTo 0 (uFE 0) [1, 0, 0, 0, 0, 0, 0, 0])
      (fun d c => motionBad d c (unitBed (tgt c)) = none ∧ pf c 0 2 0 = 1 ∧ shSt d (unitBed (tgt c)) = 1) :=
  commitsWith_of (by decide +kernel) (by decide +kernel)
theorem wit_shaftAndPinCommandsDoTheirWork_4 :
    commitsWith ready 0x0802 (packetTo 0 (uPin 1) [1, 1, 0, 0, 0, 0])
      (fun d c => claimBad d c = none ∧ pinFree d (pinOfUnit (tgt c)) (ownerOf c.origin) = true ∧
      inRange (pf c 0 2 0) 1 3 = true ∧ appends d c (pinOfUnit (tgt c)) = false ∧ shears d = false) :=
  commitsWith_of (by decide +kernel) (by decide +kernel)
theorem wit_shaftAndPinCommandsDoTheirWork_5 :
    commitsWith ready 0x0802 (packetTo 0 (uPin 1) [4])
      (fun d c => claimBad d c = none ∧ pinFree d (pinOfUnit (tgt c)) (ownerOf c.origin) = true ∧
      pf c 0 2 0 = 4 ∧ (inputMeter d (pinOfUnit (tgt c))).isSome = true ∧ shears d = false) :=
  commitsWith_of (by decide +kernel) (by decide +kernel)
theorem wit_shaftAndPinCommandsDoTheirWork_6 :
    commitsWith (withRegs ready [(Reg.SYN_PIN_OWNER 1, 6)]) 0x0803 (packetTo 0 (uPin 1) [])
      (fun d c => (pinOwner d (pinOfUnit (tgt c))).1 ≠ 0 ∧ pinOwner d (pinOfUnit (tgt c)) = ownerOf c.origin ∧
      flag d (Reg.SYN_PIN_OWNER (pinOfUnit (tgt c))) 10 = false) :=
  commitsWith_of (by decide +kernel) (by decide +kernel)
theorem wit_engineCommandsDoTheirWork_1 :
    commitsWith ready 0x0900 (packetTo 0 (uFE 1) (List.replicate 5 0))
      (fun d c => isApplet (engineOf (tgt c)) = true ∧ feSt d (engineOf (tgt c)) ≠ 3 ∧ pf c 0 17 0 = 0 ∧ pf c 1 12 0 % 4 = 0 ∧
      pf c 1 12 0 ≤ 4076 ∧ pb c 0 31 = false) :=
  commitsWith_of (by decide +kernel) (by decide +kernel)
theorem wit_engineCommandsDoTheirWork_2 :
    commitsWith (withRegs ready [(Reg.ENG_FE_STATUS 1, 4)]) 0x0901 (packetTo 0 (uFE 1) [0, 100])
      (fun d c => isApplet (engineOf (tgt c)) = true ∧ (feSt d (engineOf (tgt c)) = 2 ∨ feSt d (engineOf (tgt c)) = 4) ∧
      pf c 1 13 0 ≤ 10000) :=
  commitsWith_of (by decide +kernel) (by decide +kernel)
theorem wit_engineCommandsDoTheirWork_3 :
    commitsWith (withRegs ready [(Reg.ENG_FE_STATUS 1, 6)]) 0x0902 (packetTo 0 (uFE 1) [0])
      (fun d c => isApplet (engineOf (tgt c)) = true ∧ feSt d (engineOf (tgt c)) = 3 ∧
        (applet d (engineOf (tgt c))).stopDue = none) :=
  commitsWith_of (by decide +kernel) (by decide +kernel)
theorem wit_engineCommandsDoTheirWork_4 :
    commitsWith ready 0x0903 (packetTo 0 uDevice [0, 0x50E000])
      (fun _ c => pf c 0 1 0 = 0 ∧ unitInCf (pf c 1 15 0) = false ∧ ¬ (unitBed (pf c 1 15 0) = 4 ∧ unitType (pf c 1 15 0) = 6) ∧
      unitValid (pf c 1 15 0) = true ∧ eventOk (pf c 1 15 0) (pf c 1 23 16) = true ∧ pb c 1 26 = false) :=
  commitsWith_of (by decide +kernel) (by decide +kernel)
theorem wit_safetyClaimBankAndImageCommandsDoTheirWork_1 :
    commitsWith ready 0x0A00 (packetTo 1 (uService 6) [0x0101FFFF, 0])
      (fun _ c => inRange (pf c 0 29 24) 1 32 = true ∧ pf c 0 20 16 ≠ 0 ∧
        (pf c 0 15 0 == 0xFFFF || unitValid (pf c 0 15 0)) = true) :=
  commitsWith_of (by decide +kernel) (by decide +kernel)
theorem wit_safetyClaimBankAndImageCommandsDoTheirWork_2 :
    commitsWith ready 0x0A01 (packetTo 1 (uService 6) [0xE000])
      (fun _ c => pb c 0 24 = false ∧ unitValid (pf c 0 15 0) = true ∧ pf c 0 18 16 ≤ 4) :=
  commitsWith_of (by decide +kernel) (by decide +kernel)
theorem wit_safetyClaimBankAndImageCommandsDoTheirWork_3 :
    commitsWith ready 0x0A02 (packetTo 1 (uService 6) [0x01019E06, 0, 0])
      (fun d c => unitInCf (pf c 0 15 0) = false ∧ 1 ≤ pf c 0 27 24 ∧ pf c 0 27 24 ≠ 15 ∧
      (largestMode (pf c 0 15 0) (pf c 0 23 16)).any (fun m => decide (pf c 0 27 24 ≤ m)) = true ∧
      flag d Reg.FLT_STATUS 5 = false ∧ flag d Reg.FLT_STATUS 6 = false) :=
  commitsWith_of (by decide +kernel) (by decide +kernel)
theorem wit_safetyClaimBankAndImageCommandsDoTheirWork_4 :
    commitsWith ready 0x0B00 (packetTo 0 (uService 7) [])
      (fun _ _ => True) :=
  commitsWith_of (by decide +kernel) (by decide +kernel)
theorem wit_safetyClaimBankAndImageCommandsDoTheirWork_5 :
    commitsWith (withRegs ready [(Reg.RED_SIDE_CFG, 0x10000)]) 0x0B01 (packetTo 0 (uService 7) [0x0203])
      (fun d c => pf c 0 7 0 ≤ 31 ∧ pf c 0 15 8 ≤ 31 ∧ revertive d = true) :=
  commitsWith_of (by decide +kernel) (by decide +kernel)
theorem wit_safetyClaimBankAndImageCommandsDoTheirWork_6 :
    commitsWith (withRegs ready [(Reg.CMD_CFG, 1)]) 0x0B02 (packetTo 0 (uService 7) [0x0200])
      (fun d c => pf c 0 15 8 ≤ 31 ∧ flag d Reg.CMD_CFG 0 = true ∧ graftSt d = 0 ∧ d.red.partnerMsg = none) :=
  commitsWith_of (by decide +kernel) (by decide +kernel)
theorem wit_safetyClaimBankAndImageCommandsDoTheirWork_7 :
    commitsWith (withRegs ready [(Reg.RED_GRAFT_STATUS, 3)]) 0x0B03 (packetTo 0 (uService 7) [0])
      (fun d c => graftSt d = 3 ∧ pb c 0 0 = false) :=
  commitsWith_of (by decide +kernel) (by decide +kernel)
theorem wit_safetyClaimBankAndImageCommandsDoTheirWork_8 :
    commitsWith ready 0x0C00 (packetTo 0 (uBank 1) [])
      (fun d c => bankSt d (bankOf c) = 0 ∧ 8 < activeBanks d) :=
  commitsWith_of (by decide +kernel) (by decide +kernel)
theorem wit_safetyClaimBankAndImageCommandsDoTheirWork_9 :
    commitsWith (withRegs ready [(Reg.CORE_BANK_STATE 1, 2)]) 0x0C01 (packetTo 0 (uBank 1) [])
      (fun d c => bankSt d (bankOf c) = 2) :=
  commitsWith_of (by decide +kernel) (by decide +kernel)
theorem wit_safetyClaimBankAndImageCommandsDoTheirWork_10 :
    commitsWith ready 0x0D00 (packetTo 0 uDevice [1, 0, 0])
      (fun d c => c.pkt.part ≠ 2 ∧ imageBad c = none ∧ runningSlot d ≠ some (pf c 0 2 0)) :=
  commitsWith_of (by decide +kernel) (by decide +kernel)
theorem wit_safetyClaimBankAndImageCommandsDoTheirWork_11 :
    commitsWith ready 0x0D01 (packetTo 0 uDevice [0])
      (fun _ c => c.pkt.part ≠ 2 ∧ pf c 0 2 0 ≤ 3) :=
  commitsWith_of (by decide +kernel) (by decide +kernel)
theorem wit_ladderMessagesReachTheLadder_1 :
    meets (withRegs ready [(Reg.PORT_STATUS 1, 1)])
      ((fun (n : Fin 40) => fun d => (ticking d && coreReady d) = true ∧ portSt d (laneOwner d n) ≠ 0) 1) := by decide +kernel
theorem wit_ladderTimersMoveTheLadder_1 :
    meets (modLadder (withRegs later [(Reg.LANE_LADDER 1, 9)]) 1 (fun y => { y with sent := some (1, ⟨1, 1, 0, 5, 0, 0, [], 0⟩) }))
      ((fun (n : Fin 40) (k : Nat) (m : LadderMsg) => fun d => ladderRuns d n = true ∧ (ladderOf d n).sent = some (k, m) ∧
      (ladderOf d n).lastSent + (if ladderSt d n = 9 then secTicks else msTicks) ≤ d.dev) 1 1 ⟨1, 1, 0, 5, 0, 0, [], 0⟩) :=
        by decide +kernel
theorem wit_ladderTimersMoveTheLadder_2 :
    meets (modLadder (withRegs later [(Reg.LANE_LADDER 1, 2)]) 1 (fun y => y))
      ((fun (n : Fin 40) => fun d => ladderRuns d n = true ∧ ladderSt d n = 2 ∧ (ladderOf d n).peer.isNone = true ∧
      (ladderOf d n).t0 + offerTmo d n ≤ d.dev) 1) := by decide +kernel
theorem wit_ladderTimersMoveTheLadder_3 :
    meets (modLadder (withRegs later [(Reg.LANE_LADDER 1, 4)]) 1 (fun y => y))
      ((fun (n : Fin 40) => fun d => ladderRuns d n = true ∧ (ladderOf d n).t0 + adaptTmo d n ≤ d.dev ∧ ladderSt d n = 4) 1) :=
        by decide +kernel
theorem wit_ladderTimersMoveTheLadder_4 :
    meets (modLadder (withRegs later [(Reg.LANE_LADDER 1, 6)]) 1 (fun y => y))
      ((fun (n : Fin 40) => fun d => ladderRuns d n = true ∧ (ladderOf d n).t0 + adaptTmo d n ≤ d.dev ∧ ladderSt d n = 6) 1) :=
        by decide +kernel
theorem wit_ladderTimersMoveTheLadder_5 :
    meets (modLadder (withRegs later [(Reg.LANE_LADDER 1, 5)]) 1 (fun y => y))
      ((fun (n : Fin 40) => fun d => ladderRuns d n = true ∧ (ladderOf d n).t0 + adaptTmo d n + reportTmo d n ≤ d.dev ∧
        ladderSt d n = 5 ∧
      (ladderOf d n).reverted = false) 1) := by decide +kernel
theorem wit_ladderTimersMoveTheLadder_6 :
    meets (modLadder (withRegs later [(Reg.LANE_LADDER 1, 7)]) 1 (fun y => y))
      ((fun (n : Fin 40) => fun d => ladderRuns d n = true ∧ (ladderOf d n).t0 + reportTmo d n ≤ d.dev ∧ ladderSt d n = 7) 1) :=
        by decide +kernel
theorem wit_ladderTimersMoveTheLadder_7 :
    meets (modLadder (withRegs later [(Reg.LANE_LADDER 1, 3)]) 1 (fun y => { y with switchAt := some 9 }))
      ((fun (n : Fin 40) (t : Nat) => fun d => ladderRuns d n = true ∧ ladderSt d n = 3 ∧ (ladderOf d n).switchAt = some t ∧
        t ≤ d.dev) 1 9) := by decide +kernel
theorem wit_laneReceiverRowsActOnTheirLane_1 :
    meets (withRegs ready [(Reg.LANE_STATUS 1, 0x18)])
      ((fun (n : Fin 40) (h : List (List Nat)) => fun d => running d = true ∧ flag d (Reg.LANE_STATUS n) 3 = true ∧
        flag d (Reg.LANE_STATUS n) 4 = true ∧
      flag d (Reg.LANE_STATUS n) 10 = false ∧ h.all (fun l => levelCount l != 0) = true) 1 [[0, 7], [7]]) := by decide +kernel
theorem wit_laneReceiverRowsActOnTheirLane_2 :
    meets (withRegs ready [(Reg.LANE_STATUS 1, 0x18)])
      ((fun (n : Fin 40) => fun d => running d = true ∧ flag d (Reg.LANE_STATUS n) 4 = true) 1) := by decide +kernel
theorem wit_laneReceiverRowsActOnTheirLane_3 :
    meets ready
      ((fun (n : Fin 40) (ppb : Int) => fun d => ticking d = true ∧ fld d (Reg.LANE_STATUS n) 10 10 = 0 ∧
        flag d (Reg.LANE_STATUS n) 4 = false ∧
      ppb.natAbs ≤ 1100000) 1 0) := by decide +kernel
theorem wit_laneReceiverRowsActOnTheirLane_4 :
    meets (withRegs ready [(Reg.LANE_STATUS 1, 0x18)])
      ((fun (n : Fin 40) => fun d => running d = true ∧ flag d (Reg.LANE_STATUS n) 4 = true ∧ (lane d n).coarse = true) 1) :=
        by decide +kernel
theorem wit_laneReceiverRowsActOnTheirLane_5 :
    meets ready
      ((fun (n : Fin 40) (v : View) => fun d => reaches d v = true ∧ refSelected d (laneOwner d n) = false) 1 .pcie) :=
        by decide +kernel
theorem wit_laneReceiverRowsActOnTheirLane_6 :
    meets ready
      ((fun (v : View) => fun d => reaches d v = true) .pcie) := by decide +kernel
theorem wit_laneReceiverRowsActOnTheirLane_7 :
    meets (withRegs ready [(Reg.LANE_PRBS_CTL 1, 0x10), (Reg.LANE_CTL 1, 2), (Reg.LANE_STATUS 1, 0x18)])
      ((fun (n : Fin 40) (lock : Bool) => fun d => running d = true ∧ flag d (Reg.LANE_PRBS_CTL n) 4 = true ∧
        flag d (Reg.LANE_CTL n) 0 = false ∧
      flag d (Reg.LANE_CTL n) 1 = true ∧ fld d (Reg.LANE_STATUS n) 10 10 = 0 ∧
      (lock || flag d (Reg.LANE_PRBS_STAT n) 0) = true) 1 true) := by decide +kernel
theorem wit_lanePowerAndTestRowsActOnTheirLane_1 :
    meets ready
      ((fun (v : View) (x : Word) => fun d => reaches d v = true ∧ bits x.toNat 2 1 ≠ 3) .pcie 0) := by decide +kernel
theorem wit_lanePowerAndTestRowsActOnTheirLane_2 :
    meets (modLane (ready) 1 (fun x => { x with txEntry := some 2 }))
      ((fun (n : Fin 40) (t : Nat) => fun d => running d = true ∧ (lane d n).txEntry = some t) 1 2) := by decide +kernel
theorem wit_lanePowerAndTestRowsActOnTheirLane_3 :
    meets (modLane (ready) 1 (fun x => { x with rxEntry := some 1 }))
      ((fun (n : Fin 40) (t : Nat) => fun d => running d = true ∧ (lane d n).rxEntry = some t) 1 1) := by decide +kernel
theorem wit_lanePowerAndTestRowsActOnTheirLane_4 :
    meets (modLane (ready) 1 (fun x => { x with txWake := some 0 }))
      ((fun (n : Fin 40) => fun d => running d = true ∧ (lane d n).txWake.isSome = true) 1) := by decide +kernel
theorem wit_lanePowerAndTestRowsActOnTheirLane_5 :
    meets (modLane (ready) 1 (fun x => { x with rxWake := some 0 }))
      ((fun (n : Fin 40) => fun d => running d = true ∧ (lane d n).rxWake.isSome = true) 1) := by decide +kernel
theorem wit_lanePowerAndTestRowsActOnTheirLane_6 :
    meets ready
      ((fun (v : View) (x : Word) => fun d => reaches d v = true ∧
      bits x.toNat 5 0 + bits x.toNat 13 8 + bits x.toNat 21 16 + bits x.toNat 29 24 ≤ 63) .pcie 0) := by decide +kernel
theorem wit_lanePowerAndTestRowsActOnTheirLane_7 :
    meets ready
      ((fun (n : Fin 40) (v : View) (x : Word) => fun d => reaches d v = true ∧ patternFits (fld d (Reg.LANE_STATUS n) 1 0)
        (bits x.toNat 3 1) = true ∧
      patternFits (fld d (Reg.LANE_STATUS n) 1 0) (bits x.toNat 7 5) = true ∧ bit x.toNat 4 = true) 1 .pcie 0x12) :=
        by decide +kernel
theorem wit_lanePhaseRowsActOnTheirLane_1 :
    meets (withRegs later [(Reg.LANE_STATUS 1, 0x18)])
      ((fun (n : Fin 40) (dfs : Nat) => fun d => phaseRuns d n = true ∧ fld d (Reg.LANE_PH_CFG n) 15 8 * 1000 ≤ dfs) 1 300000) :=
        by decide +kernel
theorem wit_lanePhaseRowsActOnTheirLane_2 :
    meets (modLane (withRegs later [(Reg.LANE_STATUS 1, 0x18)]) 1 (fun x => { x with acqFrom := some 5 }))
      ((fun (n : Fin 40) (t : Nat) => fun d => (lane d n).acqFrom = some t ∧ phaseRuns d n = true ∧
        flag d (Reg.LANE_STATUS n) 7 = false ∧
      t + 200 * usTicks ≤ d.dev) 1 5) := by decide +kernel
theorem wit_lanePhaseRowsActOnTheirLane_3 :
    meets (withRegs later [(Reg.LANE_STATUS 1, 0x18)])
      ((fun (n : Fin 40) => fun d => phaseRuns d n = true ∧ (lane d n).winSlip = false) 1) := by decide +kernel
theorem wit_lanePhaseRowsActOnTheirLane_4 :
    meets (withRegs ready [(Reg.PORT_STATUS 1, 0x800), (Reg.PORT_STATUS 0, 0x4002)])
      ((fun (n : Fin 40) => fun d => ticking d = true ∧ laneOwner d n ≠ n ∧ flag d (Reg.PORT_STATUS (laneOwner d n)) 14 = true) 1) :=
        by decide +kernel
theorem wit_lanePhaseRowsActOnTheirLane_5 :
    meets ready
      ((fun (n : Fin 40) => fun d => ticking d = true ∧ fld d (Reg.LANE_STATUS n) 9 8 = 0) 1) := by decide +kernel
theorem wit_lanePhaseRowsActOnTheirLane_6 :
    meets (modLane (ready) 1 (fun x => { x with realign := true }))
      ((fun (n : Fin 40) => fun d => ticking d = true ∧ (lane d n).realign = true) 1) := by decide +kernel
theorem wit_lanePhaseRowsActOnTheirLane_7 :
    meets ready
      (fun d => running d = true) := by decide +kernel
theorem wit_lanePhaseRowsActOnTheirLane_8 :
    meets ready
      ((fun (n : Fin 40) (v : View) (x : Word) => fun d => reaches d v = true ∧ absorbed d n = false ∧
      alphaOk (stagedOr d v (Reg.PORT_ALPHA_LO n) + 2 ^ 32 * x.toNat) = true) 1 .pcie 0) := by decide +kernel
theorem wit_portRowsActOnTheirPort_1 :
    meets (withRegs ready [(Reg.PORT_STATUS 1, 2)])
      ((fun (n : Fin 40) (f : RxFrame) => fun d => (ticking d && coreReady d) = true ∧ absorbed d n = false ∧
        (receive d n f).2 = none) 1 { bytes := [], lane := 1 }) := by decide +kernel
theorem wit_portRowsActOnTheirPort_2 :
    meets ready
      (fun d => running d = true ∧ d.pwr.pcieUp = true ∧ coreReady d = true ∧ standby d = false) := by decide +kernel
theorem wit_portRowsActOnTheirPort_3 :
    meets (withRegs ready [(Reg.PORT_STATUS 1, 2)])
      ((fun (n : Fin 40) => fun d => portRuns d n = true) 1) := by decide +kernel
theorem wit_portRowsActOnTheirPort_7 :
    meets ready
      (fun d => running d = true) := by decide +kernel
theorem wit_portRowsActOnTheirPort_8 :
    meets (modPort (withRegs later [(Reg.PORT_STATUS 1, 3)]) 1 (fun x => { x with holdEnd := some 5 }))
      ((fun (n : Fin 40) (t : Nat) => fun d => (portOf d n).holdEnd = some t ∧ running d = true ∧ portSt d n = 3 ∧ t ≤ d.dev ∧
        (portOf d n).okSince = none) 1 5) := by decide +kernel
theorem wit_portRowsActOnTheirPort_9 :
    meets (modPort (withRegs (wr later (Reg.LANE_CFG 1) 0x280031) [(Reg.PORT_STATUS 1, 4)]) 1 (fun x =>
      { x with recoverAt := some 5 }))
      ((fun (n : Fin 40) (t : Nat) => fun d => (portOf d n).recoverAt = some t ∧ running d = true ∧ portSt d n = 4 ∧
        t + adaptTmo d n ≤ d.dev ∧ bringup d n ≠ 0) 1 5) := by decide +kernel
theorem wit_portRowsActOnTheirPort_10 :
    meets (withRegs ready [(Reg.PORT_STATUS 1, 5)])
      ((fun (n : Fin 40) => fun d => running d = true ∧ portSt d n = 5 ∧ queuesEmpty d n = true) 1) := by decide +kernel
theorem wit_portRowsActOnTheirPort_11 :
    meets (modPort (withRegs later [(Reg.PORT_STATUS 1, 5)]) 1 (fun x => { x with drainEnd := some 5 }))
      ((fun (n : Fin 40) (t : Nat) => fun d => (portOf d n).drainEnd = some t ∧ running d = true ∧ portSt d n = 5 ∧ t ≤ d.dev) 1 5) :=
        by decide +kernel
theorem wit_portRowsActOnTheirPort_12 :
    meets (withRegs ready [(Reg.PORT_STATUS 1, 2)])
      ((fun (n : Fin 40) (v : View) => fun d => reaches d v = true ∧ portSt d n = 2) 1 .pcie) := by decide +kernel
theorem wit_portRowsActOnTheirPort_13 :
    meets (withRegs ready [(Reg.PORT_STATUS 1, 0x4002), (Reg.LANE_STATUS 1, 0x18)])
      ((fun (n : Fin 40) => fun d => portRuns d n = true ∧ lanesLocked d n = true ∧ flag d (Reg.PORT_STATUS n) 14 = true) 1) :=
        by decide +kernel
theorem wit_portRowsActOnTheirPort_14 :
    meets (withRegs ready [(Reg.PORT_STATUS 1, 1), (Reg.PORT_CFG 1, 2), (Reg.LANE_CFG 1, 0), (Reg.LANE_STATUS 1, 0)])
      ((fun (n : Fin 40) => fun d => portRuns d n = true ∧ bringup d n ≠ 1 ∧ fld d (Reg.LANE_STATUS n) 1 0 = 0 ∧
        flag d (Reg.PORT_CFG n) 1 = true) 1) := by decide +kernel
theorem wit_l1SyncRowsActOnTheirPort_1 :
    meets (withRegs later [(Reg.PORT_STATUS 1, 2), (Reg.PORT_L1_CFG 1, 0x30001), (Reg.PORT_L1_STATUS 1, 1)])
      ((fun (n : Fin 40) => fun d => l1Runs d n = true ∧ portSt d n = 2) 1) := by decide +kernel
theorem wit_l1SyncRowsActOnTheirPort_2 :
    meets (withRegs later [(Reg.PORT_STATUS 1, 2), (Reg.PORT_L1_CFG 1, 0x30001), (Reg.PORT_L1_STATUS 1, 1)])
      ((fun (n : Fin 40) => fun d => l1Runs d n = true ∧ (portOf d n).tlvSent = none) 1) := by decide +kernel
theorem wit_l1SyncRowsActOnTheirPort_3 :
    meets (modPort (withRegs later [(Reg.PORT_STATUS 1, 2), (Reg.PORT_L1_CFG 1, 0x30001), (Reg.PORT_L1_STATUS 1, 1)]) 1 (fun x =>
      { x with tlvSent := some 5 }))
      ((fun (n : Fin 40) (t : Nat) => fun d => l1Runs d n = true ∧ (portOf d n).tlvSent = some t ∧ t + tlvGap d n ≤ d.dev) 1 5) :=
        by decide +kernel
theorem wit_l1SyncRowsActOnTheirPort_4 :
    meets (withRegs later [(Reg.PORT_STATUS 1, 2), (Reg.PORT_L1_CFG 1, 0x30001), (Reg.PORT_L1_STATUS 1, 2)])
      ((fun (n : Fin 40) => fun d => l1Runs d n = true ∧ 2 ≤ fld d (Reg.PORT_L1_STATUS n) 2 0 ∧
      (portOf d n).tlvAt + fld d (Reg.PORT_L1_CFG n) 23 16 * tlvGap d n ≤ d.dev) 1) := by decide +kernel
theorem wit_l1SyncRowsActOnTheirPort_5 :
    meets ready
      ((fun (n : Fin 40) (v : View) (x : Word) => fun d => reaches d v = true ∧ absorbed d n = false ∧
        portValueOk 0x220 x.toNat = true) 1 .pcie 0x01030001) := by decide +kernel
theorem wit_switchCoreRowsMoveTheirFrames_1 :
    meets (modCore ready (fun c => { c with planes := [(1, 7)] }))
      ((fun (pl : Fin 4) (i : Nat) (j : Nat) => fun d => running d = true ∧ d.core.planes.find? (fun p => p.1 == pl.val) = some (i,
        j)) 1 1 7) := by decide +kernel
theorem wit_switchCoreRowsMoveTheirFrames_2 :
    meets (modOut { ready with tick := secTicks } 1 (fun x =>
      { x with rake := [(9, { held := [(3, some { fid := 1, out := 1, tag := { tc := 1 } })] })] }))
      ((fun (o : Fin 42) (src : Fin 42) (tc : Fin 8) => fun d => ticking d = true ∧
        0 < heldCopies (streamOf d o (streamKey src tc)) ∧
      (streamOf d o (streamKey src tc)).gapAt + fld d Reg.CORE_RAKE_GAP 16 0 ≤ d.tick) 1 1 1) := by decide +kernel
theorem wit_switchCoreRowsMoveTheirFrames_3 :
    meets ready
      (fun d => ticking d = true) := by decide +kernel
theorem wit_switchCoreRowsMoveTheirFrames_4 :
    meets (modOut later 1 (fun x => { x with rel := [(1, [{ fid := 1, out := 1, tag := { tc := 1 } }])] }))
      ((fun (o : Fin 42) (tc : Fin 8) (c : Copy) (l : List Copy) => fun d => ticking d = true ∧ relOf d o tc = c :: l ∧
        aged d c = true) 1 1 { fid := 1, out := 1, tag := { tc := 1 } } []) := by decide +kernel
theorem wit_switchCoreRowsMoveTheirFrames_5 :
    meets (modOut later 1 (fun x => { x with launch := [{ fid := 1, out := 1, tag := { tc := 1 } }] }))
      ((fun (o : Fin 42) (tc : Fin 8) (c : Copy) (l : List Copy) => fun d => ticking d = true ∧ (outOf d o).launch = c :: l ∧
        c.tag.tc = tc.val ∧ aged d c = true) 1 1 { fid := 1, out := 1, tag := { tc := 1 } } []) := by decide +kernel
theorem wit_switchCoreRowsMoveTheirFrames_6 :
    meets (modOut later 1 (fun x =>
      { x with wire := some ⟨{ fid := 1, out := 1, tag := { tc := 1 } }, [], 0, 80, false, 0, true⟩ }))
      ((fun (o : Fin 42) => fun d => ticking d = true ∧ (outOf d o).wire.any (fun x => decide (x.endAt ≤ d.tick * 80)) = true) 1) :=
        by decide +kernel
theorem wit_bufferAndTableRowsActOnTheirTables_1 :
    meets (setFdb later 1 1 (some ⟨0, 5, 2, false, false, 0⟩))
      ((fun (b : Fin 16384) (way : Fin 4) (e : FdbEntry) => fun d => fdbAt d b way = some e ∧ running d = true ∧
        fld d Reg.CORE_FDB_AGE 15 0 ≠ 0 ∧ e.static_ = false ∧
      e.fresh + fld d Reg.CORE_FDB_AGE 15 0 * secTicks ≤ d.dev) 1 1 ⟨0, 5, 2, false, false, 0⟩) := by decide +kernel
theorem wit_bufferAndTableRowsActOnTheirTables_2 :
    meets (modFwd later (fun f => { f with recov := [(1, [0, 0x640000])], recovSt := [(1, some (0, []))] }))
      ((fun (i : Fin 4097) (a : Word) (b : Word) (l : List Word) => fun d => tget (fun _ => []) d.fwd.recov i = a :: b :: l ∧
        running d = true ∧
      (tget (fun _ => none) d.fwd.recovSt i).isSome = true ∧
      tget (fun _ => 0) d.fwd.recovAt i + bits b.toNat 25 16 * msTicks ≤ d.dev) 1 0 0x640000 []) := by decide +kernel
theorem wit_bufferAndTableRowsActOnTheirTables_3 :
    meets ready
      (fun d => running d = true) := by decide +kernel
theorem wit_bufferAndTableRowsActOnTheirTables_4 :
    meets (withRegs ready [(Reg.CORE_BANK_STATE 1, 1)])
      ((fun (b : Fin 16) => fun d => running d = true ∧ bankSt d b = 1 ∧ bankUsed d b = 0) 1) := by decide +kernel
theorem wit_bufferAndTableRowsActOnTheirTables_5 :
    meets (withRegs ready [(Reg.CORE_BANK_STATE 1, 3)])
      ((fun (b : Fin 16) => fun d => running d = true ∧ bankSt d b = 3 ∧ restoreOf d b = none) 1) := by decide +kernel
theorem wit_bufferAndTableRowsActOnTheirTables_7 :
    meets later
      ((fun (b : Fin 16) => fun d => running d = true ∧ tget (fun _ => 0) d.core.bankWinAt b + secTicks ≤ d.dev) 1) :=
        by decide +kernel
theorem wit_bufferAndTableRowsActOnTheirTables_8 :
    meets ready
      ((fun (v : View) (x : Word) => fun d => reaches d v = true ∧ bits x.toNat 14 0 ≤ 16384 ∧
        tendedFits d (bits x.toNat 14 0) = true) .pcie 0) := by decide +kernel
theorem wit_launchAndGateRowsActOnTheirPort_1 :
    meets ready
      (fun d => ticking d = true) := by decide +kernel
theorem wit_timeBaseRowsActOnTheirBase_1 :
    meets ready
      ((fun (v : View) (n : Fin 8) => fun d => reaches d v = true ∧ n.val ≠ 0) .pcie 1) := by decide +kernel
theorem wit_timeBaseRowsActOnTheirBase_2 :
    meets (stage ready .pcie (Reg.TB_INCR_LO 1) 0x7492784E)
      ((fun (v : View) (n : Fin 8) (x : Word) => fun d => reaches d v = true ∧
        incrOk n (stagedOr d v (Reg.TB_INCR_LO n) + 2 ^ 32 * bits x.toNat 23 0) = true) .pcie 1 0xCCCC) := by decide +kernel
theorem wit_timeBaseRowsActOnTheirBase_3 :
    meets ready
      ((fun (v : View) => fun d => reaches d v = true) .pcie) := by decide +kernel
theorem wit_timeBaseRowsActOnTheirBase_4 :
    meets ready
      ((fun (v : View) => fun d => reaches d v = true ∧ ticking d = true) .pcie) := by decide +kernel
theorem wit_timeBaseRowsActOnTheirBase_5 :
    meets ready
      (fun d => ticking d = true) := by decide +kernel
theorem wit_timeBaseRowsActOnTheirBase_6 :
    meets ready
      (fun d => running d = true) := by decide +kernel
theorem wit_timeBaseRowsActOnTheirBase_7 :
    meets ready
      ((fun (v : View) (first : Bool) => fun d => (match v with | .pcie => pcieOpen d | _ => running d) = true ∧
        (v = .spi → first = true)) .pcie true) := by decide +kernel
theorem wit_trellisRowsActOnTheirSide_1 :
    meets (withRegs later [(Reg.CLK_SYN_STATUS 0, 1)])
      ((fun (x : Side) => fun d => ticking d = true ∧ synLocked d (sideNum x) = true ∧
        (trlOf d (sideNum x)).loopIdx < loopNow d) .a) := by decide +kernel
theorem wit_trellisRowsActOnTheirSide_2 :
    meets (modCand (withRegs later [(Reg.TRL_CAND_STATUS 0 1, 2)]) 0 1 (fun c => { c with softAt := some 0 }))
      ((fun (x : Side) (e : Fin 16) => fun d => ticking d = true ∧ candSt d (sideNum x) e = 2 ∧
      passedSince d (candOf d (sideNum x) e).softAt (qualTicks d (sideNum x) e) = true) .a 1) := by decide +kernel
theorem wit_trellisRowsActOnTheirSide_3 :
    meets (withRegs later [(Reg.TRL_CAND_STATUS 0 1, 6)])
      ((fun (x : Side) (e : Fin 16) => fun d => ticking d = true ∧ candSt d (sideNum x) e = 6 ∧
      (candOf d (sideNum x) e).wtrAt + cw d (sideNum x) e 3 27 16 * secTicks ≤ d.tick) .a 1) := by decide +kernel
theorem wit_trellisRowsActOnTheirSide_4 :
    meets (withRegs ready [(Reg.TRL_CAND_W 0 1 0, 1)])
      ((fun (x : Side) (e : Fin 16) => fun d => ticking d = true ∧ cValid d (sideNum x) e = true) .a 1) := by decide +kernel
theorem wit_trellisRowsActOnTheirSide_5 :
    meets ready
      (fun d => ticking d = true) := by decide +kernel
theorem wit_trellisRowsActOnTheirSide_6 :
    meets (modTrl (withRegs later [(Reg.TRL_STATUS 0, 4)]) 0 (fun t => { t with acqAt := some 0 }))
      ((fun (x : Side) => fun d => ticking d = true ∧ sideSt d (sideNum x) = 4 ∧
      passedSince d (trlOf d (sideNum x)).acqAt (fld d (Reg.TRL_ACQ_TMO (sideNum x)) 9 0 * secTicks) = true) .a) :=
        by decide +kernel
theorem wit_trellisRowsActOnTheirSide_7 :
    meets later
      ((fun (x : Side) => fun d => ticking d = true ∧ (trlOf d (sideNum x)).secAt + secTicks ≤ d.tick) .a) := by decide +kernel
theorem wit_trellisRowsActOnTheirSide_8 :
    meets (withRegs later [(Reg.TRL_STATUS 0, 3)])
      ((fun (x : Side) => fun d => ticking d = true ∧ holdDue d (sideNum x) = true) .a) := by decide +kernel
theorem wit_trellisRowsActOnTheirSide_9 :
    meets (modCand (withRegs ready [(Reg.TRL_CAND_W 0 1 0, 1), (Reg.TRL_CAND_STATUS 0 1, 0x80)]) 0 1 (fun c =>
      { c with present := true }))
      ((fun (x : Side) (e : Fin 16) (a : Int) (b : Int) => fun d => ticking d = true ∧ cValid d (sideNum x) e = true ∧
        cType d (sideNum x) e = 0 ∧
      flag d (Reg.TRL_CAND_STATUS (sideNum x) e) 7 = true ∧ (candOf d (sideNum x) e).present = true ∧
      (a - b).natAbs ≤ 1000000) .a 1 0 0) := by decide +kernel
theorem wit_trellisRowsActOnTheirSide_10 :
    meets (modCand (ready) 0 1 (fun c => { c with present := true }))
      ((fun (x : Side) (e : Fin 16) => fun d => ticking d = true ∧ (candOf d (sideNum x) e).present = true) .a 1) :=
        by decide +kernel
theorem wit_trellisRowsActOnTheirSide_11 :
    meets (withRegs ready [(Reg.TB_PTP 1, 1), (Reg.PORT_DLY_CHG 1, 7)])
      ((fun (n : Fin 40) (chg : Word) => fun d => ticking d = true ∧ coreReady d = true ∧ (fld d (Reg.TB_PTP n) 2 0 = 1 ∨
        fld d (Reg.TB_PTP n) 2 0 = 3) ∧
      rd d (Reg.PORT_DLY_CHG n) = chg.toNat ∧ absorbed d n = false) 1 7) := by decide +kernel
theorem wit_clockRowsActOnTheClocks_1 :
    meets (modClk ready (fun c => { c with rootLocked := false }))
      (fun d => d.pwr.resetHeld = false ∧ d.clk.rootLocked = false ∧ d.clk.oscLost = false) := by decide +kernel
theorem wit_clockRowsActOnTheClocks_2 :
    meets ready
      (fun d => d.pwr.resetHeld = false ∧ d.clk.rootLocked = true) := by decide +kernel
theorem wit_clockRowsActOnTheClocks_3 :
    meets ready
      (fun d => d.pwr.resetHeld = false ∧ d.clk.oscLost = false) := by decide +kernel
theorem wit_clockRowsActOnTheClocks_4 :
    meets (modClk ready (fun c => { c with oscLost := true }))
      (fun d => d.pwr.resetHeld = false ∧ d.clk.oscLost = true) := by decide +kernel
theorem wit_clockRowsActOnTheClocks_5 :
    meets (modClk later (fun c => { c with freezeAt := some 0, gated := true }))
      (fun d => d.pwr.resetHeld = false ∧ restartReady d = true) := by decide +kernel
theorem wit_clockRowsActOnTheClocks_6 :
    meets ready
      ((fun (x : Side) => fun d => d.pwr.resetHeld = false ∧ d.clk.rootLocked = true ∧ synLocked d (sideNum x) = false) .a) :=
        by decide +kernel
theorem wit_clockRowsActOnTheClocks_7 :
    meets (withRegs ready [(Reg.CLK_SYN_STATUS 0, 1)])
      ((fun (x : Side) => fun d => running d = true ∧ synLocked d (sideNum x) = true) .a) := by decide +kernel
theorem wit_clockRowsActOnTheClocks_8 :
    meets ready
      ((fun (v : View) => fun d => reaches d v = true) .pcie) := by decide +kernel
theorem wit_clockRowsActOnTheClocks_9 :
    meets (modClk ready (fun c => { c with divReq := some (3, 16) }))
      ((fun (a : Nat) (n : Nat) => fun d => running d = true ∧ d.clk.divReq = some (a, n)) 3 16) := by decide +kernel
theorem wit_clockRowsActOnTheClocks_10 :
    meets ready
      (fun d => running d = true) := by decide +kernel
theorem wit_clockRowsActOnTheClocks_11 :
    meets (modClk (wr ready Reg.RED_GRAFT_STATUS 8) (fun c => { c with ppsMuted := false, ppsSec := some 5 }))
      (fun d => ticking d = true ∧ d.clk.ppsMuted = false ∧ d.clk.ppsSec ≠ some (ppsNow d) ∧ flag d Reg.CLK_PPS_CFG 21 = false ∧
      d.clk.ppsHigh = none ∧ d.clk.ppsFall = none ∧ pairedOff d 1 = false) := by decide +kernel
theorem wit_clockRowsActOnTheClocks_12 :
    meets ready
      (fun d => ticking d = true) := by decide +kernel
theorem wit_clockRowsActOnTheClocks_13 :
    meets ready
      (fun d => running d = true ∧ d.clk.oscLost = false) := by decide +kernel
theorem wit_meterRowsActOnTheirMeter_1 :
    meets ready
      (fun d => ticking d = true) := by decide +kernel
theorem wit_meterRowsActOnTheirMeter_2 :
    meets (modMeter later 41 (fun m => { m with method := 1 }))
      ((fun (m : MeterId) => fun d => ticking d = true ∧ (meterOf d (meterKey m)).method = 1) (.clk 1)) := by decide +kernel
theorem wit_meterRowsActOnTheirMeter_3 :
    meets (modMeter later 41 (fun m => { m with method := 2, pairs := 4096 }))
      ((fun (m : MeterId) => fun d => ticking d = true ∧ (meterOf d (meterKey m)).method = 2 ∧
        4096 ≤ (meterOf d (meterKey m)).pairs) (.clk 1)) := by decide +kernel
theorem wit_meterRowsActOnTheirMeter_4 :
    meets (modMeter later 41 (fun m => { m with method := 3 }))
      ((fun (m : MeterId) (a : Nat) (b : Nat) => fun d => ticking d = true ∧ (meterOf d (meterKey m)).method = 3 ∧
        (meterOf d (meterKey m)).ringAt + secTicks ≤ d.dev ∧
      ringsOk a b = true) (.clk 1) 4000000 3984375) := by decide +kernel
theorem wit_meterRowsActOnTheirMeter_5 :
    meets ready
      (fun d => ticking d = true ∧ d.fuse.ma = true) := by decide +kernel
theorem wit_meterRowsActOnTheirMeter_6 :
    meets (modMeter later 41 (fun m => { m with job := some { mode := 1 } }))
      ((fun (m : MeterId) (j : Job) => fun d => ticking d = true ∧ (meterOf d (meterKey m)).job = some j) (.clk 1) { mode := 1 }) :=
        by decide +kernel
theorem wit_meterRowsActOnTheirMeter_7 :
    meets ready
      ((fun (v : View) (first : Bool) => fun d => (match v with | .pcie => pcieOpen d | _ => running d) = true ∧
        (v = .spi → first = true)) .pcie true) := by decide +kernel
theorem wit_coldFrameRowsActOnThePartition_1 :
    meets (modCmd (modCf ready (fun f => { f with up := true, reqs := [⟨3, 0x0702, 0x8C00, [], 0⟩] })) (fun t =>
      { t with inflight := [{ origin := .firmware, opcode := 0x0702, pkt := { tag := 5, part := 2, target := 0x8C00 }, stage := .work, seq := 3 }] }))
      ((fun (r : CfReq) (l : List CfReq) (c : InFlight) => fun d => d.fuse.ma = true ∧ running d = true ∧ d.cf.up = true ∧
        d.cf.replies.length < 16 ∧ d.cf.reqs = r :: l ∧
      inflightOf d r.seq = some c) ⟨3, 0x0702, 0x8C00, [],
        0⟩ [] { origin := .firmware, opcode := 0x0702, pkt := { tag := 5, part := 2, target := 0x8C00 }, stage := .work, seq := 3 }) := by decide +kernel
theorem wit_coldFrameRowsActOnThePartition_2 :
    meets (modCf ready (fun f => { f with replies := [(3, 0, [])] }))
      ((fun (q : Nat) (st : Nat) (ws : List Word) (l : List (Nat × Nat × List Word)) => fun d => d.fuse.ma = true ∧
        running d = true ∧ d.cf.replies = (q, st, ws) :: l) 3 0 [] []) := by decide +kernel
theorem wit_coldFrameRowsActOnThePartition_3 :
    meets ready
      (fun d => (d.pwr.vdd33 || d.cf.vbatOk) = true ∧ d.fuse.ma = true) := by decide +kernel
theorem wit_coldFrameRowsActOnThePartition_4 :
    meets ready
      (fun d => d.fuse.ma = true) := by decide +kernel
theorem wit_coldFrameRowsActOnThePartition_5 :
    meets (modPwr ready (fun p => { p with vdd33 := true }))
      (fun d => d.fuse.ma = true ∧ d.pwr.vdd33 = true) := by decide +kernel
theorem wit_coldFrameRowsActOnThePartition_6 :
    meets (modCf ready (fun f => { f with up := true }))
      (fun d => d.fuse.ma = true ∧ running d = true ∧ d.cf.up = true) := by decide +kernel
theorem wit_coldFrameRowsActOnThePartition_7 :
    meets ready
      (fun d => d.fuse.ma = true ∧ ticking d = true ∧ d.cf.up = false) := by decide +kernel
theorem wit_shaftRowsActOnTheirShaft_1 :
    meets ready
      (fun d => ticking d = true) := by decide +kernel
theorem wit_shaftRowsActOnTheirShaft_3 :
    meets ready
      (fun d => running d = true) := by decide +kernel
theorem wit_appletServicesAnswer_3 :
    meets (modApplet (withRegs later [(Reg.ENG_FE_STATUS 1, 6)]) 1 (fun a => { a with waiting := some (.tick 0) }))
      ((fun (e : Fin 16) (t : WaitTarget) => fun d => (applet d e).waiting = some t ∧ ticking d = true ∧ feRuns d e = true ∧
        waitOver d t = true) 1 (.tick 0)) := by decide +kernel
theorem wit_engineRowsActOnTheirEngine_1 :
    meets ((withRegs later [(Reg.ENG_FE_STATUS 1, 6)]))
      ((fun (e : Fin 16) => fun d => running d = true ∧ feRuns d e = true ∧ (applet d e).waiting = none) 1) := by decide +kernel
theorem wit_engineRowsActOnTheirEngine_2 :
    meets (withRegs (withRegs later [(Reg.ENG_FE_STATUS 1, 6)]) [(Reg.ENG_FE_WDT 1, 100)])
      ((fun (e : Fin 16) => fun d => running d = true ∧ feRuns d e = true ∧ wdtOut d e = true) 1) := by decide +kernel
theorem wit_engineRowsActOnTheirEngine_3 :
    meets (modApplet ready 1 (fun a => { a with stopDue := some (1, false) }))
      ((fun (e : Fin 16) => fun d => running d = true ∧ (applet d e).stopDue.isSome = true) 1) := by decide +kernel
theorem wit_engineRowsActOnTheirEngine_4 :
    meets ready
      ((fun (v : View) (e : Fin 16) => fun d => reaches d v = true ∧ isApplet e = true) .pcie 1) := by decide +kernel
theorem wit_engineRowsActOnTheirEngine_5 :
    meets ready
      ((fun (v : View) => fun d => reaches d v = true) .pcie) := by decide +kernel
theorem wit_engineRowsActOnTheirEngine_7 :
    meets ready
      ((fun (v : View) (b : Fin 5) (x : Word) => fun d => reaches d v = true ∧
        valueOk d (Reg.PMC_SMP_CTL b) x.toNat = true) .pcie 1 0) := by decide +kernel
theorem wit_engineRowsActOnTheirEngine_8 :
    meets ready
      ((fun (v : View) (first : Bool) => fun d => (match v with | .pcie => pcieOpen d | _ => running d) = true ∧
        (v = .spi → first = true)) .pcie true) := by decide +kernel
theorem wit_registerRowsReachTheirRegister_1 :
    meets ready
      ((fun (v : View) (a : Nat) => fun d => reaches d v = true ∧ a % 4 = 0 ∧ a < 2 ^ 24 ∧ (v = .spi → ppKey a = none)) .pcie 0) :=
        by decide +kernel
theorem wit_registerRowsReachTheirRegister_2 :
    meets ready
      ((fun (v : View) (a : Nat) => fun d => reaches d v = true ∧ a % 4 = 0 ∧ a < 2 ^ 24 ∧ isEventReg a = true ∧
        (v = .spi → ppKey a = none)) .pcie Reg.GLB_EVENT) := by decide +kernel
theorem wit_registerRowsReachTheirRegister_3 :
    meets ready
      ((fun (v : View) => fun d => reaches d v = true) .pcie) := by decide +kernel
theorem wit_registerRowsReachTheirRegister_4 :
    meets ready
      ((fun (v : View) => fun d => reaches d v = true ∧ d.bus.wolLocked = false) .pcie) := by decide +kernel
theorem wit_registerRowsReachTheirRegister_5 :
    meets (setPending later 0x20 (some (0, 0x73400001, 5)))
      ((fun (v : View) (a : Nat) (x : Word) (t : Nat) => fun d => running d = true ∧ ppPending d a = some (viewNum v, x, t) ∧
        t + ppWindow < d.dev) .pcie 0x20 0x73400001 5) := by decide +kernel
theorem wit_registerRowsReachTheirRegister_7 :
    meets ready
      (fun d => running d = true) := by decide +kernel
theorem wit_registerRowsReachTheirRegister_9 :
    meets ready
      ((fun (a : Nat) (i : RegInfo) => fun d => regInfo a = some i ∧ running d = true ∧ i.par = true) Reg.CORE_TENDED_REL ⟨4, 4, 1,
        2500, 131071, 0, 0, true⟩) := by decide +kernel
theorem wit_registerRowsReachTheirRegister_10 :
    meets ready
      ((fun (v : View) (a : Nat) => fun d => viewOpen d v = true ∧ a % 4 = 0 ∧ a < 2 ^ 24) .pcie 0) := by decide +kernel
theorem wit_pairedWritesApplyTheirRegister_1 :
    meets ready
      ((fun (v : View) => fun d => reaches d v = true ∧ ppPending d Reg.GLB_DEV_RESET = none) .pcie) := by decide +kernel
theorem wit_pairedWritesApplyTheirRegister_2 :
    meets ready
      ((fun (v : View) => fun d => reaches d v = true ∧ ppPending d Reg.GLB_DORMANT = none) .pcie) := by decide +kernel
theorem wit_pairedWritesApplyTheirRegister_3 :
    meets ready
      ((fun (v : View) => fun d => reaches d v = true ∧ ppPending d Reg.FLT_SHEARS_REQ = none ∧ d.flt.requests = []) .pcie) :=
        by decide +kernel
theorem wit_pairedWritesApplyTheirRegister_4 :
    meets ready
      ((fun (v : View) => fun d => reaches d v = true ∧ ppPending d Reg.FLT_SHEARS_REL = none ∧ d.flt.requests = []) .pcie) :=
        by decide +kernel
theorem wit_pairedWritesApplyTheirRegister_5 :
    meets ready
      ((fun (v : View) => fun d => reaches d v = true ∧ ppPending d Reg.RED_GRAFT_FORCE = none) .pcie) := by decide +kernel
theorem wit_safetyRowsActOnThePartition_1 :
    meets (modFlt ready (fun s => { s with requests := [(0, Reg.FLT_SHEARS_REQ, 0x5AFE0001, 3)] }))
      ((fun (r : Nat × Nat × Word × Nat) (l : List (Nat × Nat × Word × Nat)) => fun d => running d = true ∧ d.flt.requests = r :: l)
        (0, Reg.FLT_SHEARS_REQ, 0x5AFE0001, 3) []) := by decide +kernel
theorem wit_safetyRowsActOnThePartition_2 :
    meets (withRegs ready [(0x201100, 1)])
      (fun d => running d = true ∧ flag d 0x201100 0 = true) := by decide +kernel
theorem wit_safetyRowsActOnThePartition_3 :
    meets ready
      (fun d => running d = true) := by decide +kernel
theorem wit_safetyRowsActOnThePartition_4 :
    meets ready
      ((fun (v : View) => fun d => reaches d v = true) .pcie) := by decide +kernel
theorem wit_safetyRowsActOnThePartition_6 :
    meets ready
      (fun d => d.clk.oscLost = false ∧ d.pwr.resetHeld = false) := by decide +kernel
theorem wit_safetyRowsActOnThePartition_7 :
    meets (modFlt later (fun s => { s with factoryEnd := some 9 }))
      ((fun (t : Nat) => fun d => d.pwr.resetHeld = false ∧ d.flt.factoryEnd = some t ∧ t ≤ d.now) 9) := by decide +kernel
theorem wit_redundancyRowsActOnTheClaims_1 :
    meets ready
      (fun d => running d = true) := by decide +kernel
theorem wit_redundancyRowsActOnTheClaims_3 :
    meets ready
      (fun d => d.pwr.resetHeld = false) := by decide +kernel
theorem wit_redundancyRowsActOnTheClaims_7 :
    meets (withRegs ready [(Reg.CLK_SYN_STATUS 0, 1), (Reg.CLK_SYN_STATUS 1, 1)])
      ((fun (fs : Int) => fun d => ticking d = true ∧ synLocked d (1 - activeSide d) = true ∧ fs.natAbs ≤ 3000) 0) :=
        by decide +kernel
theorem wit_redundancyRowsActOnTheClaims_8 :
    meets ready
      ((fun (fs : Int) => fun d => ticking d = true ∧ 10000 < fs.natAbs) 20000) := by decide +kernel
theorem wit_redundancyRowsActOnTheClaims_11 :
    meets (withRegs ready [(Reg.RED_GRAFT_STATUS, 3)])
      (fun d => running d = true ∧ coreReady d = true ∧ 2 ≤ graftSt d ∧ d.red.mirrorSent = none) := by decide +kernel
theorem wit_redundancyRowsActOnTheClaims_12 :
    meets ready
      (fun d => running d = true ∧ coreReady d = true) := by decide +kernel
theorem wit_redundancyRowsActOnTheClaims_15 :
    meets (modRed later (fun r => { r with handover := some 9 }))
      ((fun (t : Nat) => fun d => running d = true ∧ d.red.handover = some t ∧ t ≤ d.dev) 9) := by decide +kernel
theorem wit_redundancyRowsActOnTheClaims_16 :
    meets ready
      ((fun (v : View) => fun d => reaches d v = true) .pcie) := by decide +kernel
theorem wit_redundancyRowsActOnTheClaims_17 :
    meets ready
      ((fun (b : List Byte) => fun d => ticking d = true ∧ coreReady d = true ∧ beAt b 12 2 ≠ 0x88B5 ∧
        inRange b.length 64 10240 = true ∧ fcsGood b = true ∧
      standby d = false) (refcs (List.replicate 68 0))) := by decide +kernel
theorem wit_powerRowsActOnThePower_1 :
    meets (modPwr ready (fun p => { p with resetHeld := true }))
      (fun d => d.pwr.resetHeld = true ∧ d.pwr.dormant = none) := by decide +kernel
theorem wit_powerRowsActOnThePower_2 :
    meets ready
      ((fun (rail : Fin 5) (k : Nat) => fun d => usTicks ≤ k ∧ d.pwr.resetHeld = false ∧ rail.val ≠ 0) 1 20000) := by decide +kernel
theorem wit_powerRowsActOnThePower_3 :
    meets ready
      ((fun (k : Nat) => fun d => usTicks ≤ k ∧ d.pwr.resetHeld = false) 20000) := by decide +kernel
theorem wit_powerRowsActOnThePower_4 :
    meets ready
      ((fun (k : Nat) => fun d => 10 * usTicks ≤ k ∧ d.pwr.resetHeld = false) 20000) := by decide +kernel
theorem wit_powerRowsActOnThePower_5 :
    meets ready
      (fun d => d.pwr.resetHeld = false) := by decide +kernel
theorem wit_powerRowsActOnThePower_6 :
    meets ready
      (fun d => ticking d = true ∧ d.flt.checkPassed = false) := by decide +kernel
theorem wit_powerRowsActOnThePower_7 :
    meets (modFlt ready (fun s => { s with checkPassed := true }))
      (fun d => running d = true ∧ d.flt.checkPassed = true ∧ d.pwr.imageDone = false) := by decide +kernel
theorem wit_powerRowsActOnThePower_8 :
    meets (modPwr (wr ready Reg.GLB_PWR_STATUS 0) (fun p => { p with imageDone := true }))
      (fun d => running d = true ∧ d.pwr.imageDone = true ∧ recovery d = false ∧ coreReady d = false) := by decide +kernel
theorem wit_powerRowsActOnThePower_9 :
    meets (modPwr later (fun p => { p with resetHeld := true, dormant := some 9, vdd33 := true }))
      ((fun (k : Nat) (t : Nat) => fun d => msTicks ≤ k ∧ d.pwr.dormant = some t) 1250000 9) := by decide +kernel
theorem wit_powerRowsActOnThePower_10 :
    meets (wr (modPwr later (fun p => { p with resetHeld := true, dormant := some 9, vdd33 := true })) Reg.GLB_WAKE_TIMER 1)
      ((fun (t : Nat) => fun d => d.pwr.dormant = some t ∧ rd d Reg.GLB_WAKE_TIMER ≠ 0 ∧
      rd d Reg.GLB_WAKE_TIMER * secTicks * 95 ≤ (d.now - t) * 100) 9) := by decide +kernel
theorem wit_powerRowsActOnThePower_11 :
    meets (modPwr later (fun p => { p with resetHeld := true, dormant := some 9, vdd33 := true }))
      ((fun (t : Nat) => fun d => d.pwr.dormant = some t ∧ d.pwr.vdd33 = true ∧ t + 100 * msTicks ≤ d.now) 9) := by decide +kernel
theorem wit_powerRowsActOnThePower_12 :
    meets ready
      (fun d => running d = true) := by decide +kernel
theorem wit_powerRowsActOnThePower_13 :
    meets (modPwr ready (fun p => { p with bedWake := p.bedWake.set 1 (some 0) }))
      ((fun (b : Fin 4) => fun d => running d = true ∧ (d.pwr.bedWake.getD b none).isSome = true) 1) := by decide +kernel
theorem wit_powerRowsActOnThePower_14 :
    meets (modPwr ready (fun p => { p with coreWake := some 0 }))
      (fun d => running d = true ∧ d.pwr.coreWake.isSome = true) := by decide +kernel
theorem wit_transportRowsMoveTheirPackets_1 :
    meets ready
      ((fun (v : View) (x : Word) => fun d => reaches d v = true ∧ x.toNat % 65536 % 16 = 0) .pcie 0) := by decide +kernel
theorem wit_transportRowsMoveTheirPackets_2 :
    meets ready
      ((fun (v : View) (x : Word) => fun d => reaches d v = true ∧ bits x.toNat 23 16 ≠ 0 ∧ bit x.toNat 1 = true) .pcie 0x10002) :=
        by decide +kernel
theorem wit_transportRowsMoveTheirPackets_4 :
    meets (modCmd (withRegs later [(Reg.CMD_RING_CTL 1, 0x01010001)]) (fun t => { t with unsig := [(1, (2, 5))] }))
      ((fun (k : Fin 4) (n : Nat) (t : Nat) => fun d => running d = true ∧ tget (fun _ => (0, 0)) d.cmd.unsig k = (n, t) ∧ n ≠ 0 ∧
        fld d (Reg.CMD_RING_CTL k) 31 24 ≠ 0 ∧
      t + fld d (Reg.CMD_RING_CTL k) 31 24 * usTicks ≤ d.now) 1 2 5) := by decide +kernel
theorem wit_transportRowsMoveTheirPackets_5 :
    meets ready
      (fun d => running d = true ∧ d.cmd.mbxIn.length < 1028) := by decide +kernel
theorem wit_transportRowsMoveTheirPackets_6 :
    meets (modCmd ready (fun t => { t with mbxIn := packetWords 0x0100 (packetTo 0 uDevice []) }))
      (fun d => running d = true ∧ 4 ≤ d.cmd.mbxIn.length ∧ d.cmd.mbxIn.length = 4 + lengthOf d.cmd.mbxIn ∧
        frontOpen d .spi = true ∧
      slotFree d .spi (bits (d.cmd.mbxIn.getD 0 0).toNat 15 0) 16 isSpi = true) := by decide +kernel
theorem wit_transportRowsMoveTheirPackets_7 :
    meets ready
      (fun d => running d = true) := by decide +kernel
theorem wit_transportRowsMoveTheirPackets_8 :
    meets (modCmd ready (fun t =>
      { t with inflight := [{ origin := .spi, opcode := 0x0111, pkt := { tag := 5, target := 0xE000 }, stage := .done, seq := 3 }] }))
      ((fun (c : InFlight) => fun d => running d = true ∧ nextReply d isSpi = some c ∧
        d.cmd.mbxRead + 1 < (replyWords c).length) { origin := .spi, opcode := 0x0111, pkt := { tag := 5, target := 0xE000 }, stage := .done, seq := 3 }) := by decide +kernel
theorem wit_transportRowsMoveTheirPackets_9 :
    meets (withRegs ready [(Reg.CMD_CFG, 1)])
      ((fun (b : List Byte) (ws : List Word) => fun d => ticking d = true ∧ coreReady d = true ∧ beAt b 12 2 = 0x88B5 ∧
        fcsGood b = true ∧ standby d = false ∧
      packetAt b 14 = some ws ∧ flag d Reg.CMD_CFG 0 = true ∧ frontOpen d .brely = true) (commandFrame 0 0 [0x00050100, 0xE0000000,
        0, 0]) [0x00050100, 0xE0000000, 0, 0]) := by decide +kernel
theorem wit_transportRowsMoveTheirPackets_10 :
    meets (modCmd ready (fun t =>
      { t with inflight := [{ origin := .firmware, opcode := 0x0111, pkt := { tag := 5, target := 0xE000 }, stage := .wait, seq := 3 }] }))
      ((fun (o : Origin) (tag : BitVec 10) (c : InFlight) => fun d => tagged d o tag (fun c => c.stage == .wait) = some c ∧
        c.stage = .wait ∧ fencesBefore c = true ∧ c.aux = [] ∧
      fenceOver d c = true ∧
        running d = true) .firmware 5 { origin := .firmware, opcode := 0x0111, pkt := { tag := 5, target := 0xE000 }, stage := .wait, seq := 3 }) := by decide +kernel
theorem wit_transportRowsMoveTheirPackets_11 :
    meets (modCmd later (fun t =>
      { t with inflight := [{ origin := .firmware, opcode := 0x0901, pkt := { tag := 5, target := 0x801 }, stage := .work, seq := 3 }] }))
      ((fun (o : Origin) (tag : BitVec 10) (c : InFlight) => fun d => tagged d o tag (fun c =>
        running d && timedOut d c) = some c) .firmware 5 { origin := .firmware, opcode := 0x0901, pkt := { tag := 5, target := 0x801 }, stage := .work, seq := 3 }) := by decide +kernel
theorem wit_configurationWritesChangeTheirRegisterAlone_1 :
    meets ready
      ((fun (v : View) (a : Nat) (x : Word) => fun d => reaches d v = true ∧ valueOk d a x.toNat = true ∧
        (rweAt d a).1 = false) .pcie 0 0) := by decide +kernel
theorem wit_ringMemoryHoldsWhatIsWritten_1 :
    meets ready
      (fun d => pcieOpen d = true) := by decide +kernel
theorem wit_appletServicesAnswer_1 :
    meets (withRegs later [(Reg.ENG_FE_STATUS 1, 6)]) (fun d =>
      running d = true ∧ feRuns d 1 = true ∧ (applet d 1).waiting = none ∧ inCommand d 1 = false) := by decide +kernel

/-! ### The other statements -/

/-- A command in flight. -/
def waiting (seq tag opcode : Nat) (st : Stage) : InFlight :=
  { origin := .firmware, opcode := opcode, pkt := packetTo 0 uDevice [], stage := st, seq := seq,
    aux := if tag = 5 then [] else [1] }

theorem wit_abortStopsAWaitingCommand_1 :
    let d := before 0 ready
    let p := packetTo 0 uDevice [7]
    packet d .firmware 0x0110 p = accept d .firmware (packetWords 0x0110 p) [] false ∧
    headerFault d (taken d .firmware 0x0110 p []) (d.cmd.inflight.any (fun c =>
      c.origin == .firmware && c.pkt.tag == p.tag)) = none ∧
    recovery d = false ∧ p.wf = true := by decide +kernel

theorem wit_abortStopsAWaitingCommand_2 :
    let v := waiting 3 5 0x0111 .wait
    let d := modCmd ready (fun t => { t with inflight := [v] })
    let c : InFlight :=
      { origin := .firmware, opcode := 0x0110, pkt := { tag := 6, target := 0xE000, words := [5] }, stage := .wait, seq := 4 }
    pb c 0 16 = false ∧
    d.cmd.inflight.find? (fun x => x.origin == c.origin && x.seq != c.seq && x.pkt.tag.toNat == pf c 0 9 0) = some v ∧
    v.opcode ≠ 0x0110 ∧ v.stage = .wait ∧ inflightOf (complete d v.seq stAborted [0]) v.seq = none := by decide +kernel

theorem wit_abortStopsAWaitingCommand_3 :
    let c : InFlight :=
      { origin := .firmware, opcode := 0x0110, pkt := { tag := 6, target := 0xE000, words := [5] }, stage := .wait, seq := 4 }
    pb c 0 16 = false ∧
    ready.cmd.inflight.find? (fun x => x.origin == c.origin && x.seq != c.seq && x.pkt.tag.toNat == pf c 0 9 0) = none := by
  decide +kernel

theorem wit_coldFrameRowsActOnThePartition_decisions :
    cfHalted ready = false ∧ (waiting 3 5 0x0702 .work).opcode = 0x0702 ∧ (waiting 3 5 0x0703 .work).opcode = 0x0703 :=
      by decide +kernel

theorem wit_everyStepKeepsTheOrderOfTheClocks :
    Machine.Inv ⟨[.rootPllLock 3], later⟩ ∧ ∃ t, step ⟨[.rootPllLock 3], later⟩ = .next t :=
  ⟨by unfold Machine.Inv; decide +kernel, _, rfl⟩

theorem wit_nothingReachesADeviceInReset :
    heldInReset State.reset.dev ∧ Instr.actsInReset (.coreReady 3) = false := ⟨⟨rfl, rfl, rfl⟩, rfl⟩

/-- A time base that a slew moves backwards. -/
def slewing : TimeBase := { val := 10 ^ 30, slew := some (-5, 100) }

theorem wit_manyTicksAreSingleTicks : 0 < 7 := by decide

theorem wit_aTickAddsTheIncrement_1 :
    slewing.setPend = none ∧ slewing.stepPend = 0 ∧ slewing.slewPend = none ∧ slewing.val < 2 ^ 64 * secUnit ∧
    0xCCCCCCCCCCCCC < 2 ^ 56 ∧
    ((-5 : Int) = match slewing.slew with
      | none => 0
      | some (rm, rate) => Int.sign rm * min ((0xCCCCCCCCCCCCC * rate / 1000000000 : Nat) : Int) rm.natAbs) ∧
    (∀ (rm : Int) (rate : Nat), slewing.slew = some (rm, rate) → rate ≤ 500000) := by
  refine ⟨rfl, rfl, rfl, by decide +kernel, by decide, by decide +kernel, ?_⟩
  intro rm rate h
  cases h
  decide

theorem wit_bothSidesAdvanceAlike_1 : 0 < 3 ∧ ticking ready = true ∧ 7 < 8 ∧ 1 < 2 := by decide +kernel
theorem wit_bothSidesAdvanceAlike_2 : ticking State.reset.dev = false := by decide +kernel

theorem wit_aSetAppliesInTheNextTick :
    let d := modTb ready 0 7 (fun t => { t with setPend := some 5 })
    7 < 8 ∧ (tbOf d (activeSide d) 7).setPend = some 5 ∧ (tbOf d (activeSide d) 7).stepPend = 0 ∧
    (tbOf d (activeSide d) 7).stepDue = 0 ∧ (tbOf d (activeSide d) 7).slewPend = none ∧ 5 < 2 ^ 64 * secUnit := by decide +kernel

theorem wit_incrementsKeepTheirRange_2 :
    (1 : Nat) ≠ 0 ∧ incrOk 1 (stagedOr ready .pcie (Reg.TB_INCR_LO 1) + 2 ^ 32 * bits 0xFFFFFF 23 0) = false := by decide +kernel
theorem wit_incrementsKeepTheirRange_3 :
    let c : InFlight := { origin := .spi, opcode := 0x0503, pkt := packetTo 0 (uBed 4) [1, 0, 0], stage := .wait, seq := 0 }
    pf c 0 2 0 ≠ 0 ∧ incrOk (pf c 0 2 0) (pw c 1 + 2 ^ 32 * pf c 2 23 0) = false := by decide +kernel

theorem wit_someAccessesReachNoRegister_1 : reserved 0x7FFC = true ∧ 0x7FFC < 0x300000 := by decide +kernel
theorem wit_someAccessesReachNoRegister_3 : 0x300000 ≤ 0x303FFC ∧ 0x303FFC < 0x304000 := by decide
theorem wit_someAccessesReachNoRegister_4 : pcieOpen State.reset.dev = false := by decide +kernel
theorem wit_someAccessesReachNoRegister_5 :
    let d := wr ready Reg.GLB_PWR_STATUS 0
    running d = true ∧ coreReady d = false ∧ recovery d = false := by decide +kernel
theorem wit_someAccessesReachNoRegister_6 : pcieOpen ready = true ∧ 0xFFFFFF < 2 ^ 24 := by decide +kernel

theorem wit_configurationWritesChangeTheirRegisterAlone :
    (View.pcie ≠ .fw ∧ 0x180000 ≤ Reg.CORE_TENDED_REL ∧ Reg.CORE_TENDED_REL < 0x1B5000 ∧ cntInfo Reg.CORE_TENDED_REL = none ∧
      regInfo Reg.CORE_TENDED_REL = some ⟨4, 4, 1, 2500, 131071, 0, 0, true⟩) ∧
    meets ready (fun d => reaches d .pcie = true ∧ valueOk d Reg.CORE_TENDED_REL 250 = true ∧
      (rweAt d Reg.CORE_TENDED_REL).1 = false) := by
  decide +kernel

theorem wit_eventsClearByWritingOnes : bit 0x80000000 31 = true ∧ bit 0x80000000 0 = false := by decide

theorem wit_theLockTakesItsFirstWriteOnly :
    ready.bus.wolLocked = false ∧ (modBus ready (fun b => { b with wolLocked := true })).bus.wolLocked = true := by decide +kernel

theorem wit_pairProtectionAppliesOnlyTheWholeSequence_1 :
    let d := setPending later Reg.GLB_DEV_RESET (some (0, 0x73400001, 5))
    ppPending d Reg.GLB_DEV_RESET = some (viewNum .pcie, 0x73400001, 5) ∧ 5 + ppWindow ≤ 5 + ppWindow ∧
    ppKey Reg.GLB_DEV_RESET = some (0x73400001 : Word).toNat := by decide +kernel
theorem wit_pairProtectionAppliesOnlyTheWholeSequence_2 :
    ¬ ∃ p, ppPending ready Reg.GLB_DEV_RESET = some p ∧ p.1 = viewNum .pcie ∧ 5 ≤ p.2.2 + ppWindow ∧ (0 : Word) = ~~~p.2.1 ∧
      ppKey Reg.GLB_DEV_RESET = some p.2.1.toNat := by
  rintro ⟨p, h, -⟩
  cases h
theorem wit_pairProtectionAppliesOnlyTheWholeSequence_3 :
    let d := setPending later Reg.GLB_DEV_RESET (some (1, 0x73400001, 5))
    ppPending d Reg.GLB_DEV_RESET = some (1, 0x73400001, 5) ∧ 1 ≠ viewNum .pcie ∧ 5 ≤ 5 + ppWindow := by decide +kernel

theorem wit_groupReadsLatchTheirUpperWords_1 :
    (∀ m k, parityCheck ready (Reg.CMD_CNT 0) m k = ready) ∧ groupOf (Reg.CMD_CNT 0) = some (Reg.CMD_CNT 0, 2) ∧
    takeAt (Reg.CMD_CNT 0) = none ∧ 1 ≤ 1 ∧ 1 < 2 := by
  refine ⟨fun m k => ?_, by decide +kernel, by decide +kernel, by decide, by decide⟩
  have h : regInfo (Reg.CMD_CNT 0) = none := by decide +kernel
  simp [parityCheck, h, ready]
theorem wit_groupReadsLatchTheirUpperWords_2 :
    let a := Reg.CMD_CNT 0 + 4
    let d := modBus ready (fun b => { b with shadow := [(viewKey .pcie a, some 9)] })
    (∀ m k, parityCheck d a m k = d) ∧ groupOf a = some (Reg.CMD_CNT 0, 2) ∧ a ≠ Reg.CMD_CNT 0 ∧
    tget (fun _ => none) d.bus.shadow (viewKey .pcie a) = some 9 ∧ tget (fun _ => none) ready.bus.shadow (viewKey .pcie a) = none :=
      by
  refine ⟨fun m k => ?_, by decide +kernel, by decide +kernel, by decide +kernel, by decide +kernel⟩
  have h : regInfo (Reg.CMD_CNT 0 + 4) = none := by decide +kernel
  simp [parityCheck, h, ready]

theorem wit_engineCountersWrapAndSetTheirBit :
    cnt (setCnt ready (Reg.PMC_G_LO 63) (2 ^ 48 - 1)) (Reg.PMC_G_LO 63) = 2 ^ 48 - 1 ∧ cnt ready (Reg.PMC_G_LO 63) < 2 ^ 48 - 1 ∧
    cnt (setCnt ready (Reg.ENG_FE_CNT_LO 15 3) (2 ^ 48 - 1)) (Reg.ENG_FE_CNT_LO 15 3) = 2 ^ 48 - 1 ∧
    cnt (setCnt ready (Reg.ENG_ME_CNT_LO 1 3) (2 ^ 48 - 1)) (Reg.ENG_ME_CNT_LO 1 3) = 2 ^ 48 - 1 := by decide +kernel

theorem wit_ringMemoryHoldsWhatIsWritten :
    (0x7FFFC % 4 = 0 ∧ 0x7FFFC < 0x80000 ∧ 3 < 4 ∧ ¬ (0x7FFFC ≤ 0 ∧ 0 < 0x7FFFC + 4)) ∧ meets ready (fun d => pcieOpen d = true) :=
      by
  decide +kernel

theorem wit_fencesHoldBackTheirOriginAlone :
    let c := waiting 4 5 0x0111 .wait
    let x := waiting 3 5 0x0111 .wait
    let d := modCmd ready (fun t => { t with inflight := [x, c] })
    (fencesBefore c = true ∧ c.aux = [] ∧ x ∈ d.cmd.inflight ∧ x.origin = c.origin ∧ x.seq < c.seq ∧ x.stage ≠ .done) ∧
    fencesAfter x = true ∧
    d.cmd.inflight.filter (fun x => x.origin == c.origin)
      = (modCmd d (fun t => { t with inflight := { x with origin := .spi } :: t.inflight })).cmd.inflight.filter
        (fun x => x.origin == c.origin) := by decide +kernel

theorem wit_headerFaultsHaveNoOtherEffect :
    let ws := packetWords 0x0111 (packetTo 0 0 [])
    (∀ x, x ∈ ready.cmd.inflight → x.seq < ready.cmd.nextSeq) ∧ (stBadParam, 0xFFF).1 ≠ 0 ∧
    headerFault ready { origin := .firmware, opcode := (packetOf ws).1, pkt := (packetOf ws).2, vlans := [], stage := .wait,
                        seq := ready.cmd.nextSeq }
      (ready.cmd.inflight.any (fun c => c.origin == .firmware && c.pkt.tag == (packetOf ws).2.tag)) = some (stBadParam, 0xFFF) := by
  refine ⟨fun x h => ?_, by decide, by decide +kernel⟩
  cases h

/-- A device with an active fault of class S. -/
def inDanger : Device :=
  modFlt ready (fun s =>
    { s with records := [{ unit := uService 6, cls := 3, level := 1, cause := 0x21 }], present := [(uService 6, 0x21, 0)] })

theorem wit_refusedActionsChangeOnlyTheirEvent_1 : classActive inDanger 3 = true := by decide +kernel
theorem wit_refusedActionsChangeOnlyTheirEvent_2 :
    graftSt (wr ready Reg.RED_GRAFT_STATUS 2) ≤ 2 ∧ graftSt (wr ready Reg.RED_GRAFT_STATUS 3) = 3 ∧
    graftSt (wr ready Reg.RED_GRAFT_STATUS 4) = 4 := by decide +kernel
theorem wit_refusedActionsChangeOnlyTheirEvent_3 :
    recovery (wr ready Reg.GLB_PWR_STATUS 2) = true ∧ inRecovery (waiting 3 5 0x0111 .wait).opcode = false ∧
    (waiting 3 5 0x0111 .wait).pkt.chain = false := by decide +kernel

theorem wit_faultPinWritesWaitForMe1AndThePulse :
    View.pcie ≠ .fw ∧
    (modFlt ready (fun s => { s with requests := [(viewNum .pcie, Reg.FLT_PIN, 1, 9)] })).flt.requests = [(viewNum .pcie,
      Reg.FLT_PIN, 1, 9)] ∧
    ready.flt.pulseEnd = none ∧ (modFlt ready (fun s => { s with pulseEnd := some 9 })).flt.pulseEnd = some 9 ∧ 9 ≤ 9 :=
      by decide +kernel

end Sys2Proof.Tests
end

section
/-! Writes of the register views: an aligned word of a view whose writes reach the registers, and what it does to a CORE or QUEn
configuration register. -/

namespace Sys2Proof.Machine

open Sys2Proof

/-! ### A whole word of a view -/

/-- A view whose writes reach the registers can write now. -/
theorem viewOpen_of_reaches {d : Device} {v : View} (h : reaches d v = true) : viewOpen d v = true := by
  cases v <;> simp_all [reaches, viewOpen]

/-- SPI_WLOCK stops no word of a view whose writes reach the registers. -/
theorem wordWrite_of_reaches {d : Device} {v : View} (a : Nat) (x : Word) (h : reaches d v = true) :
    wordWrite d v a x = regWrite d v a x := by
  cases v <;> simp_all [reaches, wordWrite]

/-- An aligned word of a view whose writes reach the registers is written, except a lone SPI word at a pair-protected register. -/
theorem access_whole_of_reaches {d : Device} {v : View} {a : Nat} (x : Word) (h : reaches d v = true) (h4 : a % 4 = 0)
    (ha : a < 2 ^ 24) (hpp : v = .spi → ppKey a = none) : access d v a (.whole x) = regWrite d v a x := by
  have hlone : (decide (v = .spi) && (ppKey a).isSome) = false := by
    by_cases hv : v = .spi <;> simp [hv, hpp]
  have hbar : ¬ 16777216 ≤ a := Nat.not_le.mpr ha
  simp [access, viewOpen_of_reaches h, hbar, h4, hlone, wordWrite_of_reaches a x h]

/-! ### The map -/

/-- The map lists aligned offsets alone. -/
theorem aligned_of_regInfo {a : Nat} {i : RegInfo} (h : regInfo a = some i) : a % 4 = 0 := by
  by_contra h4
  simp [regInfo, h4] at h

/-- An offset with a row in the map is not reserved. -/
theorem reserved_of_regInfo {a : Nat} {i : RegInfo} (h : regInfo a = some i) : reserved a = false := by
  simp [reserved, h]

/-! ### CORE and QUEn -/

/-- No pair-protected register lies in CORE or QUEn. -/
theorem ppKey_coreQue {a : Nat} (lo : 0x180000 ≤ a) (hi : a < 0x1B5000) : ppKey a = none := by
  have hne : ∀ n, n < 0x180000 → a ≠ n := by omega
  simp [ppKey, hne, Reg.GLB_DEV_RESET, Reg.GLB_DORMANT, Reg.FLT_SHEARS_REQ, Reg.FLT_SHEARS_REL, Reg.RED_GRAFT_FORCE]

/-- CORE and QUEn have no register with a rule of its own. -/
theorem regWrite_coreQue (d : Device) (v : View) {a : Nat} (x : Word) (lo : 0x180000 ≤ a) (hi : a < 0x1B5000)
    (hres : reserved a = false) : regWrite d v a x = plainWrite d v a x.toNat := by
  have below : ∀ n, n ≤ 0x180000 → ¬ a < n := by omega
  have above : a < 0x200000 := by omega
  have other : ∀ n, n < 0x180000 ∨ 0x1B5000 ≤ n → a ≠ n := by omega
  simp [regWrite, hres, below, above, other, inFlt, Reg.RED_GRAFT_CTL, Reg.RED_GRAFT_FORCE, Reg.RED_GRAFT_FORCE_N,
    Reg.QUEG_POOL_CFG, Reg.FWD_SEL, Reg.FWD_CLR]

/-- Nothing follows a write in CORE or QUEn. -/
theorem afterWrite_coreQue (d : Device) {a : Nat} (old : Nat) (lo : 0x180000 ≤ a) (hi : a < 0x1B5000) : afterWrite d a old = d := by
  have hlane : ¬ a < 0x128000 := by omega
  have hport : ¬ a < 0x168000 := by omega
  have htrl : ∀ n, n < 2 → a ≠ Reg.TRL_MODEL n := by intro n hn; simp only [Reg.TRL_MODEL]; omega
  simp [afterWrite, hlane, hport, htrl]

/-! ### Registers of RW and RWE fields -/

/-- While the block's enable is clear, a field write of the PCIe or SPI view takes the RW and RWE bits and raises nothing. -/
theorem fieldWrite_of_disabled (d : Device) {v : View} {a : Nat} (x : Nat) {i : RegInfo} (hv : v ≠ .fw) (hw : i.w1c = 0)
    (he : (rweAt d a).1 = false) : fieldWrite d v a x i = wr d a (merge (rd d a) (Nat.lor i.rw i.rwe) x) := by
  simp [fieldWrite, he, hv, hw]

/-- A valid write of a register without W1C bits is a field write and what follows it. -/
theorem plainWrite_of_valid (d : Device) (v : View) {a x : Nat} {i : RegInfo} (hc : cntInfo a = none) (hr : regInfo a = some i)
    (hw : i.w1c = 0) (hok : valueOk d a x = true) : plainWrite d v a x = afterWrite (fieldWrite d v a x i) a (rd d a) := by
  simp [plainWrite, hc, hr, hw, hok]

/-- A valid word of the PCIe or SPI view at a CORE or QUEn configuration register changes its writable bits alone. -/
theorem access_coreQue {d : Device} {v : View} {a : Nat} {x : Word} {i : RegInfo} (hv : v ≠ .fw) (lo : 0x180000 ≤ a)
    (hi : a < 0x1B5000) (hc : cntInfo a = none) (hr : regInfo a = some i) (hw : i.w1c = 0) (h : reaches d v = true)
    (hok : valueOk d a x.toNat = true) (he : (rweAt d a).1 = false) :
    access d v a (.whole x) = wr d a (merge (rd d a) (Nat.lor i.rw i.rwe) x.toNat) :=
  calc access d v a (.whole x)
    _ = regWrite d v a x := access_whole_of_reaches x h (aligned_of_regInfo hr) (by omega) (fun _ => ppKey_coreQue lo hi)
    _ = plainWrite d v a x.toNat := regWrite_coreQue d v x lo hi (reserved_of_regInfo hr)
    _ = afterWrite (fieldWrite d v a x.toNat i) a (rd d a) := plainWrite_of_valid d v hc hr hw hok
    _ = fieldWrite d v a x.toNat i := afterWrite_coreQue _ _ lo hi
    _ = wr d a (merge (rd d a) (Nat.lor i.rw i.rwe) x.toNat) := fieldWrite_of_disabled d x.toNat hv hw he

/-- Settles O49: the row runs the view's access, which is a write of the register alone. -/
theorem configurationWritesChangeTheirRegisterAlone : Obligations.ConfigurationWritesChangeTheirRegisterAlone := by
  refine ⟨fun v a x i hv lo hi hc hr hw => ?_, fun d a n => ?_⟩
  · refine effect_of_run (fun w s => exec_registerWrite w v a (.whole x) s) ?_
    rintro d ⟨hreach, hok, he⟩
    exact access_coreQue hv lo hi hc hr hw hreach hok he
  · exact ⟨rd_wr_self d a n, same_wr d n (List.mem_singleton_self a)⟩

end Sys2Proof.Machine
end

section
/-! The port rows under the conditions of their own-effect statements: for each row's meaning, what it does in the case named. -/

namespace Sys2Proof.Machine

open Sys2Proof

/-- An update whose condition is known to hold is made. -/
theorem onlyIf_of {b : Bool} (d : Device) (f : Device → Device) (h : b = true) : onlyIf b d f = f d := by
  rw [h, onlyIf_true]

/-! ### Frames that enter (R34, R646) -/

/-- A frame that holds no command is received, and nothing follows. -/
theorem receiveFrame_of_no_command {d : Device} {n : Fin 40} {f : RxFrame} (h : (receive d n f).2 = none) :
    receiveFrame d n f = (receive d n f).1 := by
  simp [receiveFrame, h]

/-- Outside STANDBY, a frame of the host enters by the CPU port at once, padded and with its FCS (log 36). -/
theorem hostInject_of_awake {d : Device} (pre : List Word) (bytes : List Byte) (hrun : running d = true)
    (hup : d.pwr.pcieUp = true) (hready : coreReady d = true) (hawake : standby d = false) :
    hostInject d pre bytes = hostFrame d (tagOfWords pre) (withFcs bytes) none := by
  simp [hostInject, hrun, hup, hready, hawake]

/-! ### Link conditions (R53, R96, R109) -/

/-- The bit of PORT_STATUS in which a condition of link_ok fails, and the value it then has (R96). -/
def linkCauseBit : LinkCause → Nat × Bool
  | .pcs => (14, false)
  | .autoneg => (18, false)
  | .localFault => (15, true)
  | .remoteFault => (16, true)

/-- A condition that fails at a working port shows in its bit of PORT_STATUS, and the port is judged again. -/
theorem linkCause_of_portRuns {d : Device} {n : Nat} (c : LinkCause) (h : portRuns d n = true) :
    linkCause d n c = portChanged (setFlag d (Reg.PORT_STATUS n) (linkCauseBit c).1 (linkCauseBit c).2) n := by
  rw [linkCause, onlyIf_of _ _ h]
  cases c <;> rfl

/-- LINK_FAULT's own effect, for every condition. -/
theorem effect_linkFault (n : Fin 40) (c : LinkCause) :
    Effect (fun w => .linkFault w n c) (fun d => portRuns d n = true)
      (fun d => portChanged (setFlag d (Reg.PORT_STATUS n) (linkCauseBit c).1 (linkCauseBit c).2) n) :=
  effect_of_run (fun w s => exec_linkFault w n c s) (fun _ h => linkCause_of_portRuns c h)

/-- Alignment reported again to an aligned port restarts no lane's skew. -/
theorem pcsAlign_of_aligned {d : Device} {n : Nat} (hruns : portRuns d n = true) (hlocked : lanesLocked d n = true)
    (haligned : flag d (Reg.PORT_STATUS n) 14 = true) :
    pcsAlign d n = portChanged (setFld d (Reg.PORT_STATUS n) 16 14 1) n := by
  simp [pcsAlign, hruns, hlocked, haligned]

/-- Clause 37 completes at 1000BASE-X: the port is outside Clause 73, and its configuration asks for auto-negotiation. -/
theorem anEnd_of_clause37 {d : Device} {n : Nat} (rate : Nat) (fec : Bool) (hruns : portRuns d n = true) (hmode : bringup d n ≠ 1)
    (hrate : fld d (Reg.LANE_STATUS n) 1 0 = 0) (hcfg : flag d (Reg.PORT_CFG n) 1 = true) :
    anEnd d n rate fec = portChanged (setFlag d (Reg.PORT_STATUS n) 18 true) n := by
  simp [anEnd, hruns, hmode, hrate, hcfg]

/-- LINK_RESTART of a port that is UP is one link fault. -/
theorem linkRestart_of_up {d : Device} {n : Nat} (h : portSt d n = 2) :
    linkRestart d n = l1Eval (eligEval (faultFromUp d n) n) n := by
  simp [linkRestart, h]

/-! ### HOLD and recovery (R98, R102) -/

/-- DOWN_HOLD elapses in HOLD while link_ok is away: the port flushes and goes DOWN. -/
theorem holdOver_of_not_ok {d : Device} {n t : Nat} (hend : (portOf d n).holdEnd = some t) (hrun : running d = true)
    (hst : portSt d n = 3) (ht : t ≤ d.dev) (hok : (portOf d n).okSince = none) :
    holdOver d n = linkOkUpdate (setLinkState (flushPort d n) n 4) n := by
  simp [holdOver, hend, hrun, hst, ht, hok]

/-- The bring-up mode of a lane does not depend on what its ladder holds. -/
@[simp] theorem bringup_modLadder (d : Device) (n m : Nat) (f : Ladder → Ladder) : bringup (modLadder d m f) n = bringup d n := rfl

/-- Outside Ladder mode, a failed attempt in DOWN is counted, and the next begins. -/
theorem recoveryFail_of_not_ladder {d : Device} {n t : Nat} (hat : (portOf d n).recoverAt = some t) (hrun : running d = true)
    (hst : portSt d n = 4) (ht : t + adaptTmo d n ≤ d.dev) (hmode : bringup d n ≠ 0) :
    recoveryFail d n =
      linkOkUpdate (attemptBegin (modLadder d n (fun x => { x with fails := (ladderOf d n).fails + 1 })) n) n := by
  simp [recoveryFail, hat, hrun, hst, ht, hmode]

/-! ### Drains (R104) -/

/-- The drain ends when the queues are empty. -/
theorem drainEmpty_of_queuesEmpty {d : Device} {n : Nat} (hrun : running d = true) (hst : portSt d n = 5)
    (hempty : queuesEmpty d n = true) : drainEmpty d n = drainFinish d n := by
  simp [drainEmpty, hrun, hst, hempty]

/-- The drain ends when its time is over. -/
theorem drainOver_of_elapsed {d : Device} {n t : Nat} (hend : (portOf d n).drainEnd = some t) (hrun : running d = true)
    (hst : portSt d n = 5) (ht : t ≤ d.dev) : drainOver d n = drainFinish d n := by
  simp [drainOver, hend, hrun, hst, ht]

/-- Settles O17, row by row: the row runs its meaning, and the conditions name the case of it. -/
theorem portRowsActOnTheirPort : Obligations.PortRowsActOnTheirPort := by
  intro n
  refine ⟨fun f => ?rxFrame, fun pre b => ?hostFrameInject, effect_linkFault n .pcs, effect_linkFault n .autoneg,
    effect_linkFault n .localFault, effect_linkFault n .remoteFault, ?linkOkHeld, fun t => ?downHoldElapsed,
    fun t => ?recoveryAttemptFail, ?drainQueuesEmpty, fun t => ?drainTmo, fun v => ?linkRestart, ?pcsAligned,
    fun rate fec => ?anDone⟩
  case rxFrame =>
    refine effect_of_run (fun w s => exec_rxFrame w n f s) ?_
    rintro d ⟨-, -, hnone⟩
    exact receiveFrame_of_no_command hnone
  case hostFrameInject =>
    refine effect_of_run (fun w s => exec_hostFrameInject w pre b s) ?_
    rintro d ⟨hrun, hup, hready, hawake⟩
    exact hostInject_of_awake pre b hrun hup hready hawake
  case linkOkHeld =>
    exact effect_of_run (fun w s => exec_linkOkHeld w n s) (fun d hrun => onlyIf_of d _ hrun)
  case downHoldElapsed =>
    refine effect_of_run (fun w s => exec_downHoldElapsed w n s) ?_
    rintro d ⟨hend, hrun, hst, ht, hok⟩
    exact holdOver_of_not_ok hend hrun hst ht hok
  case recoveryAttemptFail =>
    refine effect_of_run (fun w s => exec_recoveryAttemptFail w n s) ?_
    rintro d ⟨hat, hrun, hst, ht, hmode⟩
    exact recoveryFail_of_not_ladder hat hrun hst ht hmode
  case drainQueuesEmpty =>
    refine effect_of_run (fun w s => exec_drainQueuesEmpty w n s) ?_
    rintro d ⟨hrun, hst, hempty⟩
    exact drainEmpty_of_queuesEmpty hrun hst hempty
  case drainTmo =>
    refine effect_of_run (fun w s => exec_drainTmo w n s) ?_
    rintro d ⟨hend, hrun, hst, ht⟩
    exact drainOver_of_elapsed hend hrun hst ht
  case linkRestart =>
    refine effect_of_run (fun w s => exec_linkRestart w v n s) ?_
    rintro d ⟨hreach, hup⟩
    rw [viewWrite_of_reaches _ _ hreach, linkRestart_of_up hup]
  case pcsAligned =>
    refine effect_of_run (fun w s => exec_pcsAligned w n s) ?_
    rintro d ⟨hruns, hlocked, haligned⟩
    exact pcsAlign_of_aligned hruns hlocked haligned
  case anDone =>
    refine effect_of_run (fun w s => exec_anDone w n rate fec s) ?_
    rintro d ⟨hruns, hmode, hrate, hcfg⟩
    exact anEnd_of_clause37 rate fec hruns hmode hrate hcfg

end Sys2Proof.Machine
end

section
/-! The port and lane commands: what a command does that is alone in flight and that its own rule carries out, and the case of that rule
which each own-effect statement names. -/

namespace Sys2Proof.Machine

open Sys2Proof

/-! ### A command that its own rule carries out at its commit -/

/-- A header without fault names the partition of its opcode (R468). -/
theorem partFits_of_header {d : Device} {c : InFlight} {dup : Bool} (h : headerFault d c dup = none) : partFits c = true := by
  by_contra hp
  rw [Bool.not_eq_true] at hp
  simp only [headerFault, partOk, hp, Bool.false_and, Bool.not_false, if_true] at h
  split_ifs at h

/-- An opcode whose command is carried out at its commit and not forwarded to the partner: it is no ABORT (R477), never goes to the
Cold Frame as images, meters and its own two opcodes do (R468), and is no shaft command (R575). -/
def carriedOutHere (opcode : Nat) : Bool :=
  decide (opcode < 65536) && opcode != 0x0110 && !isImage opcode && opcode / 2 != 0x0380 && opcode != 0x0702 && opcode != 0x0703
    && opcode != 0x0800 && opcode != 0x0801

/-- A command of such an opcode names no partition of the Cold Frame. -/
theorem part_of_carriedOutHere {c : InFlight} (h : carriedOutHere c.opcode = true) (hfit : partFits c = true) : c.pkt.part ≠ 2 := by
  intro hpart
  simp only [carriedOutHere, Bool.and_eq_true, Bool.not_eq_true', bne_iff_ne] at h
  obtain ⟨⟨⟨⟨⟨⟨⟨-, -⟩, himage⟩, hmeter⟩, hid⟩, haudit⟩, -⟩, -⟩ := h
  by_cases hA : c.opcode / 256 = 0x0A <;> simp [partFits, himage, hmeter, hid, haudit, hpart, hA] at hfit

/-- A command of such an opcode is not forwarded to the partner. -/
theorem forwards_of_carriedOutHere {c : InFlight} (d : Device) (oks : Nat) (h : carriedOutHere c.opcode = true) :
    forwards d c oks = d := by
  simp only [carriedOutHere, Bool.and_eq_true, bne_iff_ne] at h
  obtain ⟨⟨-, hconfig⟩, hmotion⟩ := h
  simp [forwards, hconfig, hmotion]

/-- A command row's own effect is that of its opcode's rule, op, where the two agree. -/
theorem commandEffect_of_op {c : Nat → Origin → Pkt → Instr} {opcode : Nat} {H : Device → InFlight → Prop}
    {E op : Device → InFlight → Device} (hrun : ∀ w o p s, exec (c w o p) s = run w s (fun d => packet d o opcode p))
    (hop : carriedOutHere opcode = true) (hcarry : ∀ d x, x.opcode = opcode → carryOut d x = op d x)
    (heq : ∀ d x, H d x → op d x = E d x) : CommandEffect c opcode H E := by
  intro w o p s d' vlans hc hH
  have hpart : p.part ≠ 2 :=
    part_of_carriedOutHere (c := taken d' o opcode p vlans) hop (partFits_of_header hc.header)
  have hlt : opcode < 65536 ∧ opcode ≠ 0x0110 := by
    simp only [carriedOutHere, Bool.and_eq_true, bne_iff_ne, decide_eq_true_eq] at hop
    obtain ⟨⟨⟨⟨⟨⟨h, -⟩, -⟩, -⟩, -⟩, -⟩, -⟩ := hop
    exact h
  have hdone : packet (before w s.dev) o opcode p = E (taking d' o opcode p vlans) (taken d' o opcode p vlans) :=
    calc packet (before w s.dev) o opcode p
      _ = forwards (carryOut (taking d' o opcode p vlans) (taken d' o opcode p vlans)) (taken d' o opcode p vlans)
            (cnt (taking d' o opcode p vlans) (Reg.CMD_CNT 1)) :=
          (commits_run hc hlt.1 hlt.2 (.inl hpart)).trans (if_neg hpart)
      _ = carryOut (taking d' o opcode p vlans) (taken d' o opcode p vlans) := forwards_of_carriedOutHere _ _ hop
      _ = op (taking d' o opcode p vlans) (taken d' o opcode p vlans) := hcarry _ _ rfl
      _ = E (taking d' o opcode p vlans) (taken d' o opcode p vlans) := heq _ _ hH
  rw [hrun, run, hdone]

/-! ### The port and lane commands (R63, R90, R92, R104, R105, R492) -/

/-- PORT_CONFIG of a DISABLED port, with every value valid: the images asked for are written, and it completes with OK. -/
theorem opPortConfig_of_valid {d : Device} {c : InFlight} (habs : absorbed d (portOfUnit (tgt c)) = false)
    (hst : portSt d (portOfUnit (tgt c)) = 0) (hvalid : portConfigBad d c = none) :
    opPortConfig d c =
      let p := portOfUnit (tgt c)
      let d := if pb c 0 0 then wrImage d (Reg.PORT_CFG p) (pw c 1) else d
      let d := if pb c 0 1 then eligEval (wrImage d (Reg.PORT_HOLD p) (pw c 2)) p else d
      let d := if pb c 0 2 then wrImage (wrImage d (Reg.PORT_MAC_LO p) (pw c 3)) (Reg.PORT_MAC_HI p) (pw c 4) else d
      let d := if pb c 0 3 then wrImage (wrImage d (Reg.CORE_PVID p) (pw c 5)) (Reg.CORE_PMAP p) (pw c 6) else d
      ok (if pb c 0 4 then each (vlanList c) d (vlanBit p) else d) c := by
  simp [opPortConfig, habs, hst, hvalid]

/-- PORT_ENABLE of a DISABLED port that may start and has its power: it starts training. -/
theorem opPortEnable_of_ready {d : Device} {c : InFlight} (habs : absorbed d (portOfUnit (tgt c)) = false)
    (hst : portSt d (portOfUnit (tgt c)) = 0) (hmac : macBad d (portOfUnit (tgt c)) = false)
    (hfit : enableFits d (portOfUnit (tgt c)) = true)
    (hpower : powerReady d (portOfUnit (tgt c)) (bedLoad d (portOfUnit (tgt c) / 10) + portCapacity d (portOfUnit (tgt c))) = true) :
    opPortEnable d c = ok (portStart d (portOfUnit (tgt c))) c := by
  simp [opPortEnable, habs, hst, hmac, hfit, hpower]

/-- PORT_DISABLE of a port that is UP begins its drain, which a time of 0 ends at once. -/
theorem opPortDisable_of_up {d : Device} {c : InFlight} (habs : absorbed d (portOfUnit (tgt c)) = false)
    (hst : portSt d (portOfUnit (tgt c)) = 2) (htmo : pf c 0 6 0 ≤ 100) :
    opPortDisable d c =
      if pf c 0 6 0 = 0 then
        drainFinish (drainBegin (toWork d c [1]) (portOfUnit (tgt c)) (pf c 0 6 0)) (portOfUnit (tgt c))
      else drainBegin (toWork d c [1]) (portOfUnit (tgt c)) (pf c 0 6 0) := by
  simp [opPortDisable, habs, hst, Nat.not_lt.mpr htmo]

/-- LANE_LADDER of an enabled port in Ladder mode, with none in work for it and its rate limit kept: the ladder starts over. -/
theorem opLaneLadder_of_free {d : Device} {c : InFlight} (habs : absorbed d (portOfUnit (tgt c)) = false)
    (hst : portSt d (portOfUnit (tgt c)) ≠ 0) (hmode : bringup d (portOfUnit (tgt c)) = 0)
    (hfree : (working d 0x0204).any (fun x => portOfUnit (tgt x) == portOfUnit (tgt c)) = false) (hmax : pb c 0 0 = false) :
    opLaneLadder d c = ladderAbandon (toWork d c []) (portOfUnit (tgt c)) false true := by
  simp only [opLaneLadder, habs, hmode, hfree, hmax, beq_false_of_ne hst, bne_self_eq_false, Bool.or_self, Bool.false_and,
    Bool.false_eq_true, if_false]

/-- PORT_REGANG of a valid layout, with no regang and no drain in work, begins. -/
theorem opPortRegang_of_free {d : Device} {c : InFlight} (hlayout : pf c 0 6 4 ≤ 4) (htmo : pf c 0 14 8 ≤ 100)
    (hregangs : working d 0x0205 = []) (hdrains : working d 0x0202 = []) : opPortRegang d c = regangGo (toWork d c []) c := by
  simp [opPortRegang, hregangs, hdrains, Nat.not_lt.mpr hlayout, Nat.not_lt.mpr htmo]

/-- Settles O3, command by command: the header checks send it to its own rule, and the conditions name the case of that rule. -/
theorem portCommandsDoTheirWork : Obligations.PortCommandsDoTheirWork := by
  refine ⟨?portConfig, ?portEnable, ?portDisable, ?portDisableAtOnce, ?portStatus, ?laneLadder, ?portRegang⟩
  case portConfig =>
    refine commandEffect_of_op (op := opPortConfig) exec_portConfig (by decide) (fun _ _ hx => by simp only [carryOut, hx]) ?_
    rintro d c ⟨habs, hst, hvalid⟩
    exact opPortConfig_of_valid habs hst hvalid
  case portEnable =>
    refine commandEffect_of_op (op := opPortEnable) exec_portEnable (by decide) (fun _ _ hx => by simp only [carryOut, hx]) ?_
    rintro d c ⟨habs, hst, hmac, hfit, hpower⟩
    exact opPortEnable_of_ready habs hst hmac hfit hpower
  case portDisable =>
    refine commandEffect_of_op (op := opPortDisable) exec_portDisable (by decide) (fun _ _ hx => by simp only [carryOut, hx]) ?_
    rintro d c ⟨habs, hst, hpos, htmo⟩
    rw [opPortDisable_of_up habs hst htmo, if_neg (Nat.one_le_iff_ne_zero.mp hpos)]
  case portDisableAtOnce =>
    refine commandEffect_of_op (op := opPortDisable) exec_portDisable (by decide) (fun _ _ hx => by simp only [carryOut, hx]) ?_
    rintro d c ⟨habs, hst, hzero⟩
    rw [opPortDisable_of_up habs hst (by omega), if_pos hzero, hzero]
  case portStatus =>
    exact commandEffect_of_op exec_portStatus (by decide) (fun _ _ hx => by simp only [carryOut, hx]) (fun _ _ _ => rfl)
  case laneLadder =>
    refine commandEffect_of_op (op := opLaneLadder) exec_laneLadder (by decide) (fun _ _ hx => by simp only [carryOut, hx]) ?_
    rintro d c ⟨habs, hst, hmode, hfree, hmax⟩
    exact opLaneLadder_of_free habs hst hmode hfree hmax
  case portRegang =>
    refine commandEffect_of_op (op := opPortRegang) exec_portRegang (by decide) (fun _ _ hx => by simp only [carryOut, hx]) ?_
    rintro d c ⟨hlayout, htmo, hregangs, hdrains⟩
    exact opPortRegang_of_free hlayout htmo hregangs hdrains

end Sys2Proof.Machine
end

section
/-! The repeats and time-outs of the ladder states: what each does once its time has come (R62). -/

namespace Sys2Proof.Machine

open Sys2Proof

/-- The message that a state sends goes out again once its gap has passed. -/
theorem ladderRepeat_of_due {d : Device} {n k : Nat} {m : LadderMsg} (hruns : ladderRuns d n = true)
    (hsent : (ladderOf d n).sent = some (k, m))
    (hdue : (ladderOf d n).lastSent + (if ladderSt d n = 9 then secTicks else msTicks) ≤ d.dev) :
    ladderRepeat d n = emit (modLadder d n (fun y => { y with lastSent := d.dev })) (.ladder n k m) := by
  simp [ladderRepeat, hruns, hsent, hdue]

/-- An OFFERING that no partner has answered in its time becomes NO_PEER, with an OFFER of its own, and the port is judged. -/
theorem offerOver_of_due {d : Device} {n : Nat} (hruns : ladderRuns d n = true) (hst : ladderSt d n = 2)
    (hpeer : (ladderOf d n).peer.isNone = true) (hdue : (ladderOf d n).t0 + offerTmo d n ≤ d.dev) :
    offerOver d n =
      let q := ((ladderOf d n).seq + 1) % 1024
      let d := event (setLadderSt d n 9) (Reg.LANE_EVENT n) 7
      linkEval (modLadder d n (fun y =>
        { y with seq := q, sent := some (1, ladderMsg d n 0 (rateMax d n) 0 [] q), lastSent := d.dev })) n := by
  simp only [offerOver, hruns, hst, hpeer, hdue, beq_self_eq_true, decide_true, Bool.and_self, if_true]

/-- A switch that adapts for too long reverts. -/
theorem adaptOver_of_adapting {d : Device} {n : Nat} (hruns : ladderRuns d n = true)
    (hdue : (ladderOf d n).t0 + adaptTmo d n ≤ d.dev) (hst : ladderSt d n = 4) : adaptOver d n = ladderRevert d n 1 := by
  simp [adaptOver, hruns, hdue, hst]

/-- A revert that adapts for too long abandons, with the rung and reason 5 recorded. -/
theorem adaptOver_of_reverting {d : Device} {n : Nat} (hruns : ladderRuns d n = true)
    (hdue : (ladderOf d n).t0 + adaptTmo d n ≤ d.dev) (hst : ladderSt d n = 6) :
    adaptOver d n = ladderAbandon (ladderFailed d n (ladderOf d n).rung 5) n false false := by
  simp [adaptOver, hruns, hdue, hst]

/-- REPORTING after a switch that brings no REPORT in its time reverts. -/
theorem reportOver_of_reporting {d : Device} {n : Nat} (hruns : ladderRuns d n = true)
    (hdue : (ladderOf d n).t0 + adaptTmo d n + reportTmo d n ≤ d.dev) (hst : ladderSt d n = 5)
    (hrev : (ladderOf d n).reverted = false) : reportOver d n = ladderRevert d n 2 := by
  simp [reportOver, hruns, hdue, hst, hrev]

/-- FINALISING that brings no FINAL_ACK in its time abandons, with the rung and reason 6 recorded. -/
theorem reportOver_of_finalising {d : Device} {n : Nat} (hruns : ladderRuns d n = true)
    (hdue : (ladderOf d n).t0 + reportTmo d n ≤ d.dev) (hst : ladderSt d n = 7) :
    reportOver d n = ladderAbandon (ladderFailed d n (ladderOf d n).rung 6) n false false := by
  simp [reportOver, hruns, hdue, hst]

/-- The rate switches when the delay after STEP_ACK is over. -/
theorem switchOver_of_due {d : Device} {n t : Nat} (hruns : ladderRuns d n = true) (hst : ladderSt d n = 3)
    (hat : (ladderOf d n).switchAt = some t) (hdue : t ≤ d.dev) : switchOver d n = ladderSwitch d n := by
  simp [switchOver, hruns, hst, hat, hdue]

/-- Settles O13, timer by timer: the row runs its meaning, and the conditions name the state whose time has come. -/
theorem ladderTimersMoveTheLadder : Obligations.LadderTimersMoveTheLadder := by
  intro n
  refine ⟨fun k m => ?resend, ?offer, ?adaptAfterSwitch, ?adaptAfterRevert, ?reporting, ?finalising, fun t => ?switch⟩
  case resend =>
    refine effect_of_run (fun w s => exec_ladderRepeat w n s) ?_
    rintro d ⟨hruns, hsent, hdue⟩
    exact ladderRepeat_of_due hruns hsent hdue
  case offer =>
    refine effect_of_run (fun w s => exec_offerTmo w n s) ?_
    rintro d ⟨hruns, hst, hpeer, hdue⟩
    exact offerOver_of_due hruns hst hpeer hdue
  case adaptAfterSwitch =>
    refine effect_of_run (fun w s => exec_adaptTmo w n s) ?_
    rintro d ⟨hruns, hdue, hst⟩
    exact adaptOver_of_adapting hruns hdue hst
  case adaptAfterRevert =>
    refine effect_of_run (fun w s => exec_adaptTmo w n s) ?_
    rintro d ⟨hruns, hdue, hst⟩
    exact adaptOver_of_reverting hruns hdue hst
  case reporting =>
    refine effect_of_run (fun w s => exec_adaptReportTmo w n s) ?_
    rintro d ⟨hruns, hdue, hst, hrev⟩
    exact reportOver_of_reporting hruns hdue hst hrev
  case finalising =>
    refine effect_of_run (fun w s => exec_adaptReportTmo w n s) ?_
    rintro d ⟨hruns, hdue, hst⟩
    exact reportOver_of_finalising hruns hdue hst
  case switch =>
    refine effect_of_run (fun w s => exec_ladderSwitchDelay w n s) ?_
    rintro d ⟨hruns, hst, hat, hdue⟩
    exact switchOver_of_due hruns hst hat hdue

end Sys2Proof.Machine
end

section
/-! The receiver, power and test rows of a lane: what each does in the case that its own-effect statement names. -/

namespace Sys2Proof.Machine

open Sys2Proof

/-! ### Windows, CDR lock and adaptation (R49, R65 to R68, R73, R79) -/

/-- Histograms whose levels all have samples leave no figure free. -/
theorem no_empty_level {hist : List (List Nat)} (h : hist.all (fun l => levelCount l != 0) = true) :
    hist.any (fun l => levelCount l == 0) = false := by
  simpa using h

/-- A window of a locked receiver that is ON, with samples at every level, gives the figures and the count of windows, and
qualifies the lane. -/
theorem windowEnd_of_locked {d : Device} {n : Nat} {hist : List (List Nat)} (hrun : running d = true)
    (hseen : flag d (Reg.LANE_STATUS n) 3 = true) (hlock : flag d (Reg.LANE_STATUS n) 4 = true)
    (hon : flag d (Reg.LANE_STATUS n) 10 = false) (hfull : hist.all (fun l => levelCount l != 0) = true) :
    windowEnd d n hist =
      let e := eyes d (flag d (Reg.LANE_STATUS n) 2) hist
      let fr := rd d (Reg.LANE_FOM n)
      laneChanged (windowFlags
        (wr (wr d (Reg.LANE_EYE n) (e.1 + 2 ^ 8 * e.2.1 + 2 ^ 16 * e.2.2.1)) (Reg.LANE_FOM n)
          (e.2.2.2 + 2 ^ 8 * min (bits fr 15 8) e.2.2.2 + 2 ^ 16 * min (bits fr 31 16 + 1) 0xFFFF)) n e.2.2.2) n := by
  rw [flag] at hseen hlock hon
  simp only [windowEnd, hrun, hseen, hlock, hon, no_empty_level hfull, Bool.not_true, Bool.or_self, Bool.false_eq_true, if_false]
  rfl

/-- A locked lane loses its lock, and the shortcut of a wake with it (log 69). -/
theorem cdrLoss_of_locked {d : Device} {n : Nat} (hrun : running d = true) (hlock : flag d (Reg.LANE_STATUS n) 4 = true) :
    cdrLoss d n = laneChanged (event (laneUnlock (modLane d n (fun x => { x with wakeArmed := false, wakeWin := none })) n)
      (Reg.LANE_EVENT n) 0) n := by
  simp [cdrLoss, hrun, hlock]

/-- The coarse sweep of a locked lane ends with its best setting, and the fine phase begins. -/
theorem sweepDone_of_sweeping {d : Device} {n : Nat} (foms : List Nat) (hrun : running d = true)
    (hlock : flag d (Reg.LANE_STATUS n) 4 = true) (hcoarse : (lane d n).coarse = true) :
    sweepDone d n foms = modLane d n (fun x => { x with coarse := false, peaking := bestSetting foms }) := by
  simp [sweepDone, hrun, hlock, hcoarse]

/-- ADAPT_RESTART of a lane whose port is no selected reference starts the coarse sweep. -/
theorem adaptAgain_of_not_selected {d : Device} {n : Nat} (h : refSelected d (laneOwner d n) = false) :
    adaptAgain d n = modLane d n (fun x => { x with coarse := true }) := by
  simp [adaptAgain, h]

/-- A checker in force that is locked, or was, shows its lock and counts its errors. -/
theorem checker_of_counting {d : Device} {n : Nat} {lock : Bool} (errors : Nat) (hrun : running d = true)
    (hchk : flag d (Reg.LANE_PRBS_CTL n) 4 = true) (htraffic : flag d (Reg.LANE_CTL n) 0 = false)
    (htest : flag d (Reg.LANE_CTL n) 1 = true) (hon : fld d (Reg.LANE_STATUS n) 10 10 = 0)
    (hlock : (lock || flag d (Reg.LANE_PRBS_STAT n) 0) = true) :
    checker d n lock errors = prbsCount (setFlag d (Reg.LANE_PRBS_STAT n) 0 lock) n errors := by
  simp only [checker, hrun, hchk, htraffic, htest, hon, hlock, beq_self_eq_true, Bool.not_false, Bool.not_true, Bool.and_self,
    Bool.false_eq_true, if_false, if_true]

/-- Settles O14, row by row: the row runs its meaning, and the conditions name the case of it. -/
theorem laneReceiverRowsActOnTheirLane : Obligations.LaneReceiverRowsActOnTheirLane := by
  intro n
  refine ⟨fun hist => ?window, ?cdrLost, fun ppb => ?cdrLock, fun foms => ?sweep, fun v => ?adapt, fun v => ?fomMin,
    fun lock errors => ?chkLock⟩
  case window =>
    refine effect_of_run (fun w s => exec_laneWindowEnd w n hist s) ?_
    rintro d ⟨hrun, hseen, hlock, hon, hfull⟩
    exact windowEnd_of_locked hrun hseen hlock hon hfull
  case cdrLost =>
    refine effect_of_run (fun w s => exec_cdrLost w n s) ?_
    rintro d ⟨hrun, hlock⟩
    exact cdrLoss_of_locked hrun hlock
  case cdrLock => exact effect_of_run (fun w s => exec_cdrLock w n ppb s) (fun _ _ => rfl)
  case sweep =>
    refine effect_of_run (fun w s => exec_coarseSweepDone w n foms s) ?_
    rintro d ⟨hrun, hlock, hcoarse⟩
    exact sweepDone_of_sweeping foms hrun hlock hcoarse
  case adapt =>
    refine effect_of_run (fun w s => exec_adaptRestart w v n s) ?_
    rintro d ⟨hreach, hsel⟩
    rw [viewWrite_of_reaches _ _ hreach, adaptAgain_of_not_selected hsel]
  case fomMin => exact effect_of_run (fun w s => exec_fomMinClr w v n s) (fun d hreach => viewWrite_of_reaches _ _ hreach)
  case chkLock =>
    refine effect_of_run (fun w s => exec_chkLock w n lock errors s) ?_
    rintro d ⟨hrun, hchk, htraffic, htest, hon, hlock⟩
    exact checker_of_counting errors hrun hchk htraffic htest hon hlock

/-! ### Power states and test registers (R69 to R75, R77, R84, R85) -/

/-- A valid request of LANEn_PWR is stored, and entries and wakes follow it. -/
theorem pwrWrite_of_valid {d : Device} {n x : Nat} (h : bits x 2 1 ≠ 3) :
    pwrWrite d n x = lanePower (setFld d (Reg.LANE_PWR n) 3 0 (bits x 3 0)) n := by
  simp [pwrWrite, h]

/-- The transmitter is in the state its entry was for; a request to ON that came meanwhile starts its wake. -/
theorem entryDone_tx {d : Device} {n t : Nat} (hrun : running d = true) (hentry : (lane d n).txEntry = some t) :
    entryDone d n .tx = modLane (setFld d (Reg.LANE_STATUS n) 9 8 t) n (fun x =>
      { x with txEntry := none, txOnAfter := false, txWake := if x.txOnAfter then some d.dev else none }) := by
  simp [entryDone, hrun, hentry]

/-- The transmitter has woken, to the state asked for. -/
theorem laneWoken_tx {d : Device} {n : Nat} (hrun : running d = true) (hwake : (lane d n).txWake.isSome = true) :
    laneWoken d n .tx =
      modLane (setFld d (Reg.LANE_STATUS n) 9 8 (powerWanted d n).1) n (fun x => { x with txWake := none }) := by
  simp [laneWoken, hrun, hwake]

/-- The receiver has woken, and adapts from its retained state. -/
theorem laneWoken_rx {d : Device} {n : Nat} (hrun : running d = true) (hwake : (lane d n).rxWake.isSome = true) :
    laneWoken d n .rx =
      modLane (setFld d (Reg.LANE_STATUS n) 10 10 0) n (fun x => { x with rxWake := none, coarse := false }) := by
  simp [laneWoken, hrun, hwake]

/-- Taps whose magnitudes sum to at most 63 are stored. -/
theorem txeqWrite_of_valid {d : Device} {n k x : Nat} (h : bits x 5 0 + bits x 13 8 + bits x 21 16 + bits x 29 24 ≤ 63) :
    txeqWrite d n k x = wr d (Reg.LANE_TXEQ n k) (Nat.land x 0x3F3F3F3F) := by
  simp only [txeqWrite, Nat.not_lt.mpr h, if_false]

/-- Patterns that fit the modulation are stored; with the checker enabled its lock stays. -/
theorem prbsWrite_of_checking {d : Device} {n x : Nat} (hgen : patternFits (fld d (Reg.LANE_STATUS n) 1 0) (bits x 3 1) = true)
    (hchk : patternFits (fld d (Reg.LANE_STATUS n) 1 0) (bits x 7 5) = true) (hon : bit x 4 = true) :
    prbsWrite d n x = wr d (Reg.LANE_PRBS_CTL n) (bits x 7 0) := by
  simp [prbsWrite, hgen, hchk, hon]

/-- Settles O15, row by row: the row runs its meaning, by its view where it is a write, and the conditions name the case of it. -/
theorem lanePowerAndTestRowsActOnTheirLane : Obligations.LanePowerAndTestRowsActOnTheirLane := by
  intro n v x
  refine ⟨?pwr, fun t => ?entryTx, fun t => ?entryRx, ?wakeTx, ?wakeRx, fun k => ?txeq, ?prbs⟩
  case pwr =>
    refine effect_of_run (fun w s => exec_lanePwrWrite w v n x s) ?_
    rintro d ⟨hreach, hvalid⟩
    rw [viewWrite_of_reaches _ _ hreach, pwrWrite_of_valid hvalid]
  case entryTx =>
    refine effect_of_run (fun w s => exec_lanePowerEntryDone w n .tx s) ?_
    rintro d ⟨hrun, hentry⟩
    exact entryDone_tx hrun hentry
  case entryRx => exact effect_of_run (fun w s => exec_lanePowerEntryDone w n .rx s) (fun _ _ => rfl)
  case wakeTx =>
    refine effect_of_run (fun w s => exec_laneWakeDone w n .tx s) ?_
    rintro d ⟨hrun, hwake⟩
    exact laneWoken_tx hrun hwake
  case wakeRx =>
    refine effect_of_run (fun w s => exec_laneWakeDone w n .rx s) ?_
    rintro d ⟨hrun, hwake⟩
    exact laneWoken_rx hrun hwake
  case txeq =>
    refine effect_of_run (fun w s => exec_laneTxeqWrite w v n k x s) ?_
    rintro d ⟨hreach, hsum⟩
    rw [viewWrite_of_reaches _ _ hreach, txeqWrite_of_valid hsum]
  case prbs =>
    refine effect_of_run (fun w s => exec_prbsCtlWrite w v n x s) ?_
    rintro d ⟨hreach, hgen, hchk, hon⟩
    rw [viewWrite_of_reaches _ _ hreach, prbsWrite_of_checking hgen hchk hon]

end Sys2Proof.Machine
end

section
/-! The time bases over the ticks of a step: what one base's pass changes, and the course of all eight on both sides (R127, R204, R209,
R563). -/

namespace Sys2Proof.Machine

open Sys2Proof

/-! ### What the time bases read -/

/-- Two devices that give every time base the same course: the same active side, and the same bits of the blocks that enable the
bases and set their increments. -/
structure SameCourse (d e : Device) : Prop where
  red : e.red = d.red
  ctl : rd e Reg.TB_CTL = rd d Reg.TB_CTL
  incr : ∀ n, n < 8 → rd e (Reg.TB_INCR_LO n) = rd d (Reg.TB_INCR_LO n) ∧ rd e (Reg.TB_INCR_HI n) = rd d (Reg.TB_INCR_HI n)

/-- Such devices have the same active side. -/
theorem SameCourse.activeSide {d e : Device} (h : SameCourse d e) : activeSide e = activeSide d := by
  simp only [Machine.activeSide, h.red]

/-- They enable the same time bases. -/
theorem SameCourse.tbEn {d e : Device} (h : SameCourse d e) (n : Nat) : tbEn e n = tbEn d n := by
  simp only [Machine.tbEn, flag, h.ctl]

/-- They give a time base the same increment. -/
theorem SameCourse.tbIncr {d e : Device} (h : SameCourse d e) {n : Nat} (hn : n < 8) : tbIncr e n = tbIncr d n := by
  obtain ⟨hlo, hhi⟩ := h.incr n hn
  simp only [Machine.tbIncr, fld, hlo, hhi]

/-- A time base is read from the record of the time bases alone. -/
theorem tbOf_congr {d e : Device} (h : e.tb = d.tb) (x n : Nat) : tbOf e x n = tbOf d x n := by
  simp only [tbOf, h]

/-! ### One time base over w ticks -/

/-- The pass of a time base puts one advanced copy on both sides, and touches no other time base. -/
theorem tbPass_tb (w : Nat) (d : Device) (n : Nat) : ∃ t : TimeBase,
    t.val = (tbAdvance (tbEn d n) (tbIncr d n) w (tbOf d (activeSide d) n)).val ∧
    (tbPass w d n).tb = (modTb (modTb d 0 n (fun _ => t)) 1 n (fun _ => t)).tb := by
  unfold tbPass
  extract_lets t c en t' d1 step t'' by_ d2 d3 d4
  refine ⟨t'', ?_, ?_⟩
  · simp only [t'']; split <;> rfl
  · have h3 : d3.tb = d2.tb := by simp only [d3]; split <;> rfl
    split
    · exact h3
    · split <;> exact h3

/-- The pass of a time base leaves the claims, and every register but its count of changes, the blocks' events and their status. -/
theorem tbPass_frame (w : Nat) (d : Device) (n : Nat) : (tbPass w d n).red = d.red ∧
    ∀ a, a ≠ Reg.TB_CHG n → a ≠ Reg.TB_EVENT → a ≠ Reg.TB_STATUS → rd (tbPass w d n) a = rd d a := by
  unfold tbPass
  extract_lets t c en t' d1 step t'' by_ d2 d3 d4
  have h3 : d3.red = d.red ∧ ∀ a, rd d3 a = rd d a := by
    simp only [d3]; split <;> exact ⟨rfl, fun _ => rfl⟩
  obtain ⟨hred, hrd⟩ := h3
  have h4 (a : Nat) (ha : a ≠ Reg.TB_CHG n) : rd d4 a = rd d a := (rd_wr_other d3 _ ha).trans (hrd a)
  split
  · exact ⟨hred, fun a _ _ _ => hrd a⟩
  · split
    · exact ⟨hred, fun a hchg hev hst => by rw [rd_setFlag_other _ _ _ hst, rd_event_other _ _ hev, h4 a hchg]⟩
    · exact ⟨hred, fun a hchg _ _ => h4 a hchg⟩

/-- The pass of a time base changes the course of none. -/
theorem sameCourse_tbPass (w : Nat) (d : Device) (n : Nat) : SameCourse d (tbPass w d n) := by
  obtain ⟨hred, hrd⟩ := tbPass_frame w d n
  refine ⟨hred, hrd _ ?_ ?_ ?_, fun m _ => ⟨hrd _ ?_ ?_ ?_, hrd _ ?_ ?_ ?_⟩⟩ <;>
    simp only [Reg.TB_CTL, Reg.TB_CHG, Reg.TB_EVENT, Reg.TB_STATUS, Reg.TB_INCR_LO, Reg.TB_INCR_HI] <;> omega

/-- On both sides a time base passes w ticks as the active side's copy does. -/
theorem tbPass_val (w : Nat) (d : Device) {n x : Nat} (hx : x < 2) :
    (tbOf (tbPass w d n) x n).val = (tbAdvance (tbEn d n) (tbIncr d n) w (tbOf d (activeSide d) n)).val := by
  obtain ⟨t, hval, htb⟩ := tbPass_tb w d n
  rw [tbOf_congr htb, ← hval]
  obtain rfl | rfl : x = 0 ∨ x = 1 := by omega
  · rw [tbOf_modTb_other _ _ (by omega), tbOf_modTb_self]
  · rw [tbOf_modTb_self]

/-- The other time bases stand while one passes its ticks. -/
theorem tbPass_other (w : Nat) (d : Device) {n m x : Nat} (hn : n < 8) (hm : m < 8) (hx : x < 2) (hne : m ≠ n) :
    tbOf (tbPass w d n) x m = tbOf d x m := by
  obtain ⟨t, -, htb⟩ := tbPass_tb w d n
  rw [tbOf_congr htb, tbOf_modTb_other _ _ (by omega), tbOf_modTb_other _ _ (by omega)]

/-! ### All of them -/

/-- A time base outside a list stands while those of the list pass their ticks. -/
theorem each_tbPass_other (w : Nat) {l : List Nat} (d : Device) {n x : Nat} (hl : ∀ m ∈ l, m < 8) (hn : n < 8) (hx : x < 2)
    (hmem : n ∉ l) : tbOf (each l d (tbPass w)) x n = tbOf d x n := by
  induction l generalizing d with
  | nil => rfl
  | cons m l ih =>
    rw [List.forall_mem_cons] at hl
    rw [List.mem_cons, not_or] at hmem
    exact (ih (tbPass w d m) hl.2 hmem.2).trans (tbPass_other w d hl.1 hn hx hmem.1)

/-- Each time base of a list passes its ticks once, on both sides alike, as its active copy goes from where it stood at first. -/
theorem each_tbPass_val (w : Nat) {l : List Nat} (d : Device) {n x : Nat} (hl : ∀ m ∈ l, m < 8) (hd : l.Nodup) (hx : x < 2)
    (hmem : n ∈ l) : (tbOf (each l d (tbPass w)) x n).val =
      (tbAdvance (tbEn d n) (tbIncr d n) w (tbOf d (activeSide d) n)).val := by
  induction l generalizing d with
  | nil => exact absurd hmem List.not_mem_nil
  | cons m l ih =>
    rw [List.nodup_cons] at hd
    have hn : n < 8 := hl n hmem
    rw [List.forall_mem_cons] at hl
    by_cases hnm : n = m
    · subst hnm
      exact (congrArg TimeBase.val (each_tbPass_other w (tbPass w d n) hl.2 hn hx hd.1)).trans (tbPass_val w d hx)
    · have hc := sameCourse_tbPass w d m
      have hside : activeSide d < 2 := by unfold activeSide; cases d.red.activeB <;> decide
      rw [← tbPass_other w d hl.1 hn hside hnm, ← hc.tbEn, ← hc.tbIncr hn, ← hc.activeSide]
      exact ih (tbPass w d m) hl.2 hd.2 ((List.mem_cons.mp hmem).resolve_left hnm)

/-! ### The ticks of a step -/

/-- What changes the engines and their counters alone leaves the time bases, the tick count and the clocks. -/
theorem sameEng_time {d e : Device} (h : SameButEngines d e) : e.tb = d.tb ∧ e.tick = d.tick ∧ e.clk = d.clk := by
  obtain ⟨-, hrest⟩ := h
  exact ⟨(congrArg Device.tb hrest :), (congrArg Device.tick hrest :), (congrArg Device.clk hrest :)⟩

/-- It changes the course of no time base. -/
theorem sameCourse_of_sameEng {d e : Device} (h : SameButEngines d e) : SameCourse d e := by
  obtain ⟨hrd, hrest⟩ := h
  refine ⟨(congrArg Device.red hrest :), hrd _ (by decide), fun n hn => ⟨hrd _ ?_, hrd _ ?_⟩⟩
  · simp only [Reg.TB_INCR_LO]; omega
  · simp only [Reg.TB_INCR_HI]; omega

/-- The keeper moves its own counter alone. -/
theorem keeperRun_eq (d : Device) (w : Nat) :
    ∃ k a, keeperRun d w = { d with tb := { d.tb with keeper := k, keeperAcc := a } } := by
  unfold keeperRun
  split
  · exact ⟨_, _, rfl⟩
  · exact ⟨_, _, rfl⟩

/-- What w ticks do in every device: the keeper and the wall clock. -/
def wallWait (w : Nat) (d : Device) : Device := { keeperRun d w with now := d.now + w }

/-- What w ticks do while the clocks run, the tick domain aside: the counters and the running time, too. -/
def coreWait (w : Nat) (d : Device) : Device := { codePass (wallWait w d) w with dev := (codePass (wallWait w d) w).dev + w }

/-- Neither the keeper nor the wall clock touches the time bases, the tick count, the clocks or the course of a base. -/
theorem wallWait_frame (w : Nat) (d : Device) : (wallWait w d).tb.tbs = d.tb.tbs ∧ (wallWait w d).tick = d.tick ∧
    (wallWait w d).clk = d.clk ∧ running (wallWait w d) = running d ∧ SameCourse d (wallWait w d) := by
  obtain ⟨k, a, hk⟩ := keeperRun_eq d w
  rw [wallWait, hk]
  exact ⟨rfl, rfl, rfl, rfl, rfl, rfl, fun _ _ => ⟨rfl, rfl⟩⟩

/-- Nor do the counters and the running time. -/
theorem coreWait_frame (w : Nat) (d : Device) : (coreWait w d).tb.tbs = d.tb.tbs ∧ (coreWait w d).tick = d.tick ∧
    (coreWait w d).clk = d.clk ∧ SameCourse d (coreWait w d) := by
  obtain ⟨htbs, htick, hclk, -, hred, hctl, hincr⟩ := wallWait_frame w d
  have hs := sameEng_codePass (wallWait w d) w
  obtain ⟨ctb, ctick, cclk⟩ := sameEng_time hs
  have hc := sameCourse_of_sameEng hs
  exact ⟨(congrArg TimeBases.tbs ctb).trans htbs, ctick.trans htick, cclk.trans hclk, hc.red.trans hred, hc.ctl.trans hctl,
    fun n hn => ⟨(hc.incr n hn).1.trans (hincr n hn).1, (hc.incr n hn).2.trans (hincr n hn).2⟩⟩

/-- Ticks pass by domain: the wall clock's and the keeper's, the core's while the clocks run, and the time bases', the tick count's
and ψ's while the tick runs, too. -/
theorem wait_eq {w : Nat} (d : Device) (hw : 0 < w) : wait w d =
    if running (wallWait w d) then
      if (coreWait w d).clk.tickStop.isNone then
        psiPass { each (upTo 8) (coreWait w d) (tbPass w) with tick := (coreWait w d).tick + w } w
      else coreWait w d
    else wallWait w d := by
  rw [wait, if_neg hw.ne']
  rfl

/-- While the tick is delivered, ticks take the time bases along one after the other, and count. -/
theorem wait_of_ticking {w : Nat} {d : Device} (hw : 0 < w) (h : ticking d = true) :
    (wait w d).tb = (each (upTo 8) (coreWait w d) (tbPass w)).tb ∧ (wait w d).tick = d.tick + w := by
  obtain ⟨-, -, -, hrun, -⟩ := wallWait_frame w d
  obtain ⟨-, htick, hclk, -⟩ := coreWait_frame w d
  simp only [ticking, Bool.and_eq_true] at h
  rw [wait_eq d hw, hrun, if_pos h.1, hclk, if_pos h.2, htick]
  generalize each (upTo 8) (coreWait w d) (tbPass w) = e
  exact ⟨rfl, rfl⟩

/-- While the tick is not delivered, ticks leave the time bases and the tick count. -/
theorem wait_of_not_ticking (w : Nat) {d : Device} (h : ticking d = false) :
    (wait w d).tb.tbs = d.tb.tbs ∧ (wait w d).tick = d.tick := by
  obtain rfl | hw := Nat.eq_zero_or_pos w
  · exact ⟨rfl, rfl⟩
  obtain ⟨wtbs, wtick, -, hrun, -⟩ := wallWait_frame w d
  obtain ⟨ctbs, ctick, hclk, -⟩ := coreWait_frame w d
  rw [wait_eq d hw, hrun, hclk]
  split
  next hr =>
    have hstop : ¬ d.clk.tickStop.isNone = true := by 
      rw [ticking, hr, Bool.true_and] at h
      exact Bool.eq_false_iff.mp h
    rw [if_neg hstop]
    exact ⟨ctbs, ctick⟩
  next => exact ⟨wtbs, wtick⟩

/-- Settles O45: each time base passes its ticks once, from where the core's ticks left it, and its one copy goes to both sides. -/
theorem bothSidesAdvanceAlike : Obligations.BothSidesAdvanceAlike := by
  refine ⟨fun w d n x hw ht hn hx => ?_, fun w d ht => wait_of_not_ticking w ht⟩
  obtain ⟨htbs, -, -, hc⟩ := coreWait_frame w d
  obtain ⟨htb, htick⟩ := wait_of_ticking hw ht
  have hof : tbOf (coreWait w d) (activeSide d) n = tbOf d (activeSide d) n := by simp only [tbOf, htbs]
  refine ⟨?_, htick⟩
  rw [tbOf_congr htb, ← hc.tbEn, ← hc.tbIncr hn, ← hof, ← hc.activeSide]
  exact each_tbPass_val w (coreWait w d) (fun m hm => List.mem_range.mp hm) List.nodup_range hx (List.mem_range.mpr hn)

end Sys2Proof.Machine
end

section
/-! The forwarding commands under the conditions of their own-effect statements: for each command's rule, what it does in the case
named. -/

namespace Sys2Proof.Machine

open Sys2Proof

/-- FDB_WRITE of an entry to a port or a group that exists (R119): it takes the way that its bucket has for it. -/
theorem fdbWrite0_of_way {d : Device} {c : InFlight} {way : Nat} (hwrite : pb c 0 2 = false) (hdest : pf c 3 12 0 ≤ 41)
    (hway : fdbWay d (pf c 1 11 0) (pf c 1 31 16 * 2 ^ 32 + pw c 2) (pb c 3 17) = some way) :
    fdbWrite0 d c =
      ok (setFdb d (fdbBucket (pf c 1 11 0) (pf c 1 31 16 * 2 ^ 32 + pw c 2)) way
        (some { fid := pf c 1 11 0, mac := pf c 1 31 16 * 2 ^ 32 + pw c 2, dest := pf c 3 12 0, group := pb c 3 16,
                static_ := pb c 3 17, fresh := d.dev })) c := by
  have hrange : ¬ (if pb c 3 16 then 8191 else 41) < pf c 3 12 0 := by split <;> omega
  simp only [fdbWrite0, hwrite, hrange, hway, Bool.false_eq_true, if_false]

/-- FDB_WRITE goes by its selector. -/
theorem opFdbWrite_of_sel (d : Device) (c : InFlight) :
    opFdbWrite d c = if pf c 0 1 0 = 0 then fdbWrite0 d c else if pf c 0 1 0 = 1 then fdbWrite1 d c else fdbWrite2 d c := by
  unfold opFdbWrite
  split
  next h => rw [if_pos h]
  next h => rw [if_neg (by omega), if_pos h]
  next h0 h1 => rw [if_neg h0, if_neg h1]

/-- FDB_READ of an FDB way gives the entry there, or zeros. -/
theorem opFdbRead_fdb {d : Device} {c : InFlight} (hsel : pf c 0 1 0 = 0) (hi : pw c 1 ≤ 65535) :
    opFdbRead d c = okWith d c
      (w32 (2 ^ 31 * b2n (fdbAt d (pw c 1 / 4) (pw c 1 % 4)).isSome) :: fdbWords (fdbAt d (pw c 1 / 4) (pw c 1 % 4))) := by
  simp only [opFdbRead, hsel, Nat.not_lt.mpr hi, if_false]

/-- FDB_READ of a VLAN gives its entry. -/
theorem opFdbRead_vlan {d : Device} {c : InFlight} (hsel : pf c 0 1 0 = 1) (hi : pw c 1 ≤ 4095) :
    opFdbRead d c = okWith d c
      (w32 (2 ^ 31 * b2n (tget (fun _ => ({} : Vlan)) d.fwd.vlan (pw c 1)).valid)
        :: vlanWords (pw c 1) (tget (fun _ => ({} : Vlan)) d.fwd.vlan (pw c 1))) := by
  simp only [opFdbRead, hsel, Nat.not_lt.mpr hi, if_false]

/-- FDB_READ of a classification rule gives its words. -/
theorem opFdbRead_rule {d : Device} {c : InFlight} (hsel : pf c 0 1 0 = 2) (hi : pw c 1 ≤ 4095) :
    opFdbRead d c = okWith d c
      (w32 (2 ^ 31 * b2n (!(tget (fun _ => []) d.fwd.rules (pw c 1)).isEmpty)) :: ruleWords d (pw c 1)) := by
  simp only [opFdbRead, hsel, Nat.not_lt.mpr hi, if_false]

/-- STREAM_ID_WRITE of a valid stream filter puts its words in force. -/
theorem opStreamIdWrite_filter {d : Device} {c : InFlight} (hok : streamBad c = none) (hsel : pf c 0 2 0 = 1)
    (hvalid : pb c 0 16 = true) :
    opStreamIdWrite d c = ok (modFwd (setStale d 4 (pf c 0 30 17) []) (fun f =>
      { f with filters := tset (fun _ => []) f.filters (pf c 0 30 17) (c.pkt.words.drop 1) })) c := by
  simp [opStreamIdWrite, hok, hsel, hvalid]

/-- Settles O4, command by command: the header checks send it to its own rule, and the conditions name the case of that rule. -/
theorem forwardingCommandsDoTheirWork : Obligations.ForwardingCommandsDoTheirWork := by
  refine ⟨?fdbWrite, ?vlanWrite, ?ruleWrite, ?fdbRead, ?vlanRead, ?ruleRead, ?filterWrite, ?streamIdWrite, ?mcastGroupWrite⟩
  case fdbWrite =>
    refine commandEffect_of_op (op := opFdbWrite) exec_fdbWrite (by decide) (fun _ _ hx => by simp only [carryOut, hx]) ?_
    rintro d c ⟨hsel, hwrite, hdest, hway⟩
    rw [opFdbWrite_of_sel, if_pos hsel, fdbWrite0_of_way hwrite hdest hway]
  case vlanWrite =>
    refine commandEffect_of_op (op := opFdbWrite) exec_fdbWrite (by decide) (fun _ _ hx => by simp only [carryOut, hx]) ?_
    intro d c hsel
    rw [opFdbWrite_of_sel, if_neg (by omega), if_pos hsel]
  case ruleWrite =>
    refine commandEffect_of_op (op := opFdbWrite) exec_fdbWrite (by decide) (fun _ _ hx => by simp only [carryOut, hx]) ?_
    intro d c hsel
    rw [opFdbWrite_of_sel, if_neg (by omega), if_neg (by omega)]
  case fdbRead =>
    refine commandEffect_of_op (op := opFdbRead) exec_fdbRead (by decide) (fun _ _ hx => by simp only [carryOut, hx]) ?_
    rintro d c ⟨hsel, hi⟩
    exact opFdbRead_fdb hsel hi
  case vlanRead =>
    refine commandEffect_of_op (op := opFdbRead) exec_fdbRead (by decide) (fun _ _ hx => by simp only [carryOut, hx]) ?_
    rintro d c ⟨hsel, hi⟩
    exact opFdbRead_vlan hsel hi
  case ruleRead =>
    refine commandEffect_of_op (op := opFdbRead) exec_fdbRead (by decide) (fun _ _ hx => by simp only [carryOut, hx]) ?_
    rintro d c ⟨hsel, hi⟩
    exact opFdbRead_rule hsel hi
  case filterWrite =>
    refine commandEffect_of_op (op := opStreamIdWrite) exec_streamIdWrite (by decide) (fun _ _ hx => by simp only [carryOut, hx]) ?_
    rintro d c ⟨hok, hsel, hvalid⟩
    exact opStreamIdWrite_filter hok hsel hvalid
  case streamIdWrite =>
    exact commandEffect_of_op exec_streamIdWrite (by decide) (fun _ _ hx => by simp only [carryOut, hx]) (fun _ _ _ => rfl)
  case mcastGroupWrite =>
    exact commandEffect_of_op (op := opMcastGroupWrite) exec_mcastGroupWrite (by decide)
      (fun _ _ hx => by simp only [carryOut, hx]) (fun _ _ _ => rfl)

end Sys2Proof.Machine
end

section
/-! The fault, redundancy, bank and image commands under the conditions of their own-effect statements: for each command's rule, what
it does in the case named. -/

namespace Sys2Proof.Machine

open Sys2Proof

/-! ### A command whose packet names another partition than the Cold Frame -/

/-- Commands other than SHAFT_CONFIG and SHAFT_MOTION are not forwarded to the partner (R575). -/
theorem forwards_of_not_shaft {c : InFlight} (d : Device) (oks : Nat) (hconfig : c.opcode ≠ 0x0800) (hmotion : c.opcode ≠ 0x0801) :
    forwards d c oks = d := by
  simp [forwards, hconfig, hmotion]

/-- An image command's own effect is that of its rule, op, where its packet names a main slot and the two agree (R468, R500). -/
theorem commandEffect_of_image {c : Nat → Origin → Pkt → Instr} {opcode : Nat} {H : Device → InFlight → Prop}
    {E op : Device → InFlight → Device} (hrun : ∀ w o p s, exec (c w o p) s = run w s (fun d => packet d o opcode p))
    (himage : isImage opcode = true) (hcarry : ∀ d x, x.opcode = opcode → carryOut d x = op d x)
    (hpart : ∀ d x, H d x → x.pkt.part ≠ 2) (heq : ∀ d x, H d x → op d x = E d x) : CommandEffect c opcode H E := by
  intro w o p s d' vlans hc hH
  have hp : p.part ≠ 2 := hpart _ _ hH
  have hop : opcode = 0x0D00 ∨ opcode = 0x0D01 := by simpa [isImage] using himage
  have hdone : packet (before w s.dev) o opcode p = E (taking d' o opcode p vlans) (taken d' o opcode p vlans) :=
    calc packet (before w s.dev) o opcode p
      _ = forwards (carryOut (taking d' o opcode p vlans) (taken d' o opcode p vlans)) (taken d' o opcode p vlans)
            (cnt (taking d' o opcode p vlans) (Reg.CMD_CNT 1)) :=
          (commits_run hc (by omega) (by omega) (.inl hp)).trans (if_neg hp)
      _ = carryOut (taking d' o opcode p vlans) (taken d' o opcode p vlans) :=
          forwards_of_not_shaft _ _ (by simp only [taken]; omega) (by simp only [taken]; omega)
      _ = op (taking d' o opcode p vlans) (taken d' o opcode p vlans) := hcarry _ _ rfl
      _ = E (taking d' o opcode p vlans) (taken d' o opcode p vlans) := heq _ _ hH
  rw [hrun, run, hdone]

/-! ### Faults (R548, R551) -/

/-- FAULT_READ with a valid selection replies the records it selects. -/
theorem opFaultRead_of_valid {d : Device} {c : InFlight} (hn : inRange (pf c 0 29 24) 1 32 = true) (hcls : pf c 0 20 16 ≠ 0)
    (hunit : (pf c 0 15 0 == 0xFFFF || unitValid (pf c 0 15 0)) = true) :
    opFaultRead d c =
      let l := (d.flt.records.filter (fun r =>
        (pf c 0 15 0 == 0xFFFF || r.unit == pf c 0 15 0) && pb c 0 (16 + r.cls) && decide (pw c 1 ≤ r.seq))).take (pf c 0 29 24)
      okWith d c (w32 l.length :: (l.map (faultWords d)).flatten) := by
  simp only [inRange, Bool.and_eq_true, decide_eq_true_eq] at hn
  obtain ⟨hlo, hhi⟩ := hn
  have hbad : (pf c 0 29 24 = 0 || 32 < pf c 0 29 24 || pf c 0 20 16 = 0
      || !(pf c 0 15 0 == 0xFFFF || unitValid (pf c 0 15 0))) = false := by
    rw [hunit]
    simp [hcls, Nat.one_le_iff_ne_zero.mp hlo, hhi]
  simp only [opFaultRead, hbad, Bool.false_eq_true, if_false]

/-- FAULT_ACK of one unit and class acknowledges their records. -/
theorem opFaultAck_of_unit {d : Device} {c : InFlight} (hone : pb c 0 24 = false) (hunit : unitValid (pf c 0 15 0) = true)
    (hcls : pf c 0 18 16 ≤ 4) :
    opFaultAck d c = ok (fltSettle (modFlt d (fun s =>
      { s with records := s.records.map (fun r =>
          if r.unit = pf c 0 15 0 ∧ r.cls = pf c 0 18 16 then { r with acked := true } else r) }))) c := by
  simp only [opFaultAck, hone, hunit, Nat.not_lt.mpr hcls, Bool.false_eq_true, Bool.not_true, Bool.false_or, decide_false, if_false]

/-- FAULT_INJECT_ARM of a checker's own mode arms it, where nothing is armed and factory mode is off. -/
theorem opFaultInjectArm_of_mode {d : Device} {c : InFlight} (hcf : unitInCf (pf c 0 15 0) = false) (hpos : 1 ≤ pf c 0 27 24)
    (hmode : pf c 0 27 24 ≠ 15)
    (hmost : (largestMode (pf c 0 15 0) (pf c 0 23 16)).any (fun m => decide (pf c 0 27 24 ≤ m)) = true)
    (harmed : flag d Reg.FLT_STATUS 5 = false) (hfactory : flag d Reg.FLT_STATUS 6 = false) :
    opFaultInjectArm d c =
      selfcheckInjected (ok (setFlag (wr d Reg.FLT_INJ_STATUS
        (pf c 0 15 0 + 2 ^ 16 * pf c 0 23 16 + 2 ^ 24 * pf c 0 27 24 + 2 ^ 28)) Reg.FLT_STATUS 5 true) c) := by
  cases hl : largestMode (pf c 0 15 0) (pf c 0 23 16) with
  | none => simp [hl] at hmost
  | some most =>
    have hle : ¬ most < pf c 0 27 24 := Nat.not_lt.mpr (by simpa [hl] using hmost)
    simp [opFaultInjectArm, hl, hcf, hmode, hle, Nat.one_le_iff_ne_zero.mp hpos, harmed, hfactory]

/-! ### Redundancy (R572, R580) -/

/-- SIDE_PREFER while REVERTIVE is set and its priorities are valid: a RESTORE_HOLD in force stays. -/
theorem opSidePrefer_of_revertive {d : Device} {c : InFlight} (ha : pf c 0 7 0 ≤ 31) (hb : pf c 0 15 8 ≤ 31)
    (hrev : revertive d = true) :
    opSidePrefer d c = ok (wr d Reg.RED_SIDE_CFG (pf c 0 4 0 + 256 * pf c 0 12 8 + 65536 * pf c 0 16 16)) c := by
  simp [opSidePrefer, hrev, ha, hb]

/-- GRAFT_JOIN of a member that is SOLO and knows no partner begins JOINING. -/
theorem opGraftJoin_of_solo {d : Device} {c : InFlight} (hprio : pf c 0 15 8 ≤ 31) (hen : flag d Reg.CMD_CFG 0 = true)
    (hsolo : graftSt d = 0) (hmsg : d.red.partnerMsg = none) :
    opGraftJoin d c = graftEval (toWork (setGraft (wr d Reg.RED_GRAFT_CFG (pf c 0 0 0 + 256 * pf c 0 12 8)) 1) c []) := by
  simp [opGraftJoin, hprio, hen, hsolo, hmsg]

/-- GRAFT_LEAVE of the ACTIVE member without a handover: the LEAVE messages go out, and it is SOLO. -/
theorem opGraftLeave_of_active {d : Device} {c : InFlight} (hactive : graftSt d = 3) (hnow : pb c 0 0 = false) :
    opGraftLeave d c = ok (graftEval (setGraft (sendBoth d true) 0)) c := by
  simp [opGraftLeave, hactive, hnow]

/-! ### Banks and images (R156, R500, R594) -/

/-- BANK_RETIRE of an ACTIVE bank above the floor of 8: RETIRING. -/
theorem opBankRetire_of_active {d : Device} {c : InFlight} (hactive : bankSt d (bankOf c) = 0) (hfloor : 8 < activeBanks d) :
    opBankRetire d c = ok (setBankSt d (bankOf c) 1) c := by
  simp [opBankRetire, bankRetire, hactive, Nat.not_le.mpr hfloor]

/-- BANK_RESTORE of a RETIRED bank starts its test. -/
theorem opBankRestore_of_retired {d : Device} {c : InFlight} (hretired : bankSt d (bankOf c) = 2) :
    opBankRestore d c = toWork (setBankSt d (bankOf c) 3) c [] := by
  simp [opBankRestore, hretired]

/-- IMAGE_WRITE of a piece within a main slot that does not run begins. -/
theorem opImageWrite_of_idle {d : Device} {c : InFlight} (hvalid : imageBad c = none) (hidle : runningSlot d ≠ some (pf c 0 2 0)) :
    opImageWrite d c = imageBegin d c := by
  simp [opImageWrite, hvalid, hidle]

/-- IMAGE_ACTIVATE of a slot goes by the signature of what it holds. -/
theorem opImageActivate_of_slot {d : Device} {c : InFlight} (hslot : pf c 0 2 0 ≤ 3) :
    opImageActivate d c =
      if Config.signatureOk (pf c 0 2 0) (slotImage d (pf c 0 2 0)) then
        ok (bootWrite (unmarkBad d (pf c 0 2 0)) (pf c 0 2 0)) c
      else bad (markBad d (pf c 0 2 0)) c 0 := by
  simp only [opImageActivate, Nat.not_lt.mpr hslot, if_false]

/-- Settles O11, command by command: the header checks send it to its own rule, and the conditions name the case of that rule. -/
theorem safetyClaimBankAndImageCommandsDoTheirWork : Obligations.SafetyClaimBankAndImageCommandsDoTheirWork := by
  refine ⟨?faultRead, ?faultAck, ?faultInjectArm, ?claimStatus, ?sidePrefer, ?graftJoin, ?graftLeave, ?bankRetire, ?bankRestore,
    ?imageWrite, ?imageActivate⟩
  case faultRead =>
    refine commandEffect_of_op (op := opFaultRead) exec_faultRead (by decide) (fun _ _ hx => by simp only [carryOut, hx]) ?_
    rintro d c ⟨hn, hcls, hunit⟩
    exact opFaultRead_of_valid hn hcls hunit
  case faultAck =>
    refine commandEffect_of_op (op := opFaultAck) exec_faultAck (by decide) (fun _ _ hx => by simp only [carryOut, hx]) ?_
    rintro d c ⟨hone, hunit, hcls⟩
    exact opFaultAck_of_unit hone hunit hcls
  case faultInjectArm =>
    refine commandEffect_of_op (op := opFaultInjectArm) exec_faultInjectArm (by decide)
      (fun _ _ hx => by simp only [carryOut, hx]) ?_
    rintro d c ⟨hcf, hpos, hmode, hmost, harmed, hfactory⟩
    exact opFaultInjectArm_of_mode hcf hpos hmode hmost harmed hfactory
  case claimStatus =>
    exact commandEffect_of_op (op := opClaimStatus) exec_claimStatus (by decide) (fun _ _ hx => by simp only [carryOut, hx])
      (fun _ _ _ => rfl)
  case sidePrefer =>
    refine commandEffect_of_op (op := opSidePrefer) exec_sidePrefer (by decide) (fun _ _ hx => by simp only [carryOut, hx]) ?_
    rintro d c ⟨ha, hb, hrev⟩
    exact opSidePrefer_of_revertive ha hb hrev
  case graftJoin =>
    refine commandEffect_of_op (op := opGraftJoin) exec_graftJoin (by decide) (fun _ _ hx => by simp only [carryOut, hx]) ?_
    rintro d c ⟨hprio, hen, hsolo, hmsg⟩
    exact opGraftJoin_of_solo hprio hen hsolo hmsg
  case graftLeave =>
    refine commandEffect_of_op (op := opGraftLeave) exec_graftLeave (by decide) (fun _ _ hx => by simp only [carryOut, hx]) ?_
    rintro d c ⟨hactive, hnow⟩
    exact opGraftLeave_of_active hactive hnow
  case bankRetire =>
    refine commandEffect_of_op (op := opBankRetire) exec_bankRetire (by decide) (fun _ _ hx => by simp only [carryOut, hx]) ?_
    rintro d c ⟨hactive, hfloor⟩
    exact opBankRetire_of_active hactive hfloor
  case bankRestore =>
    refine commandEffect_of_op (op := opBankRestore) exec_bankRestore (by decide) (fun _ _ hx => by simp only [carryOut, hx]) ?_
    intro d c hretired
    exact opBankRestore_of_retired hretired
  case imageWrite =>
    refine commandEffect_of_image (op := opImageWrite) exec_imageWrite (by decide) (fun _ _ hx => by simp only [carryOut, hx])
      (fun _ _ h => h.1) ?_
    rintro d c ⟨-, hvalid, hidle⟩
    exact opImageWrite_of_idle hvalid hidle
  case imageActivate =>
    refine commandEffect_of_image (op := opImageActivate) exec_imageActivate (by decide)
      (fun _ _ hx => by simp only [carryOut, hx]) (fun _ _ h => h.1) ?_
    rintro d c ⟨-, hslot⟩
    exact opImageActivate_of_slot hslot

end Sys2Proof.Machine
end

section
/-! The rows of the switch core under the conditions of their own-effect statements: for each row's meaning, what it does in the case
named. -/

namespace Sys2Proof.Machine

open Sys2Proof

/-- The frame on a write plane is linked, and the planes take the frames that wait (R130, R131). -/
theorem planeLink_of_writing {d : Device} {pl i j : Nat} (hrun : running d = true)
    (hplane : d.core.planes.find? (fun p => p.1 == pl) = some (i, j)) :
    planeLink d pl none =
      let d := linkFrame (modCore d (fun c => { c with planes := c.planes.filter (fun p => p.1 != pl) })) j
      fillPlanes (d.core.waiting.length) d := by
  simp only [planeLink, hrun, ramErrOpt, hplane, Bool.not_true, Bool.false_eq_true, if_false]

/-- A stream that has held copies for CORE_RAKE_GAP skips the number it waits for (R138). -/
theorem gapOver_of_elapsed {d : Device} {o src tc : Nat} (htick : ticking d = true)
    (hheld : 0 < heldCopies (streamOf d o (streamKey src tc)))
    (hgap : (streamOf d o (streamKey src tc)).gapAt + fld d Reg.CORE_RAKE_GAP 16 0 ≤ d.tick) :
    gapOver d o src tc =
      let k := streamKey src tc
      skipExp (rakeLast (event (bump d (Reg.CORE_CNT 3)) Reg.CORE_EVENT 1) o k 1 (streamOf d o k).exp) o k := by
  simp only [gapOver, htick, hheld, hgap, decide_true, Bool.and_self, if_true]

/-- The head of a release list is dropped for its age (R146). -/
theorem ageExamine_of_released {d : Device} {o tc : Nat} {c : Copy} {l : List Copy} (htick : ticking d = true)
    (hhead : relOf d o tc = c :: l) (haged : aged d c = true) : ageExamine d o tc false = ageDropCopy (popRel d o tc) c := by
  simp [ageExamine, htick, hhead, haged]

/-- The head of a timed-launch list is dropped for its age (R146). -/
theorem ageExamine_of_launch {d : Device} {o tc : Nat} {c : Copy} {l : List Copy} (htick : ticking d = true)
    (hhead : (outOf d o).launch = c :: l) (htc : c.tag.tc = tc) (haged : aged d c = true) :
    ageExamine d o tc true = ageDropCopy (modOut d o (fun x => { x with launch := l })) c := by
  simp [ageExamine, htick, hhead, htc, haged]

/-- A copy whose time on the wire is over leaves it (R132). -/
theorem wireEnd_of_over {d : Device} {o : Nat} (htick : ticking d = true)
    (hover : (outOf d o).wire.any (fun x => decide (x.endAt ≤ d.tick * 80)) = true) : wireEnd d o none = endWire d o := by
  cases hw : (outOf d o).wire with
  | none => simp [hw] at hover
  | some x =>
    have hend : x.endAt ≤ d.tick * 80 := by simpa [hw] using hover
    simp [wireEnd, htick, ramErrOpt, hw, hend]

/-- Settles O19, row by row: the row runs its meaning, and the conditions name the case of it. -/
theorem switchCoreRowsMoveTheirFrames : Obligations.SwitchCoreRowsMoveTheirFrames := by
  refine ⟨fun pl i j => ?frameLink, fun o src tc => ?rakeGap, fun o => ?tendedRelease, fun o tc c l => ?ageDropReleased,
    fun o tc c l => ?ageDropLaunch, fun o => ?txComplete, fun o errs => ?selectionPoint⟩
  case frameLink =>
    refine effect_of_run (fun w s => exec_frameLink w pl none s) ?_
    rintro d ⟨hrun, hplane⟩
    exact planeLink_of_writing hrun hplane
  case rakeGap =>
    refine effect_of_run (fun w s => exec_rakeGap w o src tc s) ?_
    rintro d ⟨htick, hheld, hgap⟩
    exact gapOver_of_elapsed htick hheld hgap
  case tendedRelease => exact effect_of_run (fun w s => exec_tendedRelease w o s) (fun d htick => onlyIf_of d _ htick)
  case ageDropReleased =>
    refine effect_of_run (fun w s => exec_ageDrop w o tc false s) ?_
    rintro d ⟨htick, hhead, haged⟩
    exact ageExamine_of_released htick hhead haged
  case ageDropLaunch =>
    refine effect_of_run (fun w s => exec_ageDrop w o tc true s) ?_
    rintro d ⟨htick, hhead, htc, haged⟩
    exact ageExamine_of_launch htick hhead htc haged
  case txComplete =>
    refine effect_of_run (fun w s => exec_txComplete w o none s) ?_
    rintro d ⟨htick, hover⟩
    exact wireEnd_of_over htick hover
  case selectionPoint =>
    exact effect_of_run (fun w s => exec_selectionPoint w o errs none s) (fun d htick => onlyIf_of d _ htick)

end Sys2Proof.Machine
end

section
/-! The rows of the tables, free lists and banks of the buffer under the conditions of their own-effect statements: for each row's
meaning, what it does in the case named. -/

namespace Sys2Proof.Machine

open Sys2Proof

/-- Ageing removes a dynamic entry that has gone unrefreshed for the ageing time (R120). -/
theorem fdbAge_of_stale {d : Device} {b way : Nat} {e : FdbEntry} (hentry : fdbAt d b way = some e) (hrun : running d = true)
    (hage : fld d Reg.CORE_FDB_AGE 15 0 ≠ 0) (hdynamic : e.static_ = false)
    (hstale : e.fresh + fld d Reg.CORE_FDB_AGE 15 0 * secTicks ≤ d.dev) : fdbAge d b way = setFdb d b way none := by
  simp [fdbAge, hentry, hrun, hage, hdynamic, hstale]

/-- A sequence recovery that has accepted nothing for its RESET_TMO takes any number next, and counts the reset (R191). -/
theorem recoveryReset_of_elapsed {d : Device} {i : Nat} {a b : Word} {l : List Word}
    (hwords : tget (fun _ => []) d.fwd.recov i = a :: b :: l) (hrun : running d = true)
    (hset : (tget (fun _ => none) d.fwd.recovSt i).isSome = true)
    (hover : tget (fun _ => 0) d.fwd.recovAt i + bits b.toNat 25 16 * msTicks ≤ d.dev) :
    recoveryReset d i = modFwd d (fun f =>
      { f with
        recovSt := tset (fun _ => none) f.recovSt i none
        counts := tmod (fun _ => 0) f.counts ((9 * 65536 + i) * 8 + 2) (fun n => min (n + 1) (2 ^ 64 - 1)) }) := by
  simp only [recoveryReset, hwords, hrun, hset, hover, decide_true, Bool.and_self, if_true]

/-- A RETIRING bank without cells in use is RETIRED (R155). -/
theorem bankEmpty_of_unused {d : Device} {b : Nat} (hretiring : bankSt d b = 1) (hunused : bankUsed d b = 0) :
    bankEmpty d b = event (setBankSt d b 2) Reg.CORE_EVENT 5 := by
  simp [bankEmpty, hretiring, hunused]

/-- A test that no command waits for fails: the bank is RETIRED, and its failure shows (R155). -/
theorem bankTest_of_fail {d : Device} {b : Nat} (htesting : bankSt d b = 3) (hnone : restoreOf d b = none) :
    bankTest d b false = event (setFlag (setBankSt d b 2) (Reg.CORE_BANK_STATE b) 3 true) Reg.CORE_EVENT 7 := by
  simp [bankTest, htesting, hnone]

/-- A test that no command waits for passes: the bank is ACTIVE, with its flags, its counts and its cause cleared (R155, R157). -/
theorem bankTest_of_pass {d : Device} {b : Nat} (htesting : bankSt d b = 3) (hnone : restoreOf d b = none) :
    bankTest d b true =
      let d := setFlag (setFlag (setBankSt d b 0) (Reg.CORE_BANK_STATE b) 3 false) (Reg.CORE_BANK_STATE b) 4 false
      event (condEnds (wr (wr d (Reg.CORE_BANK_CORR b) 0) (Reg.CORE_BANK_UNCORR b) 0) 0x02 (uBank b) 0) Reg.CORE_EVENT 6 := by
  simp [bankTest, htesting, hnone]

/-- A window of corrected words ends, and the next counts from none (R157). -/
theorem bankWindow_of_elapsed {d : Device} {b : Nat} (h : tget (fun _ => 0) d.core.bankWinAt b + secTicks ≤ d.dev) :
    bankWindow d b = modCore d (fun c =>
      { c with
        bankWin := tset (fun _ => 0) c.bankWin b 0,
        bankWinAt := tset (fun _ => 0) c.bankWinAt b
          (tget (fun _ => 0) d.core.bankWinAt b + (d.dev - tget (fun _ => 0) d.core.bankWinAt b) / secTicks * secTicks) }) := by
  simp only [bankWindow, Nat.not_lt.mpr h, if_false]

/-- A reserve for tended frames that fits is taken (R187). -/
theorem poolWrite_of_fits {d : Device} {x : Nat} (hmax : bits x 14 0 ≤ 16384) (hfits : tendedFits d (bits x 14 0) = true) :
    poolWrite d x = setTended d (bits x 14 0) := by
  simp [poolWrite, hmax, hfits]

/-- Settles O20, row by row: the row runs its meaning, by its view where it is a write, and the conditions name the case of it. -/
theorem bufferAndTableRowsActOnTheirTables : Obligations.BufferAndTableRowsActOnTheirTables := by
  refine ⟨fun b way e => ?fdbAgeing, fun i a b l => ?recoveryReset, ?freeListAudit, fun b => ?bankRetired, fun b => ?testFailed,
    fun b => ?testPassed, fun b => ?rateWindow, fun v x => ?poolCfg⟩
  case fdbAgeing =>
    refine effect_of_run (fun w s => exec_fdbAgeing w b way s) ?_
    rintro d ⟨hentry, hrun, hage, hdynamic, hstale⟩
    exact fdbAge_of_stale hentry hrun hage hdynamic hstale
  case recoveryReset =>
    refine effect_of_run (fun w s => exec_recoveryResetTmo w i s) ?_
    rintro d ⟨hwords, hrun, hset, hover⟩
    exact recoveryReset_of_elapsed hwords hrun hset hover
  case freeListAudit => exact effect_of_run (fun w s => exec_freeListAudit w none s) (fun d hrun => onlyIf_of d _ hrun)
  case bankRetired =>
    refine effect_of_run (fun w s => exec_bankRetired w b s) ?_
    rintro d ⟨hrun, hretiring, hunused⟩
    rw [onlyIf_of _ _ hrun, bankEmpty_of_unused hretiring hunused]
  case testFailed =>
    refine effect_of_run (fun w s => exec_bankTestDone w b false s) ?_
    rintro d ⟨hrun, htesting, hnone⟩
    rw [onlyIf_of _ _ hrun, bankTest_of_fail htesting hnone]
  case testPassed =>
    refine effect_of_run (fun w s => exec_bankTestDone w b true s) ?_
    rintro d ⟨hrun, htesting, hnone⟩
    rw [onlyIf_of _ _ hrun, bankTest_of_pass htesting hnone]
  case rateWindow =>
    refine effect_of_run (fun w s => exec_bankRateWindow w b s) ?_
    rintro d ⟨hrun, hwindow⟩
    rw [onlyIf_of _ _ hrun, bankWindow_of_elapsed hwindow]
  case poolCfg =>
    refine effect_of_run (fun w s => exec_quegPoolCfgWrite w v x s) ?_
    rintro d ⟨hreach, hmax, hfits⟩
    rw [viewWrite_of_reaches _ _ hreach, poolWrite_of_fits hmax hfits]

end Sys2Proof.Machine
end

section
/-! The queue, gate and launch commands under the conditions of their own-effect statements: for each command's rule, what it does in
the case named. -/

namespace Sys2Proof.Machine

open Sys2Proof

/-! ### Queues (R187, R192) -/

/-- QUEUE_CONFIG of the tended pool sets a reserve that fits (R187). -/
theorem opQueueConfig_of_pool {d : Device} {c : InFlight} (htarget : queueTarget (tgt c) = none) (hsel : pf c 0 9 0 = 0)
    (hset : pb c 0 16 = true) (hmax : pf c 27 14 0 ≤ 16384) (hfits : tendedFits d (pf c 27 14 0) = true) :
    opQueueConfig d c = ok (setTended d (pf c 27 14 0)) c := by
  simp [opQueueConfig, queuePool, htarget, hsel, hset, hfits, Nat.not_lt.mpr hmax]

/-- QUEUE_CONFIG of an output, with every value valid and no timed-launch word: the images asked for are written, and it completes
with OK. -/
theorem opQueueConfig_of_output {d : Device} {c : InFlight} {o : Nat} (htarget : queueTarget (tgt c) = some o)
    (habs : (decide (o < 40) && absorbed d o) = false) (hvalid : queueBad c o = none) (htl : pb c 0 1 = false) :
    opQueueConfig d c =
      let d := if pb c 0 0 then wrImage d (Reg.QUE_SCHED o) (pw c 1) else d
      ok (each (upTo 8) d (fun d k =>
        if pb c 0 (2 + k) then
          wrImage (wrImage (wrImage d (Reg.QUE_CLS_ADM o k) (pw c (3 + 3 * k))) (Reg.QUE_CLS_QUANT o k) (pw c (4 + 3 * k)))
            (Reg.QUE_CLS_AGE o k) (pw c (5 + 3 * k))
        else d)) c := by
  simp only [opQueueConfig, htarget, habs, hvalid, htl, Bool.false_and, Bool.false_eq_true, if_false]

/-! ### Gate lists (R174, R175) -/

/-- GATE_LIST_LOAD from index 0, with every value valid and no change armed, replaces the pending list: its header's base, cycle and
count, and the entries that the command carries. -/
theorem opGateListLoad_of_first {d : Device} {c : InFlight} (habs : absorbed d (unitIdx (tgt c)) = false) (hvalid : gateBad c = none)
    (hstart : pf c 0 9 0 = 0) (hfit : pf c 0 24 16 ≤ pf c 5 10 0) (hunarmed : (outOf d (unitIdx (tgt c))).armed.isSome = false) :
    opGateListLoad d c =
      let l : PendList := ⟨pw64 c 2 * 1000000000 + pw c 1, pw c 4, pf c 5 10 0,
        (upTo (pf c 0 24 16)).foldl (fun t i =>
          tset (fun _ => none) t (0 + i) (some (pf c (gateBase c + 2 * i) 30 0, pf c (gateBase c + 2 * i + 1) 7 0))) []⟩
      ok (gateStatus (modOut d (unitIdx (tgt c)) (fun x => { x with pend := some l })) (unitIdx (tgt c))) c := by
  simp [opGateListLoad, habs, hvalid, hstart, hfit, hunarmed]

/-- GATE_LIST_SWAP with CANCEL withdraws the armed change, whatever else it asks for. -/
theorem opGateListSwap_of_cancel {d : Device} {c : InFlight} (habs : absorbed d (unitIdx (tgt c)) = false) (hcancel : pb c 0 1 = true) :
    opGateListSwap d c = ok (gateStatus (modOut d (unitIdx (tgt c)) (fun x => { x with armed := none })) (unitIdx (tgt c))) c := by
  simp [opGateListSwap, habs, hcancel]

/-- GATE_LIST_SWAP to a whole pending list, with no change armed: the change is armed for its time and the reply gives the time; a
time that has come is met at once. -/
theorem opGateListSwap_of_pending {d : Device} {c : InFlight} (habs : absorbed d (unitIdx (tgt c)) = false)
    (hcancel : pb c 0 1 = false) (hdisable : pb c 0 0 = false) (hpend : pendValid (outOf d (unitIdx (tgt c))) = true)
    (hunarmed : (outOf d (unitIdx (tgt c))).armed.isSome = false) :
    opGateListSwap d c =
      gateSwap (okWith (gateStatus (modOut d (unitIdx (tgt c)) (fun x =>
        { x with armed := some (changeTime d (unitIdx (tgt c)) false, false) })) (unitIdx (tgt c))) c
        (timeWords (changeTime d (unitIdx (tgt c)) false / 25))) (unitIdx (tgt c)) := by
  simp only [opGateListSwap, habs, hcancel, hdisable, hpend, hunarmed, Bool.not_true, Bool.and_false, Bool.false_and,
    Bool.false_eq_true, if_false]

/-! ### Timed launch (R177) -/

/-- TIMED_LAUNCH of mode 1 with a delay in range writes the four words of its launch rule. -/
theorem opTimedLaunch_of_mode1 {d : Device} {c : InFlight} (hrule : 1 ≤ pf c 0 7 0) (hmode : pf c 0 9 8 = 1)
    (hdelay : pw c 1 ≤ 1000000000) :
    opTimedLaunch d c =
      ok (wr (wr (wr (wr d (Reg.QUEG_LR_CTL (pf c 0 7 0)) (1 + 4 * pf c 0 14 12)) (Reg.QUEG_LR_DELAY (pf c 0 7 0)) (pf c 1 29 0))
        (Reg.QUEG_LR_CYCLE (pf c 0 7 0)) (pf c 2 29 0)) (Reg.QUEG_LR_OFFSET (pf c 0 7 0)) (pf c 3 29 0)) c := by
  simp [opTimedLaunch, hmode, Nat.one_le_iff_ne_zero.mp hrule, Nat.not_lt.mpr hdelay]

/-- Settles O5, command by command: the header checks send it to its own rule, and the conditions name the case of that rule. -/
theorem queueCommandsDoTheirWork : Obligations.QueueCommandsDoTheirWork := by
  refine ⟨?tendedPool, ?output, ?gateListLoad, ?gateListCancel, ?gateListSwap, ?timedLaunch⟩
  case tendedPool =>
    refine commandEffect_of_op (op := opQueueConfig) exec_queueConfig (by decide) (fun _ _ hx => by simp only [carryOut, hx]) ?_
    rintro d c ⟨htarget, hsel, hset, hmax, hfits⟩
    exact opQueueConfig_of_pool htarget hsel hset hmax hfits
  case output =>
    refine commandEffect_of_op (op := opQueueConfig) exec_queueConfig (by decide) (fun _ _ hx => by simp only [carryOut, hx]) ?_
    rintro d c ⟨o, htarget, habs, hvalid, htl⟩
    rw [opQueueConfig_of_output htarget habs hvalid htl, htarget, Option.getD_some]
  case gateListLoad =>
    refine commandEffect_of_op (op := opGateListLoad) exec_gateListLoad (by decide) (fun _ _ hx => by simp only [carryOut, hx]) ?_
    rintro d c ⟨habs, hvalid, hstart, hfit, hunarmed⟩
    exact opGateListLoad_of_first habs hvalid hstart hfit hunarmed
  case gateListCancel =>
    refine commandEffect_of_op (op := opGateListSwap) exec_gateListSwap (by decide) (fun _ _ hx => by simp only [carryOut, hx]) ?_
    rintro d c ⟨habs, hcancel⟩
    exact opGateListSwap_of_cancel habs hcancel
  case gateListSwap =>
    refine commandEffect_of_op (op := opGateListSwap) exec_gateListSwap (by decide) (fun _ _ hx => by simp only [carryOut, hx]) ?_
    rintro d c ⟨habs, hcancel, hdisable, hpend, hunarmed⟩
    exact opGateListSwap_of_pending habs hcancel hdisable hpend hunarmed
  case timedLaunch =>
    refine commandEffect_of_op (op := opTimedLaunch) exec_timedLaunch (by decide) (fun _ _ hx => by simp only [carryOut, hx]) ?_
    rintro d c ⟨hrule, hmode, hdelay⟩
    exact opTimedLaunch_of_mode1 hrule hmode hdelay

end Sys2Proof.Machine
end

section
/-! The timed-launch and gate rows of a port: each makes its update while ticks are delivered. -/

namespace Sys2Proof.Machine

open Sys2Proof

/-- A row that makes one update while ticks are delivered does just that there. -/
theorem effect_of_ticking {c : Nat → Instr} {f : Device → Device}
    (hrun : ∀ w s, exec (c w) s = run w s (fun d => onlyIf (ticking d) d f)) : Effect c (fun d => ticking d = true) f :=
  effect_of_run hrun (fun d htick => onlyIf_of d f htick)

/-- Settles O21, row by row: the row runs its update under the one condition that ticks are delivered. -/
theorem launchAndGateRowsActOnTheirPort : Obligations.LaunchAndGateRowsActOnTheirPort := by
  intro n
  refine ⟨?ready, fun errs => ?launch, ?drop, ?boundary, ?swapped⟩
  case ready => exact effect_of_ticking (f := fun d => markReady d n) (fun w s => exec_timedLaunchReady w n s)
  case launch => exact effect_of_ticking (fun w s => exec_launchTick w n errs s)
  case drop => exact effect_of_ticking (fun w s => exec_launchDrop w n s)
  case boundary => exact effect_of_ticking (fun w s => exec_gateBoundary w n s)
  case swapped => exact effect_of_ticking (fun w s => exec_gateSwapped w n s)

end Sys2Proof.Machine
end

section
/-! The course of a time base: what the first tick does, that further ticks add up to their closed form, and what the first tick is while
a set waits (R207, R209, R213, R215). -/

namespace Sys2Proof.Machine

open Sys2Proof

/-! ### Values modulo 2^64 s -/

/-- A time base's value lies below 2^64 s. -/
theorem tbWrap_lt (v : Int) : tbWrap v < 2 ^ 64 * secUnit := by
  have hlt : v % ((2 ^ 64 * secUnit : Nat) : Int) < (2 ^ 64 * secUnit : Nat) := Int.emod_lt_of_pos v (by decide)
  exact (Int.toNat_lt_of_ne_zero (by decide)).mpr hlt

/-- A value is its residue. -/
theorem tbWrap_cast (v : Int) : (tbWrap v : Int) = v % (2 ^ 64 * secUnit : Nat) :=
  Int.toNat_of_nonneg (Int.emod_nonneg v (by decide))

/-- What lies below 2^64 s already stays. -/
theorem tbWrap_of_lt {v : Nat} (h : v < 2 ^ 64 * secUnit) : tbWrap v = v := by
  have hcast : ((tbWrap v : Nat) : Int) = v := by
    rw [tbWrap_cast, Int.emod_eq_of_lt (Int.natCast_nonneg v) (Int.ofNat_lt.mpr h)]
  exact Int.ofNat_inj.mp hcast

/-- Adding to a value that has wrapped is adding to what it was. -/
theorem tbWrap_add_tbWrap (v u : Int) : tbWrap (tbWrap v + u) = tbWrap (v + u) := by
  rw [tbWrap, tbWrap_cast, Int.emod_add_emod, ← tbWrap]

/-! ### What a slew adds (R215) -/

/-- In no tick a slew adds nothing. -/
@[simp] theorem slewSum_zero (rm : Int) (lim : Nat) : slewSum rm lim 0 = 0 := by
  simp [slewSum]

/-- What a slew adds in k + 1 ticks is what it adds in one and then, of what is left, in k. -/
theorem slewSum_succ (rm : Int) (lim k : Nat) :
    slewSum rm lim 1 + slewSum (rm - slewSum rm lim 1) lim k = slewSum rm lim (k + 1) := by
  simp only [slewSum, Nat.add_mul, Nat.one_mul]
  generalize k * lim = m
  split_ifs <;> omega

/-- One tick's adjustment has the sign of the remainder and takes the lesser of the limit and the remainder. -/
theorem slewSum_one (rm : Int) (lim : Nat) : slewSum rm lim 1 = Int.sign rm * min (lim : Int) rm.natAbs := by
  rw [slewSum, Nat.one_mul]
  rcases lt_trichotomy rm 0 with h | rfl | h
  · simp [h, Int.sign_eq_neg_one_of_neg h]
  · simp
  · simp [Int.not_lt.mpr h.le, Int.sign_eq_one_of_pos h]

/-- One tick's adjustment is at most the limit, either way. -/
theorem slewSum_one_bounds (rm : Int) (lim : Nat) : -(lim : Int) ≤ slewSum rm lim 1 ∧ slewSum rm lim 1 ≤ lim := by
  simp only [slewSum, Nat.one_mul]
  split_ifs <;> omega

/-- The limit of a slew at a rate of at most 500,000 ppb is at most the increment. -/
theorem slewLim_le {incr rate : Nat} (h : rate ≤ 500000) : slewLim incr rate ≤ incr := by
  have hmul : incr * rate ≤ incr * 500000 := Nat.mul_le_mul_left incr h
  unfold slewLim
  omega

/-! ### Single ticks and many (R209, R215) -/

/-- A time base with no change waiting for its next tick. -/
structure TbSettled (t : TimeBase) : Prop where
  noSet : t.setPend = none
  noStep : t.stepPend = 0
  noDue : t.stepDue = 0
  noSlew : t.slewPend = none
  lt : t.val < 2 ^ 64 * secUnit

/-- The first tick takes every change that waits. -/
theorem tbSettled_tbFirst (en : Bool) (incr : Nat) (t : TimeBase) : TbSettled (tbFirst en incr t) :=
  ⟨rfl, rfl, rfl, rfl, tbWrap_lt _⟩

/-- Without a slew, ticks add their increments. -/
theorem tbRun_of_no_slew {t : TimeBase} (incr k : Nat) (h : t.slew = none) :
    tbRun true incr k t = { t with val := tbWrap (t.val + k * incr : Nat) } := by
  simp [tbRun, h]

/-- With a slew, ticks add what it adds, too, and take that from its remainder. -/
theorem tbRun_of_slew {t : TimeBase} {rm : Int} {r : Nat} (incr k : Nat) (h : t.slew = some (rm, r)) :
    tbRun true incr k t =
      { t with
        val := tbWrap ((t.val + k * incr : Nat) + slewSum rm (slewLim incr r) k)
        slew := some (rm - slewSum rm (slewLim incr r) k, r) } := by
  simp [tbRun, h]

/-- Further ticks leave no change waiting. -/
theorem tbSettled_tbRun {t : TimeBase} (h : TbSettled t) (en : Bool) (incr k : Nat) : TbSettled (tbRun en incr k t) := by
  cases en with
  | false => exact h
  | true =>
    obtain ⟨hset, hstep, hdue, hslew, -⟩ := h
    cases hs : t.slew with
    | none =>
      rw [tbRun_of_no_slew incr k hs]
      exact ⟨hset, hstep, hdue, hslew, tbWrap_lt (t.val + k * incr : Nat)⟩
    | some p =>
      rw [tbRun_of_slew incr k hs]
      exact ⟨hset, hstep, hdue, hslew, tbWrap_lt _⟩

/-- Zero further ticks leave such a base as it is. -/
theorem tbRun_zero {t : TimeBase} (h : TbSettled t) (en : Bool) (incr : Nat) : tbRun en incr 0 t = t := by
  have hval : tbWrap (t.val : Nat) = t.val := tbWrap_of_lt h.lt
  cases en with
  | false => rfl
  | true =>
    cases hs : t.slew with
    | none => rw [tbRun_of_no_slew incr 0 hs, Nat.zero_mul, Nat.add_zero, hval]
    | some p => rw [tbRun_of_slew incr 0 hs, slewSum_zero, Nat.zero_mul, Nat.add_zero, add_zero, sub_zero, hval, ← hs]

/-- The first tick of such a base is as every further one. -/
theorem tbFirst_of_settled {t : TimeBase} (h : TbSettled t) (en : Bool) (incr : Nat) : tbFirst en incr t = tbRun en incr 1 t := by
  rcases t with ⟨val, slew, setPend, stepPend, stepDue, slewPend, sched, hist⟩
  obtain ⟨rfl, rfl, rfl, rfl, hlt⟩ := h
  cases en with
  | false =>
    have hval : tbWrap (val : Nat) = val := tbWrap_of_lt hlt
    cases slew <;> simp [tbFirst, tbRun, hval]
  | true => cases slew <;> simp [tbFirst, tbRun, joinSlew]

/-- One further tick and then k are k + 1. -/
theorem tbRun_tbRun_one (en : Bool) (incr k : Nat) (t : TimeBase) : tbRun en incr k (tbRun en incr 1 t) = tbRun en incr (k + 1) t := by
  cases en with
  | false => rfl
  | true =>
    cases hs : t.slew with
    | none =>
      have hval : tbWrap ((tbWrap (t.val + 1 * incr : Nat) + k * incr : Nat)) = tbWrap (t.val + (k + 1) * incr : Nat) := by
        rw [Nat.cast_add, tbWrap_add_tbWrap]
        congr 1
        push_cast
        ring
      rw [tbRun_of_no_slew incr 1 hs, tbRun_of_no_slew incr k (by exact hs), tbRun_of_no_slew incr (k + 1) hs, hval]
    | some p =>
      obtain ⟨rm, r⟩ := p
      have hsum := slewSum_succ rm (slewLim incr r) k
      have hval : tbWrap ((tbWrap ((t.val + 1 * incr : Nat) + slewSum rm (slewLim incr r) 1) + k * incr : Nat)
            + slewSum (rm - slewSum rm (slewLim incr r) 1) (slewLim incr r) k)
          = tbWrap ((t.val + (k + 1) * incr : Nat) + slewSum rm (slewLim incr r) (k + 1)) := by
        rw [Nat.cast_add, add_assoc, tbWrap_add_tbWrap, ← hsum]
        congr 1
        push_cast
        ring
      have hleft : rm - slewSum rm (slewLim incr r) 1 - slewSum (rm - slewSum rm (slewLim incr r) 1) (slewLim incr r) k
          = rm - slewSum rm (slewLim incr r) (k + 1) := by
        rw [sub_sub, hsum]
      rw [tbRun_of_slew incr 1 hs, tbRun_of_slew incr k rfl, tbRun_of_slew incr (k + 1) hs, hval, hleft]

/-- One tick is the first tick alone. -/
theorem tbAdvance_one (en : Bool) (incr : Nat) (t : TimeBase) : tbAdvance en incr 1 t = tbFirst en incr t :=
  tbRun_zero (tbSettled_tbFirst en incr t) en incr

/-- Single ticks of a base with no change waiting are its further ticks in closed form. -/
theorem tickByTick_of_settled {t : TimeBase} (h : TbSettled t) (en : Bool) (incr k : Nat) :
    tickByTick en incr k t = tbRun en incr k t := by
  induction k generalizing t with
  | zero => exact (tbRun_zero h en incr).symm
  | succ k ih =>
    calc tickByTick en incr (k + 1) t
      _ = tickByTick en incr k (tbRun en incr 1 t) := by rw [tickByTick, tbAdvance_one, tbFirst_of_settled h]
      _ = tbRun en incr k (tbRun en incr 1 t) := ih (tbSettled_tbRun h en incr 1)
      _ = tbRun en incr (k + 1) t := tbRun_tbRun_one en incr k t

/-- Settles O43: the first tick leaves no change waiting, and from there each single tick is one more of the closed form. -/
theorem manyTicksAreSingleTicks : Obligations.ManyTicksAreSingleTicks := by
  intro en incr w t hw
  obtain ⟨k, rfl⟩ := Nat.exists_eq_add_one.mpr hw
  calc tbAdvance en incr (k + 1) t
    _ = tbRun en incr k (tbFirst en incr t) := rfl
    _ = tickByTick en incr k (tbFirst en incr t) := (tickByTick_of_settled (tbSettled_tbFirst en incr t) en incr k).symm
    _ = tickByTick en incr (k + 1) t := by rw [tickByTick, tbAdvance_one]

/-! ### The single tick (R207, R209, R215) -/

/-- The adjustment of a slew in one tick: none without a slew. -/
def tickAdj (incr : Nat) : Option (Int × Nat) → Int
  | none => 0
  | some (rm, rate) => slewSum rm (slewLim incr rate) 1

/-- At a rate of at most 500,000 ppb the adjustment is at most the increment, either way. -/
theorem tickAdj_bounds {incr : Nat} {s : Option (Int × Nat)} (h : ∀ rm rate, s = some (rm, rate) → rate ≤ 500000) :
    -(incr : Int) ≤ tickAdj incr s ∧ tickAdj incr s ≤ incr := by
  cases s with
  | none => simp [tickAdj]
  | some p =>
    have hlim : slewLim incr p.2 ≤ incr := slewLim_le (h p.1 p.2 rfl)
    have hb := slewSum_one_bounds p.1 (slewLim incr p.2)
    simp only [tickAdj]
    omega

/-- The first tick of an enabled base on which neither a set, nor a step, nor a slew waits. -/
theorem tbFirst_of_enabled {incr : Nat} {t : TimeBase} (hset : t.setPend = none) (hstep : t.stepPend = 0) (hslew : t.slewPend = none) :
    (tbFirst true incr t).val = tbWrap ((t.val + incr : Nat) + tickAdj incr t.slew) ∧
    (tbFirst true incr t).slew = t.slew.map (fun p => (p.1 - tickAdj incr t.slew, p.2)) := by
  cases hs : t.slew <;> simp [tbFirst, joinSlew, tickAdj, hset, hstep, hslew, hs]

/-- A disabled base on which neither a set nor a step waits stands, however many ticks pass. -/
theorem tbAdvance_of_disabled {incr w : Nat} {t : TimeBase} (hset : t.setPend = none) (hstep : t.stepPend = 0)
    (hlt : t.val < 2 ^ 64 * secUnit) :
    (tbAdvance false incr w t).val = t.val ∧ (tbAdvance false incr w t).slew = t.slew := by
  have hval : tbWrap (t.val : Nat) = t.val := tbWrap_of_lt hlt
  cases hs : t.slew <;> simp [tbAdvance, tbRun, tbFirst, hset, hstep, hval, hs]

/-- An addition of less than a second either way keeps the second, or carries one into it, and the seconds count modulo 2^64. -/
theorem tbWrap_carry {v : Nat} {y : Int} (hlt : v < 2 ^ 64 * secUnit) (hlow : 0 ≤ y) (hhigh : y < secUnit) :
    (tbWrap (v + y) : Int) =
      if (secUnit : Int) ≤ (v % secUnit : Nat) + y then
        ((v / secUnit + 1) % 2 ^ 64 : Nat) * (secUnit : Int) + ((v % secUnit : Nat) + y - secUnit)
      else (v / secUnit : Nat) * (secUnit : Int) + ((v % secUnit : Nat) + y) := by
  rw [tbWrap_cast]
  simp only [secUnit] at *
  split_ifs <;> omega

/-- Settles O44: the first tick's sum is below two seconds' worth past the second that it started in, so that one carry is enough. -/
theorem aTickAddsTheIncrement : Obligations.ATickAddsTheIncrement := by
  refine ⟨fun incr t adj hset hstep hslew hlt hincr hadj hrate => ?_,
    fun incr w t hset hstep hlt => tbAdvance_of_disabled hset hstep hlt⟩
  have hadj' : adj = tickAdj incr t.slew := by
    rw [hadj]
    cases t.slew with
    | none => rfl
    | some p => exact (slewSum_one p.1 (slewLim incr p.2)).symm
  obtain ⟨hlow, hhigh⟩ := hadj' ▸ tickAdj_bounds hrate
  obtain ⟨hval, hleft⟩ := tbFirst_of_enabled (incr := incr) hset hstep hslew
  rw [← hadj', Nat.cast_add, add_assoc] at hval
  intro x
  have hx : x = (t.val % secUnit : Nat) + (incr + adj) := add_assoc _ _ _
  rw [tbAdvance_one, hval, hleft, hx, ← hadj']
  exact ⟨tbWrap_carry hlt (by omega) (by simp only [secUnit]; omega), rfl⟩

end Sys2Proof.Machine
end

section
/-! A set value over the tick in which it applies: the base on both sides, the count of changes, STEPPED and UNCERTAIN (R213, R216,
R218). -/

namespace Sys2Proof.Machine

open Sys2Proof

/-- The first tick of a base that a set waits for gives it the set's value, takes the set, and leaves a scheduled step. -/
theorem tbFirst_of_set (en : Bool) (incr : Nat) {t : TimeBase} {v : Nat} (hset : t.setPend = some v) (hstep : t.stepPend = 0)
    (hlt : v < 2 ^ 64 * secUnit) :
    (tbFirst en incr t).val = v ∧ (tbFirst en incr t).sched = t.sched ∧ (tbFirst en incr t).setPend = none := by
  refine ⟨?_, rfl, rfl⟩
  simp only [tbFirst, hset, hstep, add_zero]
  exact tbWrap_of_lt hlt

/-- A set alone is one change. -/
theorem tbChanges_of_set {t : TimeBase} {v : Nat} (hset : t.setPend = some v) (hdue : t.stepDue = 0) (hslew : t.slewPend = none) :
    tbChanges t = 1 := by
  simp [tbChanges, hset, hdue, hslew, b2n]

/-- Both sides' copies take the active side's course, but for the points of the course that are noted. -/
theorem tbPass_both (w : Nat) (d : Device) {n x : Nat} (hx : x < 2) : ∃ h : List (Nat × Nat),
    tbOf (tbPass w d n) x n = { tbAdvance (tbEn d n) (tbIncr d n) w (tbOf d (activeSide d) n) with hist := h } := by
  unfold tbPass
  extract_lets t c en t' d1 step t'' by_ d2 d3 d4
  have hboth : tbOf d2 x n = t'' := by
    obtain rfl | rfl : x = 0 ∨ x = 1 := by omega
    · exact (tbOf_modTb_other _ _ (by omega)).trans (tbOf_modTb_self _ _ _ _)
    · exact tbOf_modTb_self _ _ _ _
  have h3 : d3.tb = d2.tb := by simp only [d3]; split <;> rfl
  have hnoted : ∃ h, t'' = { t' with hist := h } := by
    simp only [t'']
    split
    · exact ⟨_, rfl⟩
    · exact ⟨t'.hist, rfl⟩
  obtain ⟨h, ht⟩ := hnoted
  refine ⟨h, Eq.trans (tbOf_congr ?_ x n) (hboth.trans ht)⟩
  split
  · exact h3
  · split <;> exact h3

/-- A pass in whose first tick a set applies counts its changes, raises STEPPED and ends UNCERTAIN, and writes nothing else. -/
theorem tbPass_regs_of_set (w : Nat) {d : Device} {n : Nat} (hset : (tbOf d (activeSide d) n).setPend.isSome = true) :
    ∃ e, (∀ a, rd e a = rd d a) ∧
      tbPass w d n =
        setFlag (event (wr e (Reg.TB_CHG n) (rd d (Reg.TB_CHG n) + tbChanges (tbOf d (activeSide d) n))) Reg.TB_EVENT 0)
          Reg.TB_STATUS (8 + n) false := by
  have hchanges : tbChanges (tbOf d (activeSide d) n) ≠ 0 := by
    simp only [tbChanges, hset, b2n, if_true]
    omega
  unfold tbPass
  extract_lets t c en t' d1 step t'' by_ d2 d3 d4
  have hrd (a : Nat) : rd d3 a = rd d a := by simp only [d3]; split <;> rfl
  have hstep : step = true := by simp only [step, t, hset, Bool.true_or]
  refine ⟨d3, hrd, ?_⟩
  rw [if_neg hchanges, if_pos hstep, ← hrd]

/-- Settles O46: the first tick places the set's value, and a set alone is one change. -/
theorem aSetAppliesInTheNextTick : Obligations.ASetAppliesInTheNextTick := by
  intro d n v hn hset hstep hdue hslew hlt
  obtain ⟨e, hrd, hpass⟩ := tbPass_regs_of_set 1 (show (tbOf d (activeSide d) n).setPend.isSome = true by rw [hset]; rfl)
  rw [tbChanges_of_set hset hdue hslew] at hpass
  have hevent : Reg.TB_EVENT ≠ Reg.TB_STATUS := by decide
  have hchgEvent : Reg.TB_CHG n ≠ Reg.TB_EVENT := by simp only [Reg.TB_CHG, Reg.TB_EVENT]; omega
  have hchgStatus : Reg.TB_CHG n ≠ Reg.TB_STATUS := by simp only [Reg.TB_CHG, Reg.TB_STATUS]; omega
  refine ⟨fun x hx => ?both, ?count, ?stepped, ?certain⟩
  case both =>
    obtain ⟨h, hbase⟩ := tbPass_both 1 d hx
    rw [hbase, tbAdvance_one]
    exact tbFirst_of_set _ _ hset hstep hlt
  case count => rw [hpass, rd_setFlag_other _ _ _ hchgStatus, rd_event_other _ _ hchgEvent, rd_wr_self]
  case stepped => rw [hpass, flag_setFlag_other _ _ _ _ hevent, flag_event _ _ _ (by decide)]
  case certain => rw [hpass, flag_setFlag_self _ _ _ _ (by omega)]

end Sys2Proof.Machine
end

section
/-! The increments and their range: which values TBn_INCR takes, and what a value outside meets at the register and at the command
(R210). -/

namespace Sys2Proof.Machine

open Sys2Proof

/-- TB1 to TB7 take an increment of 0.75 ns to 0.85 ns, TB0 none. -/
theorem incrOk_iff (n i : Nat) : incrOk n i = true ↔ n ≠ 0 ∧ 0xC000_0000_0000 ≤ i ∧ i ≤ 0xD999_9999_999A := by
  simp [incrOk, inRange]

/-- A write of TBn_INCR_HI that makes an increment out of range raises CFG_REJECT alone. -/
theorem incrHi_of_bad {d : Device} {v : View} {n x : Nat} (hn : n ≠ 0)
    (hbad : incrOk n (stagedOr d v (Reg.TB_INCR_LO n) + 2 ^ 32 * bits x 23 0) = false) : incrHi d v n x = event d Reg.TB_EVENT 8 := by
  simp only [incrHi, if_neg hn, hbad, Bool.false_eq_true, if_false]

/-- A write of TBn_INCR_HI that makes an increment in range sets it, and nothing stays staged. -/
theorem incrHi_of_ok {d : Device} {v : View} {n x : Nat}
    (hok : incrOk n (stagedOr d v (Reg.TB_INCR_LO n) + 2 ^ 32 * bits x 23 0) = true) :
    incrHi d v n x = setIncr (unstage d v (Reg.TB_INCR_LO n)) n (stagedOr d v (Reg.TB_INCR_LO n) + 2 ^ 32 * bits x 23 0) := by
  have hn : n ≠ 0 := ((incrOk_iff _ _).mp hok).1
  simp only [incrHi, if_neg hn, hok, if_true]

/-- TB0 takes no increment of a register write. -/
theorem incrHi_tb0 (d : Device) (v : View) (x : Nat) : incrHi d v 0 x = d := rfl

/-- TB_SET_INCR of TB1 to TB7 with an increment out of range completes with BAD_PARAM, naming word 1. -/
theorem opTbSetIncr_of_bad {d : Device} {c : InFlight} (hn : pf c 0 2 0 ≠ 0)
    (hbad : incrOk (pf c 0 2 0) (pw c 1 + 2 ^ 32 * pf c 2 23 0) = false) : opTbSetIncr d c = complete d c.seq stBadParam [1] := by
  simp only [opTbSetIncr, if_neg hn, hbad, Bool.not_false, if_true]
  rfl

/-- TB_SET_INCR with an increment in range sets it from the next tick, and completes with that tick. -/
theorem opTbSetIncr_of_ok {d : Device} {c : InFlight} (hok : incrOk (pf c 0 2 0) (pw c 1 + 2 ^ 32 * pf c 2 23 0) = true) :
    opTbSetIncr d c = okWith (setIncr d (pf c 0 2 0) (pw c 1 + 2 ^ 32 * pf c 2 23 0)) c (nextTick d) := by
  have hn : pf c 0 2 0 ≠ 0 := ((incrOk_iff _ _).mp hok).1
  simp only [opTbSetIncr, if_neg hn, hok, Bool.not_true, Bool.false_eq_true, if_false]

/-- A word at a register of the TB block goes by the rules of the block. -/
theorem regWrite_tb (d : Device) (v : View) {a : Nat} (x : Word) (lo : 0x40000 ≤ a) (hi : a < 0x50000) (hres : reserved a = false) :
    regWrite d v a x = tbWrite d v a x := by
  have hglb : ¬ a < 0x1000 := by omega
  have hcmd : ¬ a < 0x20000 := by omega
  have hflt : ¬ a < 0x30000 := by omega
  simp [regWrite, hres, hglb, hcmd, hflt, hi, inFlt]

/-- TB0_INCR takes no write of a register, neither of its low word nor of its high word. -/
theorem regWrite_tb0Incr (d : Device) (v : View) (x : Word) :
    regWrite d v (Reg.TB_INCR_LO 0) x = d ∧ regWrite d v (Reg.TB_INCR_HI 0) x = d := by
  rw [regWrite_tb d v x (by decide) (by decide) (by decide), regWrite_tb d v x (by decide) (by decide) (by decide)]
  exact ⟨rfl, rfl⟩

/-- Settles O47: the range is that of incrOk, which the register's rule and the command's both ask. -/
theorem incrementsKeepTheirRange : Obligations.IncrementsKeepTheirRange :=
  ⟨incrOk_iff, fun _ _ _ _ hn hbad => incrHi_of_bad hn hbad, fun _ _ hn hbad => opTbSetIncr_of_bad hn hbad,
    fun d v x => ⟨incrHi_tb0 d v x.toNat, regWrite_tb0Incr d v x⟩, by norm_num⟩

end Sys2Proof.Machine
end

section
/-! The time commands and the rows of the time bases under the conditions of their own-effect statements: for each rule, what it does
in the case named. -/

namespace Sys2Proof.Machine

open Sys2Proof

/-! ### Commands (R210, R211, R213, R214, R231, R272) -/

/-- TB_SET of a valid time cancels what slews the base, and the value waits for the next tick (R213). -/
theorem opTbSet_of_valid {d : Device} {c : InFlight} (hns : pw c 1 ≤ 999999999) :
    opTbSet d c =
      okWith (modTb2 (slewCancel d (pf c 0 2 0)) (pf c 0 2 0) (fun t =>
        { t with setPend := some (timeVal (pw64 c 2) (pw c 1) (pf c 4 15 0)) })) c (nextTick d) := by
  simp only [opTbSet, if_neg (Nat.not_lt.mpr hns)]

/-- An immediate TB_STEP that takes no base below 0: the offset joins the steps that wait for the next tick of each base (R214). -/
theorem opTbStep_of_immediate {d : Device} {c : InFlight} (hmask : maskOf (pf c 0 7 0) ≠ []) (hmode : pf c 0 9 8 = 0)
    (hns : pw c 1 ≤ 999999999)
    (hpos : (maskOf (pf c 0 7 0)).all (fun n => decide (0 ≤ tbDue d n + stepOff c * (2 ^ 32 : Nat))) = true) :
    opTbStep d c =
      okWith (each (maskOf (pf c 0 7 0)) d (fun d n => modTb2 d n (fun t =>
        { t with stepPend := t.stepPend + stepOff c * (2 ^ 32 : Nat), stepDue := t.stepDue + 1 }))) c (nextTick d) := by
  have hnone : (maskOf (pf c 0 7 0)).isEmpty = false := List.isEmpty_eq_false_iff.mpr hmask
  have hbelow : (maskOf (pf c 0 7 0)).any (fun n => decide (tbDue d n + stepOff c * (2 ^ 32 : Nat) < 0)) = false := by
    rw [List.any_eq_false]
    intro n hn
    have h := List.all_eq_true.mp hpos n hn
    rw [decide_eq_true_eq] at h ⊢
    exact Int.not_lt.mpr h
  simp only [opTbStep, hnone, hmode, if_neg (Nat.not_lt.mpr hns), hbelow, zero_ne_one, OfNat.zero_ne_ofNat, decide_false,
    Bool.false_and, Bool.or_self, Bool.false_eq_true, if_false]

/-- PTP_PORT_CONFIG with a valid role and neither optional word writes the port's role alone. -/
theorem opPtpPortConfig_of_role {d : Device} {c : InFlight} (habs : absorbed d (portOfUnit (tgt c)) = false) (hrole : pf c 0 2 0 ≤ 4)
    (hdelay : pb c 1 0 = false) (hl1 : pb c 1 1 = false) :
    opPtpPortConfig d c = okWith (wrImage d (Reg.TB_PTP (portOfUnit (tgt c))) (pw c 0)) c (words2 (tickcnt d)) := by
  have hvalid : ¬ 5 ≤ pf c 0 2 0 := by omega
  simp only [opPtpPortConfig, habs, hvalid, hdelay, hl1, Bool.false_and, Bool.false_eq_true, if_false]
  rfl

/-- ASYM_SET of EXT_TX alone writes it, and counts a change of the port's delays. -/
theorem opAsymSet_of_extTx {d : Device} {c : InFlight} (habs : absorbed d (portOfUnit (tgt c)) = false) (hmask : pf c 0 3 0 = 1)
    (hok : portValueOk 0x200 (pw c 1) = true) :
    opAsymSet d c =
      ok (wr (wr d (Reg.PORT_EXT_TX (portOfUnit (tgt c))) (pw c 1)) (Reg.PORT_DLY_CHG (portOfUnit (tgt c)))
        (rd (wr d (Reg.PORT_EXT_TX (portOfUnit (tgt c))) (pw c 1)) (Reg.PORT_DLY_CHG (portOfUnit (tgt c))) + 1)) c := by
  have hbits : bit 1 0 = true ∧ bit 1 1 = false ∧ bit 1 2 = false ∧ bit 1 3 = false := by decide
  obtain ⟨htx, hrx, halpha, hfix⟩ := hbits
  simp only [opAsymSet, habs, hmask, hok, htx, hrx, halpha, hfix, one_ne_zero, Bool.not_true, Bool.false_and, Bool.and_false,
    Bool.false_eq_true, if_false, if_true]

/-- Settles O6, command by command: the header checks send it to its own rule, and the conditions name the case of that rule. -/
theorem timeCommandsDoTheirWork : Obligations.TimeCommandsDoTheirWork := by
  refine ⟨?tbRead, ?tbSet, ?tbStep, ?tbSetIncr, ?ptpPortConfig, ?asymSet⟩
  case tbRead =>
    exact commandEffect_of_op exec_tbRead (by decide) (fun _ _ hx => by simp only [carryOut, hx]) (fun _ _ _ => rfl)
  case tbSet =>
    refine commandEffect_of_op (op := opTbSet) exec_tbSet (by decide) (fun _ _ hx => by simp only [carryOut, hx]) ?_
    exact fun d c hns => opTbSet_of_valid hns
  case tbStep =>
    refine commandEffect_of_op (op := opTbStep) exec_tbStep (by decide) (fun _ _ hx => by simp only [carryOut, hx]) ?_
    rintro d c ⟨hmask, hmode, hns, hpos⟩
    exact opTbStep_of_immediate hmask hmode hns hpos
  case tbSetIncr =>
    refine commandEffect_of_op (op := opTbSetIncr) exec_tbSetIncr (by decide) (fun _ _ hx => by simp only [carryOut, hx]) ?_
    rintro d c ⟨-, hok⟩
    exact opTbSetIncr_of_ok hok
  case ptpPortConfig =>
    refine commandEffect_of_op (op := opPtpPortConfig) exec_ptpPortConfig (by decide) (fun _ _ hx => by simp only [carryOut, hx]) ?_
    rintro d c ⟨habs, hrole, hdelay, hl1⟩
    exact opPtpPortConfig_of_role habs hrole hdelay hl1
  case asymSet =>
    refine commandEffect_of_op (op := opAsymSet) exec_asymSet (by decide) (fun _ _ hx => by simp only [carryOut, hx]) ?_
    rintro d c ⟨habs, hmask, hok⟩
    exact opAsymSet_of_extTx habs hmask hok

/-! ### Rows (R207 to R216, R244, R245) -/

/-- A removing read of a view that reaches the registers, through SPI as the first word of its transaction, gives the entry's first
word and latches the others (R507, R511). -/
theorem removeRead_of_open {d : Device} {v : View} {first : Bool} (a : Nat) (take : Device → List Word × Device)
    (hopen : ∀ f, viewRead d v f = f d) (hfirst : v = .spi → first = true) :
    removeRead d v a first take = latch (emit (take d).2 (.read ((take d).1.take 1))) v (a + 4) ((take d).1.drop 1) := by
  have hspi : (v == .spi && !first) = false := by
    by_cases hv : v = .spi
    · simp [hv, hfirst hv]
    · simp [hv]
  rw [removeRead, hopen, hspi]
  rfl

/-- Settles O22, row by row: the row runs its meaning, by its view where it is an access, and the conditions name the case of it. -/
theorem timeBaseRowsActOnTheirBase : Obligations.TimeBaseRowsActOnTheirBase := by
  refine ⟨fun v n x => ?incrLo, fun v n x => ?incrHi, fun v x => ?enable, fun v => ?snap, fun n => ?scheduled, fun n => ?slewDone,
    fun v first => ?capRead⟩
  case incrLo =>
    refine effect_of_run (fun w s => exec_tbIncrLoWrite w v n x s) ?_
    rintro d ⟨hreach, hn⟩
    rw [viewWrite_of_reaches _ _ hreach, if_neg hn]
  case incrHi =>
    refine effect_of_run (fun w s => exec_tbIncrHiWrite w v n x s) ?_
    rintro d ⟨hreach, hok⟩
    rw [viewWrite_of_reaches _ _ hreach, incrHi_of_ok hok]
  case enable =>
    exact effect_of_run (fun w s => exec_tbEnableWrite w v x s) (fun d hreach => viewWrite_of_reaches _ _ hreach)
  case snap =>
    refine effect_of_run (fun w s => exec_snap w v s) ?_
    rintro d ⟨hreach, htick⟩
    rw [viewWrite_of_reaches _ _ hreach, onlyIf_of _ _ htick]
  case scheduled => exact effect_of_ticking (fun w s => exec_scheduledStep w n s)
  case slewDone => exact effect_of_run (fun w s => exec_slewDone w n s) (fun d hrun => onlyIf_of d _ hrun)
  case capRead =>
    refine effect_of_run (fun w s => exec_tbCapRead w v first s) ?_
    rintro d ⟨hopen, hfirst⟩
    exact removeRead_of_open _ _ (fun f => viewRead_of_open f hopen) hfirst

end Sys2Proof.Machine
end

section
/-! The step of an empty queue. -/

namespace Sys2Proof.Machine

open Sys2Proof

/-- Settles O37: an empty queue's step idles, which runs one tick with nothing done between the tick and the settling. -/
theorem anEmptyQueuePassesOneTick : Obligations.AnEmptyQueuePassesOneTick := by
  intro d
  rw [step_nil, idle, run, id, after]

end Sys2Proof.Machine
end

section
/-! The phase rows of a lane and the L1Sync rows of a port under the conditions of their own-effect statements: for each row's meaning,
what it does in the case named. -/

namespace Sys2Proof.Machine

open Sys2Proof

/-! ### The phase measurement of a lane (R249 to R267) -/

/-- A difference of SLIP_THR or more at a lane whose meter runs is a slip: it is counted, the acquisition starts again, and the window
that holds it publishes nothing. -/
theorem slipAt_of_threshold {d : Device} {n dfs : Nat} (hruns : phaseRuns d n = true)
    (hthr : fld d (Reg.LANE_PH_CFG n) 15 8 * 1000 ≤ dfs) :
    slipAt d n dfs =
      let d := event d (Reg.LANE_PH_EVENT n) 0
      let d := setFld d (Reg.LANE_PH_STATUS n) 31 16 (min (fld d (Reg.LANE_PH_STATUS n) 31 16 + 1) 0xFFFF)
      let d := setTiming (setAcq d n false) n false
      laneChanged (modLane d n (fun x => { x with acqFrom := some d.dev, winSlip := true })) n := by
  rw [slipAt, hruns, decide_eq_true hthr]
  rfl

/-- The 200 us are over at a lane that has not acquired: it acquires, and its timing is judged. -/
theorem acqTimer_of_elapsed {d : Device} {n t : Nat} (hfrom : (lane d n).acqFrom = some t) (hruns : phaseRuns d n = true)
    (hacq : flag d (Reg.LANE_STATUS n) 7 = false) (ht : t + 200 * usTicks ≤ d.dev) :
    acqTimer d n = laneChanged (timingEval (setAcq d n true) n) n := by
  simp only [acqTimer, hfrom, hruns, hacq, ht, Bool.not_false, decide_true, Bool.and_self, if_true]

/-- The monitor of a transmitter that is ON finds it misaligned: the lane realigns, and the condition of its fault begins. -/
theorem txMisaligned_of_on {d : Device} {n : Nat} (htick : ticking d = true) (hon : fld d (Reg.LANE_STATUS n) 9 8 = 0) :
    txMisaligned d n =
      condBegins (modLane (event d (Reg.LANE_PH_EVENT n) 3) n (fun x => { x with realign := true }))
        { cause := 0x0D, unit := uLane n } := by
  rw [txMisaligned, htick, hon]
  rfl

/-- A transmitter that was realigning has realigned: the condition of its fault ends. -/
theorem txAligned_of_realigning {d : Device} {n : Nat} (htick : ticking d = true) (hre : (lane d n).realign = true) :
    txAligned d n = condEnds (modLane d n (fun x => { x with realign := false })) 0x0D (uLane n) 0 :=
  onlyIf_of _ _ (by rw [htick, hre, Bool.and_self])

/-- Settles O16, row by row: the row runs its meaning, by its view where it is a write, and the conditions name the case of it. -/
theorem lanePhaseRowsActOnTheirLane : Obligations.LanePhaseRowsActOnTheirLane := by
  intro n
  refine ⟨fun dfs => ?slip, fun t => ?acquired, fun u rate => ?window, fun diff => ?marker, ?misaligned, ?realigned,
    fun tj => ?temperature, fun v x => ?alpha⟩
  case slip =>
    refine effect_of_run (fun w s => exec_slip w n dfs s) ?_
    rintro d ⟨hruns, hthr⟩
    exact slipAt_of_threshold hruns hthr
  case acquired =>
    refine effect_of_run (fun w s => exec_phaseAcqTimer w n s) ?_
    rintro d ⟨hfrom, hruns, hacq, ht⟩
    exact acqTimer_of_elapsed hfrom hruns hacq ht
  case window => exact effect_of_run (fun w s => exec_phaseWindowPublish w n u rate s) (fun _ _ => rfl)
  case marker => exact effect_of_run (fun w s => exec_skewMarkerPeriod w n diff s) (fun _ _ => rfl)
  case misaligned =>
    refine effect_of_run (fun w s => exec_txAlignErr w n s) ?_
    rintro d ⟨htick, hon⟩
    exact txMisaligned_of_on htick hon
  case realigned =>
    refine effect_of_run (fun w s => exec_txRealign w n s) ?_
    rintro d ⟨htick, hre⟩
    exact txAligned_of_realigning htick hre
  case temperature => exact effect_of_run (fun w s => exec_kTempUpdate w n tj s) (fun _ _ => rfl)
  case alpha =>
    refine effect_of_run (fun w s => exec_portAlphaHiWrite w v n x s) ?_
    rintro d ⟨hreach, habs, -⟩
    simp only [viewWrite_of_reaches _ _ hreach, habs, Bool.false_eq_true, if_false]

/-! ### L1Sync of a port (R273 to R276, R282) -/

/-- The TLV of the partner of a port that is UP: its flags are stored, its time is kept, and L1Sync is judged again. -/
theorem tlvIn_of_up {d : Device} {n : Nat} (flags : Nat) (hruns : l1Runs d n = true) (hup : portSt d n = 2) :
    tlvIn d n flags =
      let d := setFlag (setFld d (Reg.PORT_L1_STATUS n) 11 6 flags) (Reg.PORT_L1_STATUS n) 12 true
      l1Eval (modPort d n (fun x => { x with tlvAt := d.dev })) n :=
  onlyIf_of _ _ (by rw [hruns, hup]; rfl)

/-- The port's own TLV is due: none has gone out yet, or an interval has passed since the last. -/
def TlvDue (d : Device) (n : Nat) : Prop := ∀ t, (portOf d n).tlvSent = some t → t + tlvGap d n ≤ d.dev

/-- The first TLV of a port is due at once. -/
theorem tlvDue_of_none {d : Device} {n : Nat} (h : (portOf d n).tlvSent = none) : TlvDue d n := by
  intro t ht
  rw [h] at ht
  cases ht

/-- A further TLV is due one interval after the last. -/
theorem tlvDue_of_elapsed {d : Device} {n t : Nat} (h : (portOf d n).tlvSent = some t) (ht : t + tlvGap d n ≤ d.dev) :
    TlvDue d n := by
  intro u hu
  rw [h] at hu
  cases hu
  exact ht

/-- A due TLV goes out with the port's own flags, and its time is kept. -/
theorem tlvOut_of_due {d : Device} {n : Nat} (hruns : l1Runs d n = true) (hdue : TlvDue d n) :
    tlvOut d n = emit (modPort d n (fun x => { x with tlvSent := some d.dev }))
      (.tlv n (fld d (Reg.PORT_L1_CFG n) 3 1 + 8 * fld d (Reg.PORT_L1_STATUS n) 5 3) false) := by
  cases hsent : (portOf d n).tlvSent with
  | none => simp only [tlvOut, hruns, hsent, Bool.and_self, onlyIf_true]
  | some t => simp only [tlvOut, hruns, hsent, decide_eq_true (hdue t hsent), Bool.and_self, onlyIf_true]

/-- L1_SYNC_TLV_SEND's own effect, wherever the TLV is due. -/
theorem effect_l1SyncTlvSend (n : Fin 40) :
    Effect (fun w => .l1SyncTlvSend w n) (fun d => l1Runs d n = true ∧ TlvDue d n) (fun d =>
      emit (modPort d n (fun x => { x with tlvSent := some d.dev }))
        (.tlv n (fld d (Reg.PORT_L1_CFG n) 3 1 + 8 * fld d (Reg.PORT_L1_STATUS n) 5 3) false)) :=
  effect_of_run (fun w s => exec_l1SyncTlvSend w n s) (fun _ ⟨hruns, hdue⟩ => tlvOut_of_due hruns hdue)

/-- RX_TMO intervals have passed without a TLV at a port whose L1Sync is beyond IDLE: it goes to IDLE. -/
theorem tlvTmo_of_elapsed {d : Device} {n : Nat} (hruns : l1Runs d n = true) (hst : 2 ≤ fld d (Reg.PORT_L1_STATUS n) 2 0)
    (ht : (portOf d n).tlvAt + fld d (Reg.PORT_L1_CFG n) 23 16 * tlvGap d n ≤ d.dev) : tlvTmo d n = l1Idle d n :=
  onlyIf_of _ _ (by rw [hruns, decide_eq_true hst, decide_eq_true ht]; rfl)

/-- A valid configuration of a port that is no gang member is stored, and L1Sync is judged by it at once. -/
theorem l1Cfg_of_valid {d : Device} {n x : Nat} (habs : absorbed d n = false) (hok : portValueOk 0x220 x = true) :
    l1Cfg d n x = l1Eval (wrImage d (Reg.PORT_L1_CFG n) x) n := by
  simp only [l1Cfg, habs, hok, Bool.false_eq_true, if_false, if_true]

/-- Settles O18, row by row: the row runs its meaning, by its view where it is a write, and the conditions name the case of it. -/
theorem l1SyncRowsActOnTheirPort : Obligations.L1SyncRowsActOnTheirPort := by
  intro n
  refine ⟨fun flags opt => ?received, ?first, fun t => ?further, ?silent, fun v x => ?config⟩
  case received =>
    refine effect_of_run (fun w s => exec_l1SyncTlvRx w n flags opt s) ?_
    rintro d ⟨hruns, hup⟩
    exact tlvIn_of_up flags.toNat hruns hup
  case first => exact fun w s ⟨hruns, hnone⟩ => effect_l1SyncTlvSend n w s ⟨hruns, tlvDue_of_none hnone⟩
  case further => exact fun w s ⟨hruns, hsent, ht⟩ => effect_l1SyncTlvSend n w s ⟨hruns, tlvDue_of_elapsed hsent ht⟩
  case silent =>
    refine effect_of_run (fun w s => exec_l1SyncReceiptTmo w n s) ?_
    rintro d ⟨hruns, hst, ht⟩
    exact tlvTmo_of_elapsed hruns hst ht
  case config =>
    refine effect_of_run (fun w s => exec_l1CfgWrite w v n x s) ?_
    rintro d ⟨hreach, habs, hok⟩
    rw [viewWrite_of_reaches _ _ hreach, l1Cfg_of_valid habs hok]

end Sys2Proof.Machine
end

section
/-! The Trellis commands and the rows of the Trellis under the conditions of their own-effect statements: for each rule, what it does in
the case named. -/

namespace Sys2Proof.Machine

open Sys2Proof

/-! ### Commands (R302, R303, R305, R496) -/

/-- The sides that a command names, where it names any, are not the empty list that R305 refuses. -/
theorem sidesOf_isEmpty {c : InFlight} (h : sidesOf c ≠ []) : (sidesOf c).isEmpty = false :=
  List.isEmpty_eq_false_iff.mpr h

/-- TRELLIS_FORCE that names a side, and whose mode 1 names an entry QUALIFIED or WATCHED on each of its sides: the mode is put in
force on each of them. -/
theorem opTrellisForce_of_firm {d : Device} {c : InFlight} (hsides : sidesOf c ≠ [])
    (hfirm : pf c 0 5 4 = 1 →
      (sidesOf c).all (fun x => candSt d x (pf c 0 11 8) == 3 || candSt d x (pf c 0 11 8) == 4) = true) :
    opTrellisForce d c = ok (each (sidesOf c) d (forceSide (pf c 0 5 4) (pf c 0 11 8))) c := by
  have hfound : ¬ (decide (pf c 0 5 4 = 1) &&
      (sidesOf c).any (fun x => candSt d x (pf c 0 11 8) != 3 && candSt d x (pf c 0 11 8) != 4)) = true := by
    rw [Bool.and_eq_true, decide_eq_true_eq, List.any_eq_true]
    rintro ⟨hmode, x, hx, hloose⟩
    rw [bne, bne, ← Bool.not_or, List.all_eq_true.mp (hfirm hmode) x hx] at hloose
    exact Bool.false_ne_true hloose
  simp only [opTrellisForce, sidesOf_isEmpty hsides, Bool.false_eq_true, if_false, if_neg hfound]

/-- TRELLIS_STATUS that names a side answers the words of each side it names. -/
theorem opTrellisStatus_of_sides {d : Device} {c : InFlight} (hsides : sidesOf c ≠ []) :
    opTrellisStatus d c = okWith d c ((sidesOf c).map (trellisWords d)).flatten := by
  simp only [opTrellisStatus, sidesOf_isEmpty hsides, Bool.false_eq_true, if_false]

/-- DCO_STEER by an absolute word within ±500 ppm, with every side it names in MANUAL: each of them takes the word. -/
theorem opDcoSteer_of_manual {d : Device} {c : InFlight} (hsides : sidesOf c ≠ [])
    (hmanual : (sidesOf c).all (fun x => sideSt d x == 6) = true) (habs : pb c 0 4 = false)
    (hrange : (signed 48 (pw c 1 + 2 ^ 32 * pf c 2 15 0)).natAbs ≤ ppm500) :
    opDcoSteer d c =
      ok (each (sidesOf c) d (fun d x => setDco d x (signed 48 (pw c 1 + 2 ^ 32 * pf c 2 15 0)))) c := by
  have hother : (sidesOf c).any (fun x => sideSt d x != 6) = false := by
    rw [List.any_eq_false]
    intro x hx
    rw [bne_iff_ne, not_not]
    exact beq_iff_eq.mp (List.all_eq_true.mp hmanual x hx)
  have hwide : (sidesOf c).any (fun _ => decide (ppm500 < (signed 48 (pw c 1 + 2 ^ 32 * pf c 2 15 0)).natAbs)) = false :=
    List.any_eq_false.mpr (fun _ _ => by rw [decide_eq_true_eq]; exact Nat.not_lt.mpr hrange)
  simp only [opDcoSteer, sidesOf_isEmpty hsides, hother, habs, hwide, Bool.false_eq_true, if_false]

/-- Settles O7, command by command: the header checks send it to its own rule, and the conditions name the case of that rule. -/
theorem trellisCommandsDoTheirWork : Obligations.TrellisCommandsDoTheirWork := by
  refine ⟨?tableLoad, ?force, ?forceEntry, ?status, ?steer⟩
  case tableLoad =>
    exact commandEffect_of_op exec_trellisTableLoad (by decide) (fun _ _ hx => by simp only [carryOut, hx]) (fun _ _ _ => rfl)
  case force =>
    refine commandEffect_of_op (op := opTrellisForce) exec_trellisForce (by decide) (fun _ _ hx => by simp only [carryOut, hx]) ?_
    rintro d c ⟨hsides, hmode⟩
    exact opTrellisForce_of_firm hsides (fun h => absurd h hmode)
  case forceEntry =>
    refine commandEffect_of_op (op := opTrellisForce) exec_trellisForce (by decide) (fun _ _ hx => by simp only [carryOut, hx]) ?_
    rintro d c ⟨hsides, hmode, hfirm⟩
    rw [opTrellisForce_of_firm hsides (fun _ => hfirm), hmode]
  case status =>
    refine commandEffect_of_op (op := opTrellisStatus) exec_trellisStatus (by decide) (fun _ _ hx => by simp only [carryOut, hx]) ?_
    exact fun d c hsides => opTrellisStatus_of_sides hsides
  case steer =>
    refine commandEffect_of_op (op := opDcoSteer) exec_dcoSteer (by decide) (fun _ _ hx => by simp only [carryOut, hx]) ?_
    rintro d c ⟨hsides, hmanual, habs, hrange⟩
    exact opDcoSteer_of_manual hsides hmanual habs hrange

/-! ### Rows (R283 to R304) -/

/-- A side whose synthesizer is locked takes the update that the present tick lies in, where it has not taken it. -/
theorem loopDue_of_locked {d : Device} {x : Nat} (htick : ticking d = true) (hlock : synLocked d x = true)
    (hidx : (trlOf d x).loopIdx < loopNow d) : loopDue d x = loopUpdate d x :=
  onlyIf_of _ _ (by rw [htick, hlock, decide_eq_true hidx]; rfl)

/-- A QUALIFYING candidate that has kept within SOFT for QUAL_TIME qualifies (R288 row 2). -/
theorem qualDue_of_qualifying {d : Device} {x e : Nat} (hst : candSt d x e = 2)
    (hpassed : passedSince d (candOf d x e).softAt (qualTicks d x e) = true) : qualDue d x e = qualify d x e := by
  simp only [qualDue, hst, hpassed, if_true]

/-- A RESTORING candidate whose WTR has passed is QUALIFIED (R288 row 6). -/
theorem wtrDue_of_restoring {d : Device} {x e : Nat} (hst : candSt d x e = 6)
    (ht : (candOf d x e).wtrAt + cw d x e 3 27 16 * secTicks ≤ d.tick) : wtrDue d x e = enterCand d x e 3 0 :=
  if_pos ⟨hst, ht⟩

/-- An acquisition that has lasted ACQ_TMO disqualifies its target, and the side goes on to the best entry or to HOLDOVER. -/
theorem acqDue_of_acquiring {d : Device} {x : Nat} (hst : sideSt d x = 4)
    (hpassed : passedSince d (trlOf d x).acqAt (fld d (Reg.TRL_ACQ_TMO x) 9 0 * secTicks) = true) :
    acqDue d x = bridgeOrHold (disqualify d x (targetOf d x) 5) x (trlOf d x).cause :=
  if_pos ⟨hst, hpassed⟩

/-- A second in which the spare meter and PH_RATE agree within 10^6 × 10^-15 leaves no bad second behind (R287). -/
theorem xchkDue_of_agreeing {d : Device} {x e : Nat} {spare mean : Int} (hvalid : cValid d x e = true) (htype : cType d x e = 0)
    (hmeter : flag d (Reg.TRL_CAND_STATUS x e) 7 = true) (hpresent : (candOf d x e).present = true)
    (hdiff : (spare - mean).natAbs ≤ 1000000) :
    xchkDue d x e spare mean = modCand d x e (fun c => { c with xbad := false }) := by
  simp only [xchkDue, hvalid, htype, hmeter, hpresent, decide_eq_false (Nat.not_lt.mpr hdiff), BEq.rfl, Bool.and_self, Bool.false_and,
    Bool.false_eq_true, if_false, if_true]

/-- Settles O23, row by row: the row runs its meaning, and the conditions name the case of it. -/
theorem trellisRowsActOnTheirSide : Obligations.TrellisRowsActOnTheirSide := by
  intro x
  refine ⟨?loopUpdate, fun e => ?qualified, fun e => ?restored, fun e => ?drift, ?holdoff, ?acquisition, ?model, ?holdover,
    fun e a b => ?crossCheck, fun e => ?presence, fun n a b c t chg i => ?offset⟩
  case loopUpdate =>
    refine effect_of_run (fun w s => exec_trellisLoopUpdate w x s) ?_
    rintro d ⟨htick, hlock, hidx⟩
    exact loopDue_of_locked htick hlock hidx
  case qualified =>
    refine effect_of_run (fun w s => exec_qualTimer w x e s) ?_
    rintro d ⟨htick, hst, hpassed⟩
    rw [onlyIf_of _ _ htick, qualDue_of_qualifying hst hpassed]
  case restored =>
    refine effect_of_run (fun w s => exec_wtrTimer w x e s) ?_
    rintro d ⟨htick, hst, ht⟩
    rw [onlyIf_of _ _ htick, wtrDue_of_restoring hst ht]
  case drift =>
    refine effect_of_run (fun w s => exec_driftWindowEnd w x e s) ?_
    rintro d ⟨htick, hvalid⟩
    exact onlyIf_of _ _ (by rw [htick, hvalid, Bool.and_self])
  case holdoff => exact effect_of_ticking (fun w s => exec_holdoffElapsed w x s)
  case acquisition =>
    refine effect_of_run (fun w s => exec_acqTmo w x s) ?_
    rintro d ⟨htick, hst, hpassed⟩
    rw [onlyIf_of _ _ htick, acqDue_of_acquiring hst hpassed]
  case model =>
    refine effect_of_run (fun w s => exec_modelSample w x s) ?_
    rintro d ⟨htick, ht⟩
    exact onlyIf_of _ _ (by rw [htick, decide_eq_true ht, Bool.and_self])
  case holdover =>
    refine effect_of_run (fun w s => exec_holdoverDcoWrite w x s) ?_
    rintro d ⟨htick, hdue⟩
    exact onlyIf_of _ _ (by rw [htick, hdue, Bool.and_self])
  case crossCheck =>
    refine effect_of_run (fun w s => exec_xchkSecond w x e a b s) ?_
    rintro d ⟨htick, hvalid, htype, hmeter, hpresent, hdiff⟩
    rw [onlyIf_of _ _ htick, xchkDue_of_agreeing hvalid htype hmeter hpresent hdiff]
  case presence =>
    refine effect_of_run (fun w s => exec_presenceLost w x e s) ?_
    rintro d ⟨htick, hpresent⟩
    exact onlyIf_of _ _ (by rw [htick, hpresent, Bool.and_self])
  case offset =>
    refine effect_of_run (fun w s => exec_ptpOffset w n a b c t chg i s) ?_
    rintro d ⟨htick, hready, -⟩
    exact onlyIf_of _ _ (by rw [htick, hready, Bool.and_self])

end Sys2Proof.Machine
end

section
/-! The order of the clocks: device time runs with the wall clock while the root outputs are not gated, and stands while they are
(R321; how time passes is log 3). -/

namespace Sys2Proof.Machine

open Sys2Proof

/-! ### Device time while ticks pass -/

/-- The keeper and the wall clock leave device time. -/
theorem wallWait_dev (w : Nat) (d : Device) : (wallWait w d).dev = d.dev := by
  obtain ⟨k, a, hk⟩ := keeperRun_eq d w
  rw [wallWait, hk]

/-- With the core's ticks device time goes on by as many. -/
theorem coreWait_dev (w : Nat) (d : Device) : (coreWait w d).dev = d.dev + w := by
  obtain ⟨-, hrest⟩ := sameEng_codePass (wallWait w d) w
  have hpass : (codePass (wallWait w d) w).dev = (wallWait w d).dev := (congrArg Device.dev hrest :)
  rw [coreWait, hpass, wallWait_dev]

/-- The pass of a time base leaves device time. -/
theorem tbPass_dev (w : Nat) (d : Device) (n : Nat) : (tbPass w d n).dev = d.dev := by
  unfold tbPass
  extract_lets t c en t' d1 step t'' by_ d2 d3 d4
  have h3 : d3.dev = d.dev := by simp only [d3]; split <;> rfl
  split
  · exact h3
  · split <;> exact h3

/-- An update that leaves device time at each element leaves it over a list. -/
theorem each_dev {α : Type} {f : Device → α → Device} (hf : ∀ d x, (f d x).dev = d.dev) (l : List α) (d : Device) :
    (each l d f).dev = d.dev := by
  unfold each
  induction l generalizing d with
  | nil => rfl
  | cons x l ih => exact (ih (f d x)).trans (hf d x)

/-- Device time goes on by the ticks that pass while the device runs, and stands while its clocks are gated or it is held in
reset. -/
theorem wait_dev (w : Nat) (d : Device) : (wait w d).dev = if running d then d.dev + w else d.dev := by
  obtain rfl | hw := Nat.eq_zero_or_pos w
  · exact (ite_self d.dev).symm
  obtain ⟨-, -, -, hrun, -⟩ := wallWait_frame w d
  have hbases : (each (upTo 8) (coreWait w d) (tbPass w)).dev = d.dev + w :=
    (each_dev (tbPass_dev w) _ _).trans (coreWait_dev w d)
  rw [wait_eq d hw, hrun]
  split
  · split
    · generalize each (upTo 8) (coreWait w d) (tbPass w) = e at hbases ⊢
      exact hbases
    · exact coreWait_dev w d
  · exact wallWait_dev w d

/-- Device time never runs back. -/
theorem le_wait_dev (w : Nat) (d : Device) : d.dev ≤ (wait w d).dev := by
  rw [wait_dev]
  split <;> omega

/-- Device time never runs ahead of the ticks that pass. -/
theorem wait_dev_le (w : Nat) (d : Device) : (wait w d).dev ≤ d.dev + w := by
  rw [wait_dev]
  split <;> omega

/-! ### The invariant -/

/-- Settles O38: both clocks stand at 0 at reset. -/
theorem invariantHoldsAtReset : Obligations.InvariantHoldsAtReset := Nat.le_refl 0

/-- A row keeps the order of the clocks, whatever its own effect: real time goes on by all its ticks, device time by no more. -/
theorem inv_after {w : Nat} {s : State} (e : Device) (h : Inv s) : Inv (after w s e) :=
  calc (after w s e).dev.dev
    _ = (wait w s.dev).dev := after_dev w s e
    _ ≤ s.dev.dev + w := wait_dev_le w s.dev
    _ ≤ s.dev.now + w := Nat.add_le_add_right h w
    _ = (after w s e).dev.now := (after_now w s e).symm

/-- Settles O39: a step is a row of the ticks that the front command, or the empty queue, takes along (how many those are is the
model's choice, log 3). -/
theorem everyStepKeepsTheOrderOfTheClocks : Obligations.EveryStepKeepsTheOrderOfTheClocks := by
  intro s t hinv hstep
  obtain ⟨f, hf⟩ := step_next s
  rw [hf] at hstep
  cases hstep
  exact ⟨inv_after (s := ⟨s.pending.tail, s.dev⟩) _ hinv, le_wait_dev (stepTicks s) s.dev, after_now _ _ _, after_fuse _ _ _,
    after_pending _ _ _⟩

end Sys2Proof.Machine
end

section
/-! The rows of the root PLL, the synthesizers, the core divider, PPS_OUT and LOCKMON under the conditions of their own-effect
statements: for each row's meaning, what it does in the case named. -/

namespace Sys2Proof.Machine

open Sys2Proof

/-- Loss of lock of a root PLL that was locked gates its outputs (R321). -/
theorem rootLost_of_locked {d : Device} (hheld : d.pwr.resetHeld = false) (hlock : d.clk.rootLocked = true) :
    rootLost d = freeze d false :=
  onlyIf_of _ _ (by rw [hheld, hlock]; rfl)

/-- Loss of a LOCAL_OSC that was present gates the outputs, too, and is recorded as the cause (R314, R321). -/
theorem oscMissing_of_present {d : Device} (hheld : d.pwr.resetHeld = false) (hosc : d.clk.oscLost = false) :
    oscMissing d = freeze d true :=
  onlyIf_of _ _ (by rw [hheld, hosc]; rfl)

/-- The divider that was asked for is in force: it is shown, the request is spent, and its event is set (R313). -/
theorem divDone_of_request {d : Device} {a n : Nat} (hreq : d.clk.divReq = some (a, n)) :
    divDone d =
      event (modClk (setFlag (setFlag d Reg.CLK_ROOT_STATUS 2 (n == 16)) Reg.GLB_PWR_STATUS 2 (n == 16))
        (fun c => { c with divReq := none })) Reg.CLK_EVENT 8 := by
  rw [divDone, hreq]

/-- A new second at a PPS_OUT that is not muted, does not ask for certainty, is low with no fall behind it and is not off in its
pair: the second is taken, and PPS_OUT rises (R331). -/
theorem ppsPulse_of_free {d : Device} (htick : ticking d = true) (hmuted : d.clk.ppsMuted = false)
    (hsec : d.clk.ppsSec ≠ some (ppsNow d)) (hcertain : flag d Reg.CLK_PPS_CFG 21 = false) (hhigh : d.clk.ppsHigh = none)
    (hfall : d.clk.ppsFall = none) (hpair : pairedOff d 1 = false) :
    ppsPulse d =
      emit (modClk (modClk d (fun c => { c with ppsSec := some (ppsNow d) })) (fun c => { c with ppsHigh := some d.tick }))
        (.pps true) := by
  have hdue : (!ticking d || d.clk.ppsMuted || decide (d.clk.ppsSec = some (ppsNow d))) = false := by
    rw [htick, hmuted, decide_eq_false hsec]
    rfl
  unfold ppsPulse
  extract_lets s e width close
  have hloose : flag e Reg.CLK_PPS_CFG 21 = false := hcertain
  have hlow : e.clk.ppsHigh = none := hhigh
  have hclose : close = false := by
    have hnofall : e.clk.ppsFall = none := hfall
    simp only [close, hnofall]
  have hopen : pairedOff e 1 = false := hpair
  simp only [s, hdue, hloose, hlow, hclose, hopen, Option.isSome_none, Bool.false_and, Bool.or_self, Bool.false_eq_true, if_false]
  rfl

/-- Settles O24, row by row: the row runs its meaning, by its view where it is a write, and the conditions name the case of it. -/
theorem clockRowsActOnTheClocks : Obligations.ClockRowsActOnTheClocks := by
  refine ⟨?rootLock, ?rootUnlock, ?oscLoss, ?oscReturn, ?restart, fun x => ?synLock, fun x => ?synUnlock, fun v x => ?divReq,
    fun a n => ?divDone, fun x => ?slew, ?ppsRise, ?ppsFall, ?lockmon⟩
  case rootLock => exact effect_of_run exec_rootPllLock (fun _ _ => rfl)
  case rootUnlock => exact effect_of_run exec_rootUnlock (fun _ ⟨hheld, hlock⟩ => rootLost_of_locked hheld hlock)
  case oscLoss => exact effect_of_run exec_oscLoss (fun _ ⟨hheld, hosc⟩ => oscMissing_of_present hheld hosc)
  case oscReturn => exact effect_of_run exec_oscReturn (fun _ _ => rfl)
  case restart => exact effect_of_run exec_restarted (fun _ _ => rfl)
  case synLock => exact effect_of_run (fun w s => exec_synLock w x s) (fun _ _ => rfl)
  case synUnlock => exact effect_of_run (fun w s => exec_synUnlock w x s) (fun _ _ => rfl)
  case divReq => exact effect_of_run (fun w s => exec_coreDivReq w v x s) (fun _ hreach => viewWrite_of_reaches _ _ hreach)
  case divDone =>
    refine effect_of_run exec_coreDivDone ?_
    rintro d ⟨hrun, hreq⟩
    rw [onlyIf_of _ _ hrun, divDone_of_request hreq]
  case slew => exact effect_of_run (fun w s => exec_synSlewMove w x s) (fun d hrun => onlyIf_of d _ hrun)
  case ppsRise =>
    refine effect_of_run exec_ppsOutPulse ?_
    rintro d ⟨htick, hmuted, hsec, hcertain, hhigh, hfall, hpair⟩
    exact ppsPulse_of_free htick hmuted hsec hcertain hhigh hfall hpair
  case ppsFall => exact effect_of_ticking exec_ppsPulseEnd
  case lockmon =>
    refine effect_of_run exec_lockmonRefresh ?_
    rintro d ⟨hrun, hosc⟩
    exact onlyIf_of _ _ (by rw [hrun, hosc]; rfl)

end Sys2Proof.Machine
end

section
/-! The measurement commands, the commands of the Cold Frame's partition and the rows of the fine interval meters under the conditions of
their own-effect statements: for each rule, what it does in the case named. -/

namespace Sys2Proof.Machine

open Sys2Proof

/-! ### A command by the partition that its packet names (R384, R468) -/

/-- The opcodes of the measurement and Cold Frame commands and of the images: none is ABORT, which acts at its acceptance (R477), or a
shaft command, which may go on to the partner (R575). -/
def measurementOrImage (opcode : Nat) : Bool := opcode / 4 == 0x01C0 || isImage opcode

/-- Such an opcode fits its field and is neither ABORT's nor a shaft command's. -/
theorem bounds_of_measurementOrImage {opcode : Nat} (h : measurementOrImage opcode = true) :
    opcode < 65536 ∧ opcode ≠ 0x0110 ∧ opcode ≠ 0x0800 ∧ opcode ≠ 0x0801 := by
  simp only [measurementOrImage, isImage, Bool.or_eq_true, beq_iff_eq] at h
  omega

/-- A command row's own effect is E where, for each packet that commits, the front end comes to E. -/
theorem commandEffect_of_packet {c : Nat → Origin → Pkt → Instr} {opcode : Nat} {H : Device → InFlight → Prop}
    {E : Device → InFlight → Device} (hrun : ∀ w o p s, exec (c w o p) s = run w s (fun d => packet d o opcode p))
    (heq : ∀ {d o p d' vlans}, Commits d o opcode p d' vlans → H (taking d' o opcode p vlans) (taken d' o opcode p vlans) →
      packet d o opcode p = E (taking d' o opcode p vlans) (taken d' o opcode p vlans)) : CommandEffect c opcode H E := by
  intro w o p s d' vlans hc hH
  rw [hrun, run, heq hc hH]

/-- Outside the Cold Frame such a command has the effect of its opcode's rule, op, where the two agree. -/
theorem commandEffect_outside_cf {c : Nat → Origin → Pkt → Instr} {opcode : Nat} {H : Device → InFlight → Prop}
    {E op : Device → InFlight → Device} (hrun : ∀ w o p s, exec (c w o p) s = run w s (fun d => packet d o opcode p))
    (hop : measurementOrImage opcode = true) (hcarry : ∀ d x, x.opcode = opcode → carryOut d x = op d x)
    (hpart : ∀ d x, H d x → x.pkt.part ≠ 2) (heq : ∀ d x, H d x → op d x = E d x) : CommandEffect c opcode H E := by
  obtain ⟨hlt, habort, hconfig, hmotion⟩ := bounds_of_measurementOrImage hop
  refine commandEffect_of_packet hrun (fun {d o p d' vlans} hc hH => ?_)
  have hmain : p.part ≠ 2 := hpart _ _ hH
  rw [commits_run hc hlt habort (.inl hmain), if_neg hmain, forwards_of_not_shaft _ _ hconfig hmotion, hcarry _ _ rfl, heq _ _ hH]

/-- In the Cold Frame's partition such a command becomes a request, where the request FIFO has room (R384, R404). -/
theorem commandEffect_toCf {c : Nat → Origin → Pkt → Instr} {opcode : Nat} {H : Device → InFlight → Prop}
    (hrun : ∀ w o p s, exec (c w o p) s = run w s (fun d => packet d o opcode p)) (hop : measurementOrImage opcode = true)
    (hpart : ∀ d x, x.opcode = opcode → partFits x = true → H d x → x.pkt.part = 2)
    (hroom : ∀ d x, H d x → d.cf.reqs.length < 16) : CommandEffect c opcode H toCf := by
  obtain ⟨hlt, habort, -, -⟩ := bounds_of_measurementOrImage hop
  refine commandEffect_of_packet hrun (fun {d o p d' vlans} hc hH => ?_)
  have hcf : p.part = 2 := hpart _ _ rfl (partFits_of_header hc.header) hH
  have hlen : d'.cf.reqs.length < 16 := by simpa [taking] using hroom _ _ hH
  rw [commits_run hc hlt habort (.inr hlen), if_pos hcf]

/-- CF_IDENTITY and CF_AUDIT_READ fit no partition but the Cold Frame's (R468). -/
theorem part_of_cfOnly {c : InFlight} (hop : c.opcode = 0x0702 ∨ c.opcode = 0x0703) (hfit : partFits c = true) : c.pkt.part = 2 := by
  rcases hop with hop | hop <;> exact BitVec.eq_of_toNat_eq (by simpa [partFits, isImage, hop] using hfit)

/-! ### MEAS_JOB_START and MEAS_RESULT (R356, R360, R361) -/

/-- MEAS_JOB_START of a measuring mode with every word valid, at a meter that has no job and whose claims are free: the job is armed,
and the command completes with OK. -/
theorem opMeasJobStart_of_free {d : Device} {c : InFlight} {k : Nat} (hk : keyOfMeter (tgt c) = some k)
    (hvalid : measBad d k c.pkt.words = none) (hclaims : measHeld d (ownerOf c.origin) (measKeys k c.pkt.words) = none)
    (hfree : (meterOf d k).job = none) (hstart : pf c 0 3 0 ≠ 0) (hmeasure : pf c 0 3 0 ≠ 5) :
    opMeasJobStart d c = ok (armJob d k c.pkt.words (ownerOf c.origin) none) c := by
  simp [opMeasJobStart, hk, hvalid, hclaims, hfree, hstart, hmeasure]

/-- MEAS_RESULT for 1 to 16 records takes as many of the oldest as there are, and replies them after their number. -/
theorem opMeasResult_of_valid {d : Device} {c : InFlight} {k : Nat} (hk : keyOfMeter (tgt c) = some k) (hlo : 1 ≤ pf c 0 8 4)
    (hhi : pf c 0 8 4 ≤ 16) :
    opMeasResult d c =
      let l := (mtrQueue d k (pb c 0 0)).take (pf c 0 8 4)
      okWith (mtrTake d k (pb c 0 0) l.length) c (w32 l.length :: l.flatten) := by
  simp [opMeasResult, hk, Nat.one_le_iff_ne_zero.mp hlo, hhi]

/-- Settles O8, command by command: the packet's partition sends it to its own rule or to the Cold Frame, and the conditions name the
case of that rule. -/
theorem measurementAndColdFrameCommandsDoTheirWork : Obligations.MeasurementAndColdFrameCommandsDoTheirWork := by
  refine ⟨?jobStart, ?result, ?jobStartCf, ?resultCf, ?identity, ?auditRead, ?imageWrite, ?imageActivate⟩
  case jobStart =>
    refine commandEffect_outside_cf (op := opMeasJobStart) exec_measJobStart (by decide) (fun _ _ hx => by simp only [carryOut, hx])
      (fun _ _ h => h.1) ?_
    rintro d c ⟨-, k, hk, hvalid, hclaims, hfree, hstart, hmeasure⟩
    rw [opMeasJobStart_of_free hk hvalid hclaims hfree hstart hmeasure, hk, Option.getD_some]
  case result =>
    refine commandEffect_outside_cf (op := opMeasResult) exec_measResult (by decide) (fun _ _ hx => by simp only [carryOut, hx])
      (fun _ _ h => h.1) ?_
    rintro d c ⟨-, hmeter, hlo, hhi⟩
    obtain ⟨k, hk⟩ := Option.isSome_iff_exists.mp hmeter
    rw [opMeasResult_of_valid hk hlo hhi, hk, Option.getD_some]
  case jobStartCf => exact commandEffect_toCf exec_measJobStart (by decide) (fun _ _ _ _ h => h.1) (fun _ _ h => h.2)
  case resultCf => exact commandEffect_toCf exec_measResult (by decide) (fun _ _ _ _ h => h.1) (fun _ _ h => h.2)
  case identity =>
    exact commandEffect_toCf exec_cfIdentity (by decide) (fun _ _ hx hfit _ => part_of_cfOnly (.inl hx) hfit) (fun _ _ h => h)
  case auditRead =>
    exact commandEffect_toCf exec_cfAuditRead (by decide) (fun _ _ hx hfit _ => part_of_cfOnly (.inr hx) hfit) (fun _ _ h => h)
  case imageWrite => exact commandEffect_toCf exec_imageWrite (by decide) (fun _ _ _ _ h => h.1) (fun _ _ h => h.2)
  case imageActivate => exact commandEffect_toCf exec_imageActivate (by decide) (fun _ _ _ _ h => h.1) (fun _ _ h => h.2)

/-! ### Rows (R345 to R377) -/

/-- Rings that pass at a STANDIN meter a second or more after the last look: the look is noted, and the method stays (R346 row 3). -/
theorem ringCheck_of_passing {d : Device} {k pStart pStop : Nat} (hmethod : (meterOf d k).method = 3)
    (ht : (meterOf d k).ringAt + secTicks ≤ d.dev) (hrings : ringsOk pStart pStop = true) :
    ringCheck d k pStart pStop = modMeter d k (fun m => { m with ringAt := d.dev }) := by
  simp [ringCheck, hmethod, ht, hrings]

/-- Where ticks are delivered, an edge at any meter of a GLS-7340-MA goes to the meter's rule (R352). -/
theorem edgeIn_of_ticking {d : Device} (k : Nat) (rising : Bool) (c : Conv) (htick : ticking d = true) (hma : d.fuse.ma = true) :
    edgeIn d k rising c = meterEdge d k rising c := by
  simp [edgeIn, htick, hma]

/-- Settles O25, row by row: the row runs its meaning, by its view where it is a read, and the conditions name the case of it. -/
theorem meterRowsActOnTheirMeter : Obligations.MeterRowsActOnTheirMeter := by
  refine ⟨?calStart, fun m => ⟨fun r => ?calDone, fun mean rms => ?shadowBlock, fun a b => ?rings, fun rising c => ?edge,
    fun j => ?gateClose⟩, fun v first => ?recordRead⟩
  case calStart => exact effect_of_ticking exec_meterCalStart
  case calDone => exact effect_of_run (fun w s => exec_calDone w m r s) (fun d ⟨htick, _⟩ => onlyIf_of d _ htick)
  case shadowBlock => exact effect_of_run (fun w s => exec_shadowBlockEnd w m mean rms s) (fun d ⟨htick, _⟩ => onlyIf_of d _ htick)
  case rings =>
    refine effect_of_run (fun w s => exec_ringPeriodCheck w m a b s) ?_
    rintro d ⟨htick, hmethod, ht, hrings⟩
    rw [onlyIf_of _ _ htick, ringCheck_of_passing hmethod ht hrings]
  case edge =>
    refine effect_of_run (fun w s => exec_meterEdge w m rising c s) ?_
    rintro d ⟨htick, hma⟩
    exact edgeIn_of_ticking _ rising c htick hma
  case gateClose =>
    refine effect_of_run (fun w s => exec_measGateClose w m s) ?_
    rintro d ⟨htick, hjob⟩
    simp only [onlyIf_of _ _ htick, hjob]
  case recordRead =>
    refine effect_of_run (fun w s => exec_clkMtrRdW0 w v first s) ?_
    rintro d ⟨hopen, hfirst⟩
    exact removeRead_of_open _ _ (fun f => viewRead_of_open f hopen) hfirst

end Sys2Proof.Machine
end

section
/-! The rows of the Cold Frame under the conditions of their own-effect statements: for each rule, what it does in the case named. -/

namespace Sys2Proof.Machine

open Sys2Proof

/-! ### Requests and replies (R384, R385, R404) -/

/-- A running image with room for a reply takes the oldest request, and decides its command where that is in flight. -/
theorem cfTake_of_request {d : Device} {r : CfReq} {l : List CfReq} {c : InFlight} (hma : d.fuse.ma = true) (hrun : running d = true)
    (hup : d.cf.up = true) (hroom : d.cf.replies.length < 16) (hreqs : d.cf.reqs = r :: l) (hflight : inflightOf d r.seq = some c) :
    cfTake d = cfDecide (modCf d (fun f => { f with reqs := l })) c := by
  have hflight' : inflightOf (modCf d (fun f => { f with reqs := l })) r.seq = some c := hflight
  simp [cfTake, hma, hrun, hup, hroom, hreqs, hflight']

/-- ME0 takes the oldest reply out of the FIFO: its command completes with it, and the ABORT commands that wait for that end are told. -/
theorem cfRead_of_reply {d : Device} {q st : Nat} {ws : List Word} {l : List (Nat × Nat × List Word)} (hma : d.fuse.ma = true)
    (hrun : running d = true) (hreplies : d.cf.replies = (q, st, ws) :: l) :
    cfRead d = abortWaiters (complete (modCf d (fun f => { f with replies := l })) q st ws) q st := by
  simp [cfRead, hma, hrun, hreplies]

/-- Outside HALTED, CF_IDENTITY is answered with the identity words. -/
theorem cfDecide_identity {d : Device} {c : InFlight} (hhalt : cfHalted d = false) (hop : c.opcode = 0x0702) :
    cfDecide d c = cfReply d c stOk (identityWords d) := by
  simp only [cfDecide, hhalt, hop, Bool.false_eq_true, if_false]

/-- Outside HALTED, CF_AUDIT_READ goes by its own rule. -/
theorem cfDecide_auditRead {d : Device} {c : InFlight} (hhalt : cfHalted d = false) (hop : c.opcode = 0x0703) :
    cfDecide d c = cfAuditRead d c := by
  simp only [cfDecide, hhalt, hop, Bool.false_eq_true, if_false]

/-! ### Power loss (R403) -/

/-- VDD33 that falls lets the totals be written, and its moment is kept. -/
theorem cfPowerFail_of_powered {d : Device} (hma : d.fuse.ma = true) (hvdd : d.pwr.vdd33 = true) :
    cfPowerFail d = modCf (cfFinal d) (fun c => { c with failAt := some d.now }) := by
  simp only [cfPowerFail, hma, hvdd, Bool.and_self, if_true]

/-- Settles O26, row by row: the row runs its rule, and the conditions name the case of it; a decision goes by its opcode. -/
theorem coldFrameRowsActOnThePartition : Obligations.ColdFrameRowsActOnThePartition := by
  refine ⟨fun r l c => ?request, fun q st ws l => ?reply, fun _ _ => cfDecide_identity, fun _ _ => cfDecide_auditRead,
    fun a b => ?tamper, ?vbatLow, ?powerFail, ?lockstep, ?imageStart⟩
  case request =>
    exact effect_of_run exec_cfRequest
      (fun _ ⟨hma, hrun, hup, hroom, hreqs, hflight⟩ => cfTake_of_request hma hrun hup hroom hreqs hflight)
  case reply => exact effect_of_run exec_cfReplyRead (fun _ ⟨hma, hrun, hreplies⟩ => cfRead_of_reply hma hrun hreplies)
  case tamper => exact effect_of_run (fun w s => exec_tamperSample w a b s) (fun d ⟨hfed, _⟩ => onlyIf_of d _ hfed)
  case vbatLow => exact effect_of_run exec_vbatLow (fun _ _ => rfl)
  case powerFail => exact effect_of_run exec_cfPowerFail (fun _ ⟨hma, hvdd⟩ => cfPowerFail_of_powered hma hvdd)
  case lockstep => exact effect_of_run exec_lockstep (fun _ _ => rfl)
  case imageStart => exact effect_of_run exec_cfImageStart (fun _ _ => rfl)

end Sys2Proof.Machine
end

section
/-! Accesses that reach no register: reserved offsets, the Cold Frame's window, the PCIe view while it is closed, and its partial
writes. -/

namespace Sys2Proof.Machine

open Sys2Proof

/-! ### Reserved offsets and the Cold Frame's window (R405, R508) -/

/-- A word at a reserved offset is ignored. -/
theorem regWrite_reserved (d : Device) (v : View) {a : Nat} (x : Word) (hres : reserved a = true) : regWrite d v a x = d := by
  rw [regWrite, if_pos hres]

/-- No counter lies at a reserved offset. -/
theorem cntInfo_of_reserved {a : Nat} (hres : reserved a = true) : cntInfo a = none := by
  simp only [reserved, Bool.and_eq_true, Option.isNone_iff_eq_none] at hres
  exact hres.2

/-- A reserved offset below the Cold Frame's window reads zero. -/
theorem liveWord_reserved (d : Device) (v : View) {a : Nat} (hres : reserved a = true) (ha : a < 0x300000) : liveWord d v a = 0 := by
  simp [liveWord, cntInfo_of_reserved hres, hres, ha]

/-- From the Cold Frame's window on, BAR0 takes no word: every register with a rule of a write lies below. -/
theorem regWrite_above (d : Device) (v : View) {a : Nat} (x : Word) (ha : 0x300000 ≤ a) : regWrite d v a x = d := by
  have hblock : ∀ n, n ≤ 0x300000 → ¬ a < n := by omega
  have hreg : ∀ n, n < 0x300000 → a ≠ n := by omega
  simp [regWrite, hblock, hreg, inFlt, Reg.RED_GRAFT_CTL, Reg.RED_GRAFT_FORCE, Reg.RED_GRAFT_FORCE_N, Reg.QUEG_POOL_CFG, Reg.FWD_SEL,
    Reg.FWD_CLR]

/-! ### The PCIe view (R505, R609) -/

/-- A view that cannot write changes nothing. -/
theorem access_of_closed {d : Device} {v : View} (a : Nat) (acc : Access) (hclosed : viewOpen d v = false) : access d v a acc = d := by
  simp only [access, hclosed, Bool.not_false, if_true]

/-- Before core ready and outside recovery the PCIe view is closed. -/
theorem pcieOpen_of_not_ready {d : Device} (hready : coreReady d = false) (hrec : recovery d = false) : pcieOpen d = false := by
  simp only [pcieOpen, hready, hrec, Bool.or_self, Bool.and_false]

/-- From the root PLL's lock to core ready a PCIe read is answered with all ones, at whatever offset. -/
theorem readAccess_pcie_of_not_ready {d : Device} (a : Nat) (hrun : running d = true) (hready : coreReady d = false)
    (hrec : recovery d = false) : readAccess d .pcie a = emit d (.read [0xFFFFFFFF]) := by
  have hclosed : viewOpen d .pcie = false := pcieOpen_of_not_ready hready hrec
  simp [readAccess, hclosed, closedRead, hrun, hready, hrec]

/-- A partial write of a BAR0 word through the open PCIe view is refused. -/
theorem access_partialBytes_pcie {d : Device} {a : Nat} (b : Word) (hopen : pcieOpen d = true) (ha : a < 2 ^ 24) :
    access d .pcie a (.partialBytes b) = accessErr d .pcie a := by
  have hview : viewOpen d .pcie = true := hopen
  have hbar : ¬ 2 ^ 24 ≤ a := Nat.not_le.mpr ha
  simp only [access, hview, Bool.not_true, Bool.false_eq_true, if_false, if_neg hbar]
  rfl

/-- A refused access notes its offset and raises ACCESS_ERR, and changes nothing else. -/
theorem accessErr_same (d : Device) (v : View) (a : Nat) : SameButRegs [Reg.GLB_ACC_ADDR, Reg.GLB_EVENT] d (accessErr d v a) :=
  same_trans (same_wr d _ (by simp)) (same_event _ 4 (by simp))

/-- A refused access raises ACCESS_ERR. -/
theorem flag_accessErr (d : Device) (v : View) (a : Nat) : flag (accessErr d v a) Reg.GLB_EVENT 4 = true :=
  flag_event _ _ _ (by decide)

/-- Settles O48, clause by clause: what the write, the live word, the view's access and the refusal do where no register is reached. -/
theorem someAccessesReachNoRegister : Obligations.SomeAccessesReachNoRegister := by
  refine ⟨fun d v _ x hres => regWrite_reserved d v x hres, fun d v _ hres ha => liveWord_reserved d v hres ha,
    fun d v _ x ha _ => regWrite_above d v x ha, fun _ a acc hclosed => access_of_closed a acc hclosed,
    fun _ a hrun hready hrec => readAccess_pcie_of_not_ready a hrun hready hrec, fun d a b hopen ha => ?refused⟩
  case refused =>
    rw [access_partialBytes_pcie b hopen ha]
    exact ⟨accessErr_same d .pcie a, flag_accessErr d .pcie a⟩

end Sys2Proof.Machine
end

section
/-! Steps and the queue: every step answers a next state, and the commands of the queue are carried out one after another. -/

namespace Sys2Proof.Machine

open Sys2Proof

/-- Settles O40, by induction on the number of steps: each answers a next state (no row of the model stops), from which the rest of the
run goes on. -/
theorem everyRunIsSafe : Obligations.EveryRunIsSafe := by
  intro n
  induction n with
  | zero => exact fun _ => rfl
  | succ n ih =>
    intro s
    obtain ⟨f, hf⟩ := step_next s
    simpa only [SafeRun, stepN, hf] using ih _

/-- What a command does to the device is the same whatever waits behind it, and what waits stays. -/
theorem exec_eq_devAfter (c : Instr) (rest : List Instr) (d : Device) :
    some (exec c ⟨rest, d⟩) = (devAfter c d).map (fun e => .next ⟨rest, e⟩) := by
  cases c <;> rfl

/-- A step of a queue carries out its front command on the device and takes that command's ticks. -/
theorem step_devAfter (c : Instr) (rest : List Instr) (d : Device) :
    ∃ e : Device, step ⟨c :: rest, d⟩ = .next ⟨rest, e⟩ ∧ devAfter c d = some e ∧ e.now = d.now + c.ticks := by
  obtain ⟨f, hf⟩ := exec_run c ⟨rest, d⟩
  have halone := exec_eq_devAfter c rest d
  rw [hf] at halone
  obtain ⟨e, he, hnext⟩ := Option.map_eq_some_iff.mp halone.symm
  refine ⟨e, (step_cons c rest d).trans (hf.trans hnext.symm), he, ?_⟩
  cases hnext
  exact after_now _ _ _

/-- Settles O41, by induction on the commands at the front: the first does to the device what it does alone, and the others go on from
what it leaves (that their ticks add up is the model's choice, log 3). -/
theorem theQueueIsFirstInFirstOut : Obligations.TheQueueIsFirstInFirstOut := by
  intro cs rest
  induction cs with
  | nil => exact fun d => ⟨⟨rest, d⟩, rfl, rfl, rfl, rfl⟩
  | cons c cs ih =>
    intro d
    obtain ⟨e, hstep, halone, hnow⟩ := step_devAfter c (cs ++ rest) d
    obtain ⟨t, hrun, hpending, hall, htime⟩ := ih e
    refine ⟨t, ?_, hpending, ?_, ?_⟩
    · simp only [List.length_cons, stepN, List.cons_append, hstep, hrun]
    · rw [devAfterAll, halone, Option.bind_some, hall]
    · rw [htime, hnow, List.map_cons, List.sum_cons, Nat.add_assoc]

/-- Settles O36: the dispatch of a step. -/
theorem stepRunsTheFrontCommand : Obligations.StepRunsTheFrontCommand := step_cons

end Sys2Proof.Machine
end

section
/-! A device held in power-on reset: its clocks do not run, its views are closed, and each row that does not act on a device in reset
leaves it as it finds it: `f_of_held` says so of the row, or the rule, f. -/

namespace Sys2Proof.Machine

open Sys2Proof

section Held

variable {d : Device} (hd : d.pwr.resetHeld = true)
include hd

/-! ### What is closed in reset -/

/-- In reset neither clocks nor ticks run, and no access of PCIe is taken. -/
theorem gates_of_held : running d = false ∧ ticking d = false ∧ pcieOpen d = false := by
  simp [ticking, pcieOpen, running, hd]

/-- An update that asks for what reset takes away is not made. -/
theorem onlyIf_of_held {b : Bool} (f : Device → Device)
    (hb : (running d = false ∧ ticking d = false ∧ pcieOpen d = false) → b = false) : onlyIf b d f = d := by
  rw [hb (gates_of_held hd), onlyIf_false]

/-- An update that asks for a device outside reset is not made. -/
theorem onlyIf_of_resetHeld {b : Bool} (f : Device → Device) (hb : d.pwr.resetHeld = true → b = false) : onlyIf b d f = d := by
  rw [hb hd, onlyIf_false]

/-- No write of a view reaches the registers. -/
theorem viewWrite_of_held (v : View) (a : Nat) (f : Device → Device) : viewWrite d v a f = d := by
  cases v <;> simp [viewWrite, gates_of_held hd]

/-- No read of a view reaches the registers, and PCIe is not even answered. -/
theorem viewRead_of_held (v : View) (f : Device → Device) : viewRead d v f = d := by
  cases v <;> simp [viewRead, closedRead, gates_of_held hd]

/-- Nor does a read that removes what it reads. -/
theorem removeRead_of_held (v : View) (a : Nat) (first : Bool) (take : Device → List Word × Device) :
    removeRead d v a first take = d := viewRead_of_held hd v _

/-- No view is open. -/
theorem viewOpen_of_held (v : View) : viewOpen d v = false := by
  simp [viewOpen, gates_of_held hd]

/-- No access of a view is taken. -/
theorem access_of_held (v : View) (a : Nat) (acc : Access) : access d v a acc = d :=
  access_of_closed a acc (viewOpen_of_held hd v)

/-- No read of a view is answered. -/
theorem readAccess_of_held (v : View) (a : Nat) : readAccess d v a = d := by
  simp [readAccess, closedRead, viewOpen_of_held hd, gates_of_held hd]

/-! ### Commands and applets -/

/-- The command front end is closed to every origin. -/
theorem frontOpen_of_held (o : Origin) : frontOpen d o = false := by
  simp [frontOpen, gates_of_held hd]

/-- A port takes no frame. -/
theorem receiveFrame_of_held (p : Fin 40) (f : RxFrame) : receiveFrame d p f = d := by
  simp [receiveFrame, receive, gates_of_held hd]

/-- Brely takes no command. -/
theorem brelyCommandFrame_of_held (f : List Byte) : brelyCommandFrame d f = d := by
  simp [brelyCommandFrame, gates_of_held hd]

/-- No applet is served. -/
theorem service_of_held (e : Nat) (f : Device → Device) : service d e f = d := by
  simp [service, gates_of_held hd]

/-- No transport takes a packet. -/
theorem packet_of_held (o : Origin) (opcode : Nat) (p : Pkt) : packet d o opcode p = d := by
  cases o with
  | ring k => simp [packet, ringIssue, gates_of_held hd]
  | spi => simp [packet, mbxIssue, gates_of_held hd]
  | inband n mac => exact receiveFrame_of_held hd n _
  | brely => exact brelyCommandFrame_of_held hd _
  | applet e => simp [packet, frontOpen_of_held hd]
  | firmware => simp [packet, frontOpen_of_held hd]

/-- No fence wait ends. -/
theorem fenceEnd_of_held (c : InFlight) : fenceEnd d c = d := by
  simp [fenceEnd, gates_of_held hd]

/-- No command in flight is found timed out. -/
theorem tagged_running_of_held (o : Origin) (tag : BitVec 10) (p : InFlight → Bool) :
    tagged d o tag (fun c => running d && p c) = none := by
  simp [tagged, gates_of_held hd]

/-- No applet that waits wakes. -/
theorem waitWake_of_held (e : Nat) : waitWake d e = d := by
  simp only [waitWake, gates_of_held hd, Bool.false_and, Bool.false_eq_true, if_false]
  split <;> rfl

/-! ### Ladders, lanes and ports -/

/-- No ladder runs. -/
theorem ladderRuns_of_held (n : Nat) : ladderRuns d n = false := by
  simp [ladderRuns, gates_of_held hd]

theorem ladderRepeat_of_held (n : Nat) : ladderRepeat d n = d := by
  simp only [ladderRepeat, ladderRuns_of_held hd, Bool.false_and, Bool.false_eq_true, if_false]
  split <;> rfl

theorem offerOver_of_held (n : Nat) : offerOver d n = d := by
  simp [offerOver, ladderRuns_of_held hd]

theorem adaptOver_of_held (n : Nat) : adaptOver d n = d := by
  simp [adaptOver, ladderRuns_of_held hd]

theorem reportOver_of_held (n : Nat) : reportOver d n = d := by
  simp [reportOver, ladderRuns_of_held hd]

theorem switchOver_of_held (n : Nat) : switchOver d n = d := by
  simp only [switchOver, ladderRuns_of_held hd, Bool.false_and, Bool.false_eq_true, if_false]
  split <;> rfl

theorem windowEnd_of_held (n : Nat) (hist : List (List Nat)) : windowEnd d n hist = d := by
  simp [windowEnd, gates_of_held hd]

theorem cdrLoss_of_held (n : Nat) : cdrLoss d n = d := by
  simp [cdrLoss, gates_of_held hd]

theorem cdrGain_of_held (n : Nat) (ppb : Int) : cdrGain d n ppb = d := by
  simp [cdrGain, gates_of_held hd]

theorem entryDone_of_held (n : Nat) (dir : Dir) : entryDone d n dir = d := by
  simp [entryDone, gates_of_held hd]

theorem laneWoken_of_held (n : Nat) (dir : Dir) : laneWoken d n dir = d := by
  simp [laneWoken, gates_of_held hd]

theorem checker_of_held (n : Nat) (lock : Bool) (errors : Nat) : checker d n lock errors = d := by
  simp [checker, gates_of_held hd]

/-- No phase is measured. -/
theorem phaseRuns_of_held (n : Nat) : phaseRuns d n = false := by
  simp [phaseRuns, gates_of_held hd]

theorem slipAt_of_held (n dfs : Nat) : slipAt d n dfs = d := by
  simp [slipAt, phaseRuns_of_held hd]

theorem acqTimer_of_held (n : Nat) : acqTimer d n = d := by
  simp only [acqTimer, phaseRuns_of_held hd, Bool.false_and, Bool.false_eq_true, if_false]
  split <;> rfl

theorem windowPublish_of_held (n : Nat) (u rate : Int) : windowPublish d n u rate = d := by
  simp [windowPublish, phaseRuns_of_held hd]

theorem markerPeriod_of_held (n : Nat) (diff : Int) : markerPeriod d n diff = d := by
  simp [markerPeriod, gates_of_held hd]

theorem txMisaligned_of_held (n : Nat) : txMisaligned d n = d := by
  simp [txMisaligned, gates_of_held hd]

theorem kUpdate_of_held (n : Nat) (tj : Int) : kUpdate d n tj = d := by
  simp [kUpdate, gates_of_held hd]

/-- No port runs. -/
theorem portRuns_of_held (n : Nat) : portRuns d n = false := by
  simp [portRuns, gates_of_held hd]

theorem linkCause_of_held (n : Nat) (c : LinkCause) : linkCause d n c = d := by
  simp [linkCause, portRuns_of_held hd]

theorem holdOver_of_held (n : Nat) : holdOver d n = d := by
  simp only [holdOver, gates_of_held hd, Bool.false_and, Bool.false_eq_true, if_false]
  split <;> rfl

theorem recoveryFail_of_held (n : Nat) : recoveryFail d n = d := by
  simp only [recoveryFail, gates_of_held hd, Bool.false_and, Bool.false_eq_true, if_false]
  split <;> rfl

theorem drainOver_of_held (n : Nat) : drainOver d n = d := by
  simp only [drainOver, gates_of_held hd, Bool.false_and, Bool.false_eq_true, if_false]
  split <;> rfl

theorem pcsAlign_of_held (n : Nat) : pcsAlign d n = d := by
  simp [pcsAlign, portRuns_of_held hd]

theorem anEnd_of_held (n rate : Nat) (fec : Bool) : anEnd d n rate fec = d := by
  simp [anEnd, portRuns_of_held hd]

/-- No L1Sync machine runs. -/
theorem l1Runs_of_held (n : Nat) : l1Runs d n = false := by
  simp [l1Runs, gates_of_held hd]

theorem tlvIn_of_held (n flags : Nat) : tlvIn d n flags = d := by
  simp [tlvIn, l1Runs_of_held hd]

theorem tlvOut_of_held (n : Nat) : tlvOut d n = d := by
  simp [tlvOut, l1Runs_of_held hd]

theorem tlvTmo_of_held (n : Nat) : tlvTmo d n = d := by
  simp [tlvTmo, l1Runs_of_held hd]

/-! ### The switch core -/

theorem hostInject_of_held (pre : List Word) (bytes : List Byte) : hostInject d pre bytes = d := by
  simp [hostInject, gates_of_held hd]

theorem planeLink_of_held (pl : Nat) (ram : Option RamErr) : planeLink d pl ram = d := by
  simp [planeLink, gates_of_held hd]

theorem gapOver_of_held (o src tc : Nat) : gapOver d o src tc = d := by
  simp [gapOver, gates_of_held hd]

theorem ageExamine_of_held (o tc : Nat) (timed : Bool) : ageExamine d o tc timed = d := by
  simp [ageExamine, gates_of_held hd]

theorem fdbAge_of_held (b w : Nat) : fdbAge d b w = d := by
  simp only [fdbAge, gates_of_held hd, Bool.false_and, Bool.false_eq_true, if_false]
  split <;> rfl

theorem recoveryReset_of_held (i : Nat) : recoveryReset d i = d := by
  simp only [recoveryReset, gates_of_held hd, Bool.false_and, Bool.false_eq_true, if_false]
  split <;> rfl

theorem wireEnd_of_held (o : Nat) (ram : Option RamErr) : wireEnd d o ram = d := by
  simp [wireEnd, gates_of_held hd]

theorem brelyFrame_of_held (f : List Byte) : brelyFrame d f = d := by
  simp [brelyFrame, gates_of_held hd]

/-! ### Clocks, sides and the Cold Frame -/

theorem rootLock_of_held : rootLock d = d := by simp [rootLock, hd]

theorem oscReturn_of_held : oscReturn d = d := by simp [oscReturn, hd]

theorem restart_of_held : restart d = d := by simp [restart, hd]

theorem synLock_of_held (x : Nat) : synLock d x = d := by simp [synLock, hd]

theorem synUnlock_of_held (x : Nat) : synUnlock d x = d := by
  simp [synUnlock, gates_of_held hd]

theorem ppsPulse_of_held : ppsPulse d = d := by
  simp [ppsPulse, gates_of_held hd]

theorem alignedSet_of_held (fs : Int) : alignedSet d fs = d := by
  simp [alignedSet, gates_of_held hd]

theorem alignedLost_of_held (fs : Int) : alignedLost d fs = d := by
  simp [alignedLost, gates_of_held hd]

theorem cfTake_of_held : cfTake d = d := by
  simp [cfTake, gates_of_held hd]

theorem cfRead_of_held : cfRead d = d := by
  simp [cfRead, gates_of_held hd]

theorem cfLockstep_of_held : cfLockstep d = d := by
  simp [cfLockstep, gates_of_held hd]

theorem cfStart_of_held : cfStart d = d := by
  simp [cfStart, gates_of_held hd]

/-! ### Interrupts, parity and resets -/

theorem coalExpiry_of_held (k : Fin 4) : coalExpiry d k = d := by
  simp [coalExpiry, gates_of_held hd]

theorem parityVisit_of_held (a : Nat) (upset : Bool) : parityVisit d a upset = d := by
  simp only [parityVisit, gates_of_held hd, Bool.not_false, Bool.true_or, if_true]
  split <;> rfl

theorem resetLow_of_held (ticks : Nat) : resetLow d ticks = d := by simp [resetLow, hd]

theorem fundamentalReset_of_held : fundamentalReset d = d := by simp [fundamentalReset, hd]

end Held

end Sys2Proof.Machine
end

section
/-! Noninterference of a held reset: what a step is where the row leaves the device, and every row that does. -/

namespace Sys2Proof.Machine

open Sys2Proof

/-- In reset only the wall clock runs. -/
theorem wait_of_held (w : Nat) {d : Device} (hd : d.pwr.resetHeld = true) : wait w d = { d with now := d.now + w } := by
  obtain rfl | hw := Nat.eq_zero_or_pos w
  · rfl
  · have hkeeper : wallWait w d = { d with now := d.now + w } := by simp [wallWait, keeperRun, hd]
    have hrun : running ({ d with now := d.now + w } : Device) = false := by simp [running, hd]
    rw [wait_eq d hw, hkeeper, hrun, if_neg Bool.false_ne_true]

/-- A row finds a device held in reset as it was, later. -/
theorem before_of_held (w : Nat) {d : Device} (h : heldInReset d) : before w d = { d with now := d.now + w } := by
  obtain ⟨hd, hmoves, hshears⟩ := h
  simp [before, wait_of_held w hd, react, hmoves, shearsBound, hshears]

/-- A device held in reset does nothing of itself. -/
theorem settle_of_held {d : Device} (hd : d.pwr.resetHeld = true) (hmoves : d.moves = []) : settle d = d := by
  simp [settle, react, hmoves, gates_of_held hd]

/-- A row whose effect leaves every device held in reset takes its time, and that is all. -/
theorem run_of_held {w : Nat} {s : State} {f : Device → Device} (h : heldInReset s.dev)
    (hf : ∀ d : Device, d.pwr.resetHeld = true → f d = d) :
    run w s f = .next { s with dev := { s.dev with now := s.dev.now + w } } := by
  have ⟨hd, hmoves, _⟩ := h
  have hlater : ({ s.dev with now := s.dev.now + w } : Device).pwr.resetHeld = true := hd
  rw [run, before_of_held w h, hf _ hlater, after, settle_of_held hlater hmoves, wait_of_held w hd]

/-- Settles O42, row by row: what the row does leaves a device in reset as it is. That RESET_N does nothing in a held reset is log 61;
that a row takes its ticks and nothing else passes the time is log 3. -/
theorem nothingReachesADeviceInReset : Obligations.NothingReachesADeviceInReset := by
  intro c s h hacts
  -- `dsimp` turns each row into its run, by the lemmas of Laws/Rows
  cases c with dsimp
  | powerOnResetRelease | brownOut | wakeN | wakeTimer | dormantRailsKept | tamperSample | vbatLow | cfPowerFail | meterEdge =>
    simp [Instr.actsInReset] at hacts
  -- the commands, by their transports
  | devInfo | functionReset | setLatencyTolerance | abort | fence | portConfig | portEnable | portDisable | portStatus | laneLadder
  | portRegang | fdbWrite | fdbRead | streamIdWrite | mcastGroupWrite | queueConfig | gateListLoad | gateListSwap | timedLaunch
  | tbRead | tbSet | tbStep | tbSetIncr | ptpPortConfig | asymSet | trellisTableLoad | trellisForce | trellisStatus | dcoSteer
  | measJobStart | measResult | cfIdentity | cfAuditRead | shaftConfig | shaftMotion | syncPinClaim | syncPinRelease | appletLoad
  | appletStart | appletStop | pmcConfig | faultRead | faultAck | faultInjectArm | claimStatus | sidePrefer | graftJoin | graftLeave
  | bankRetire | bankRestore | imageWrite | imageActivate => exact run_of_held h fun _ hd => packet_of_held hd _ _ _
  | brelyCommand => exact run_of_held h fun _ hd => brelyCommandFrame_of_held hd _
  | fenceWaitEnd =>
    refine run_of_held h fun _ hd => ?_
    split
    · exact fenceEnd_of_held hd _
    · rfl
  | timeout => exact run_of_held h fun _ hd => by rw [tagged_running_of_held hd]
  | timeRead | waitUntil | frameSend | msgPut | msgGet | command | pmcRead | wdtKick | exit =>
    exact run_of_held h fun _ hd => service_of_held hd _ _
  | waitUntilWake => exact run_of_held h fun _ hd => waitWake_of_held hd _
  -- the accesses of the views
  | cmdSqDoorbell | cmdRingReset | cmdCqHeadWrite | adaptRestart | fomMinClr | lanePwrWrite | laneTxeqWrite | prbsCtlWrite
  | portAlphaHiWrite | linkRestart | l1CfgWrite | quegPoolCfgWrite | tbIncrLoWrite | tbIncrHiWrite | tbEnableWrite | snap
  | coreDivReq | toFull | fromFullClear | globalEn | pmcSmpCtlWrite | glbSrcEnWrite | glbLock | glbDevReset | glbDormant
  | fltShearsReq | fltShearsRel | redGraftForce | fwdSelWrite | fwdClr | rearm | fltPinWrite | pairHoldClr =>
    exact run_of_held h fun _ hd => viewWrite_of_held hd _ _ _
  | tbCapRead | clkMtrRdW0 | pmcSmpRead => exact run_of_held h fun _ hd => removeRead_of_held hd _ _ _ _
  | registerWrite => exact run_of_held h fun _ hd => access_of_held hd _ _ _
  | eventClear => exact run_of_held h fun _ hd => by rw [onlyIf, access_of_held hd, ite_self]
  | groupLowWordRead => exact run_of_held h fun _ hd => readAccess_of_held hd _ _
  -- the rows that ask for running clocks or ticks, or for a device outside reset, and nothing else first
  | cmdMbxWdata | submit | discard | cmdMbxRdata | linkOkHeld | bankRetired | bankTestDone | bankRateWindow | slewDone | coreDivDone
  | synSlewMove | shearsEnter | appletStopped | ppFail | fwdSnapshotDone | fltWriteRequest | brelyClaimSend | brelyClaimRx
  | claimPinRx | brelyPathTmo | pinPathTmo | restoreHoldEnd | mirrorRecordSend | mirrorDone | handoverTmo | flashProgrammingDone
  | lowPowerWakeDone | diverged | pcieLinkUp | freeListAudit | safetySelfcheck =>
    exact run_of_held h fun _ hd => onlyIf_of_held hd _ fun g => g.1
  | selectionPoint | timedLaunchReady | launchTick | launchDrop | gateBoundary | gateSwapped | scheduledStep | qualTimer | wtrTimer
  | holdoffElapsed | acqTmo | xchkSecond | ppsPulseEnd | meterCalStart | calDone | shadowBlockEnd | ringPeriodCheck | measGateClose
  | shaftInjection | syncPinEdge | haltFrameDone | tendedRelease => exact run_of_held h fun _ hd => onlyIf_of_held hd _ fun g => g.2.1
  | coarseSweepDone | txRealign | drainQueuesEmpty | trellisLoopUpdate | driftWindowEnd | modelSample | holdoverDcoWrite | ptpOffset
  | lockmonRefresh | violation | wdtExpired | me1Wdt | mirrorRecordRx | safetySelfcheckPass | mainImageVerified | coreReady
  | presenceLost | ladderOfferRx | ladderStepRx | ladderStepAckRx | ladderReportRx | ladderFinalRx | ladderFinalAckRx
  | ladderAbandonRx =>
    exact run_of_held h fun _ hd => onlyIf_of_held hd _ fun ⟨hrun, htick, _⟩ => by simp only [hrun, htick, Bool.false_and]
  | rootUnlock | oscLoss | faultPulseEnd | factoryModeEnd | claimPinSend | lastGasp =>
    exact run_of_held h fun _ hd => onlyIf_of_resetHeld hd _ fun g => by simp only [g, Bool.not_true, Bool.and_false, Bool.false_and]
  -- each other row by its own rule
  | coalUsExpiry => exact run_of_held h fun _ hd => coalExpiry_of_held hd _
  | ladderRepeat => exact run_of_held h fun _ hd => ladderRepeat_of_held hd _
  | offerTmo => exact run_of_held h fun _ hd => offerOver_of_held hd _
  | adaptTmo => exact run_of_held h fun _ hd => adaptOver_of_held hd _
  | adaptReportTmo => exact run_of_held h fun _ hd => reportOver_of_held hd _
  | ladderSwitchDelay => exact run_of_held h fun _ hd => switchOver_of_held hd _
  | laneWindowEnd => exact run_of_held h fun _ hd => windowEnd_of_held hd _ _
  | cdrLost => exact run_of_held h fun _ hd => cdrLoss_of_held hd _
  | cdrLock => exact run_of_held h fun _ hd => cdrGain_of_held hd _ _
  | lanePowerEntryDone => exact run_of_held h fun _ hd => entryDone_of_held hd _ _
  | laneWakeDone => exact run_of_held h fun _ hd => laneWoken_of_held hd _ _
  | chkLock => exact run_of_held h fun _ hd => checker_of_held hd _ _ _
  | slip => exact run_of_held h fun _ hd => slipAt_of_held hd _ _
  | phaseAcqTimer => exact run_of_held h fun _ hd => acqTimer_of_held hd _
  | phaseWindowPublish => exact run_of_held h fun _ hd => windowPublish_of_held hd _ _ _
  | skewMarkerPeriod => exact run_of_held h fun _ hd => markerPeriod_of_held hd _ _
  | txAlignErr => exact run_of_held h fun _ hd => txMisaligned_of_held hd _
  | kTempUpdate => exact run_of_held h fun _ hd => kUpdate_of_held hd _ _
  | rxFrame => exact run_of_held h fun _ hd => receiveFrame_of_held hd _ _
  | linkFault => exact run_of_held h fun _ hd => linkCause_of_held hd _ _
  | downHoldElapsed => exact run_of_held h fun _ hd => holdOver_of_held hd _
  | recoveryAttemptFail => exact run_of_held h fun _ hd => recoveryFail_of_held hd _
  | drainTmo => exact run_of_held h fun _ hd => drainOver_of_held hd _
  | pcsAligned => exact run_of_held h fun _ hd => pcsAlign_of_held hd _
  | anDone => exact run_of_held h fun _ hd => anEnd_of_held hd _ _ _
  | l1SyncTlvRx => exact run_of_held h fun _ hd => tlvIn_of_held hd _ _
  | l1SyncTlvSend => exact run_of_held h fun _ hd => tlvOut_of_held hd _
  | l1SyncReceiptTmo => exact run_of_held h fun _ hd => tlvTmo_of_held hd _
  | hostFrameInject => exact run_of_held h fun _ hd => hostInject_of_held hd _ _
  | frameLink => exact run_of_held h fun _ hd => planeLink_of_held hd _ _
  | rakeGap => exact run_of_held h fun _ hd => gapOver_of_held hd _ _ _
  | ageDrop => exact run_of_held h fun _ hd => ageExamine_of_held hd _ _ _
  | fdbAgeing => exact run_of_held h fun _ hd => fdbAge_of_held hd _ _
  | recoveryResetTmo => exact run_of_held h fun _ hd => recoveryReset_of_held hd _
  | txComplete => exact run_of_held h fun _ hd => wireEnd_of_held hd _ _
  | brelyFrameRx => exact run_of_held h fun _ hd => brelyFrame_of_held hd _
  | rootPllLock => exact run_of_held h fun _ hd => rootLock_of_held hd
  | oscReturn => exact run_of_held h fun _ hd => oscReturn_of_held hd
  | restarted => exact run_of_held h fun _ hd => restart_of_held hd
  | synLock => exact run_of_held h fun _ hd => synLock_of_held hd _
  | synUnlock => exact run_of_held h fun _ hd => synUnlock_of_held hd _
  | ppsOutPulse => exact run_of_held h fun _ hd => ppsPulse_of_held hd
  | alignedTimer => exact run_of_held h fun _ hd => alignedSet_of_held hd _
  | alignLost => exact run_of_held h fun _ hd => alignedLost_of_held hd _
  | cfRequest => exact run_of_held h fun _ hd => cfTake_of_held hd
  | cfReplyRead => exact run_of_held h fun _ hd => cfRead_of_held hd
  | lockstep => exact run_of_held h fun _ hd => cfLockstep_of_held hd
  | cfImageStart => exact run_of_held h fun _ hd => cfStart_of_held hd
  | parityScan => exact run_of_held h fun _ hd => parityVisit_of_held hd _ _
  | resetN => exact run_of_held h fun _ hd => resetLow_of_held hd _
  | pcieFundamentalReset => exact run_of_held h fun _ hd => fundamentalReset_of_held hd

end Sys2Proof.Machine
end

section
/-! The own effects of rows that a running device takes and of writes of the views, said once. -/

namespace Sys2Proof.Machine

open Sys2Proof

/-- A row that a running device takes has the own effect that it then makes. -/
theorem effect_of_running {c : Nat → Instr} {f : Device → Device}
    (hrun : ∀ w s, exec (c w) s = run w s (fun d => onlyIf (running d) d f)) : Effect c (fun d => running d = true) f :=
  effect_of_run hrun (fun d h => onlyIf_of d f h)

/-- A write of a view has the own effect that it makes where the view's writes reach the registers. -/
theorem effect_of_viewWrite {c : Nat → Instr} {v : View} {a : Nat} {f : Device → Device}
    (hrun : ∀ w s, exec (c w) s = run w s (fun d => viewWrite d v a f)) : Effect c (fun d => reaches d v = true) f :=
  effect_of_run hrun (fun _ h => viewWrite_of_reaches a f h)

end Sys2Proof.Machine
end

section
/-! The shaft, pin and engine commands under the conditions of their own-effect statements: for each command's rule, what it does in the
case named. -/

namespace Sys2Proof.Machine

open Sys2Proof

/-! ### Shafts (R409, R419, R575) -/

/-- A shaft command's own effect is that of its rule, op, and the forwarding that follows it (R575), where op and E agree. -/
theorem commandEffect_of_shaft {c : Nat → Origin → Pkt → Instr} {opcode : Nat} {H : Device → InFlight → Prop}
    {E op : Device → InFlight → Device} (hrun : ∀ w o p s, exec (c w o p) s = run w s (fun d => packet d o opcode p))
    (hshaft : opcode = 0x0800 ∨ opcode = 0x0801) (hcarry : ∀ d x, x.opcode = opcode → carryOut d x = op d x)
    (heq : ∀ d x, H d x → op d x = E d x) :
    CommandEffect c opcode H (fun d c => forwards (E d c) c (cnt d (Reg.CMD_CNT 1))) := by
  refine commandEffect_of_packet hrun (fun {d o p d' vlans} hc hH => ?_)
  have hfit : partFits (taken d' o opcode p vlans) = true := partFits_of_header hc.header
  have hmain : p.part ≠ 2 := by
    intro hpart
    rcases hshaft with rfl | rfl <;> simp [partFits, isImage, taken, hpart] at hfit
  rw [commits_run hc (by omega) (by omega) (.inl hmain), if_neg hmain, hcarry _ _ rfl, heq _ _ hH]

/-- SECTION 7 carries no section: the shaft is as it was. -/
theorem withSection_seven {c : InFlight} (hsec : pf c 0 2 0 = 7) : withSection c = fun h => h := by
  funext h
  simp only [withSection, hsec]

/-- SHAFT_CONFIG of SECTION 7 that enables a DISABLED shaft, which is whole and whose work fits. -/
theorem opShaftConfig_of_enabling {d : Device} {c : InFlight} (hsec : pf c 0 2 0 = 7) (hturn : pb c 0 4 = true)
    (hen : pb c 0 5 = true) (hst : shSt d (unitBed (tgt c)) = 0) (hwhole : wholeOk d (shaftOf d (unitBed (tgt c))) = true)
    (hwork : workFits (shaftOf d (unitBed (tgt c))) (positionPins d (unitBed (tgt c)) 16) = true) :
    opShaftConfig d c = ok (shaftEnable (modShaft d (unitBed (tgt c)) (fun h => h)) (unitBed (tgt c))) c := by
  have hwrite : writeSection d c (unitBed (tgt c)) = modShaft d (unitBed (tgt c)) (fun h => h) := by
    simp only [writeSection, withSection_seven hsec, hsec]
  simp [opShaftConfig, sectionBad, touchesEngaged, hwrite, withSection_seven hsec, hsec, hturn, hen, hst, hwhole, hwork]

/-- SHAFT_MOTION of OP 1 at a RUNNING shaft is queued for the cycle that it replies. -/
theorem opShaftMotion_of_running {d : Device} {c : InFlight} (hvalid : motionBad d c (unitBed (tgt c)) = none)
    (hop : pf c 0 2 0 = 1) (hst : shSt d (unitBed (tgt c)) = 1) :
    opShaftMotion d c =
      okWith (modShaft d (unitBed (tgt c)) (fun h =>
        { h with motions := h.motions ++ [{ k := firstApply d (unitBed (tgt c)), op := 1, words := c.pkt.words }] })) c
        [w32 (firstApply d (unitBed (tgt c)))] := by
  simp [opShaftMotion, hvalid, hop, hst]

/-! ### Pins (R428, R429, R434, R435) -/

/-- SYNC_PIN_CLAIM of an output function at a pin that is free for its origin, out of Shears: the pin takes the function. -/
theorem opSyncPinClaim_of_output {d : Device} {c : InFlight} (hvalid : claimBad d c = none)
    (hfree : pinFree d (pinOfUnit (tgt c)) (ownerOf c.origin) = true) (hfn : inRange (pf c 0 2 0) 1 3 = true)
    (happ : appends d c (pinOfUnit (tgt c)) = false) (hshears : shears d = false) :
    opSyncPinClaim d c = ok (acceptOutput d c (pinOfUnit (tgt c))) c := by
  simp only [inRange, Bool.and_eq_true, decide_eq_true_eq] at hfn
  have hinput : pf c 0 2 0 ≠ 4 := by omega
  have hposition : pf c 0 2 0 ≠ 5 := by omega
  simp [opSyncPinClaim, hvalid, hfree, hinput, hposition, happ, hshears]

/-- SYNC_PIN_CLAIM as an input, with a meter for it: the pin measures by that meter. -/
theorem opSyncPinClaim_of_input {d : Device} {c : InFlight} (hvalid : claimBad d c = none)
    (hfree : pinFree d (pinOfUnit (tgt c)) (ownerOf c.origin) = true) (hfn : pf c 0 2 0 = 4)
    (hmeter : (inputMeter d (pinOfUnit (tgt c))).isSome = true) (hshears : shears d = false) :
    opSyncPinClaim d c = ok (acceptInput d c ((inputMeter d (pinOfUnit (tgt c))).getD (pinOfUnit (tgt c))) (pinOfUnit (tgt c))) c := by
  have hnone : (inputMeter d (pinOfUnit (tgt c))).isNone = false := by simpa using hmeter
  simp [opSyncPinClaim, appends, hvalid, hfree, hfn, hnone, hshears]

/-- SYNC_PIN_RELEASE by the pin's owner, no spare meter with it: the pin is released. -/
theorem opSyncPinRelease_of_owner {d : Device} {c : InFlight} (howned : (pinOwner d (pinOfUnit (tgt c))).1 ≠ 0)
    (hown : pinOwner d (pinOfUnit (tgt c)) = ownerOf c.origin)
    (hspare : flag d (Reg.SYN_PIN_OWNER (pinOfUnit (tgt c))) 10 = false) :
    opSyncPinRelease d c = ok (releasePin d (pinOfUnit (tgt c))) c := by
  rw [flag] at hspare
  rw [hown] at howned
  simp [opSyncPinRelease, hown, howned, hspare]

/-- Settles O9, command by command: its header sends it to its own rule, and a shaft command on to the partner's. -/
theorem shaftAndPinCommandsDoTheirWork : Obligations.ShaftAndPinCommandsDoTheirWork := by
  refine ⟨?config, ?enable, ?motion, ?claimOutput, ?claimInput, ?release⟩
  case config =>
    exact commandEffect_of_shaft exec_shaftConfig (.inl rfl) (fun _ _ hx => by simp only [carryOut, hx]) (fun _ _ _ => rfl)
  case enable =>
    refine commandEffect_of_shaft (op := opShaftConfig) exec_shaftConfig (.inl rfl) (fun _ _ hx => by simp only [carryOut, hx]) ?_
    rintro d c ⟨hsec, hturn, hen, hst, -, hwhole, hwork⟩
    exact opShaftConfig_of_enabling hsec hturn hen hst hwhole hwork
  case motion =>
    refine commandEffect_of_shaft (op := opShaftMotion) exec_shaftMotion (.inr rfl) (fun _ _ hx => by simp only [carryOut, hx]) ?_
    rintro d c ⟨hvalid, hop, hst⟩
    exact opShaftMotion_of_running hvalid hop hst
  case claimOutput =>
    refine commandEffect_of_op (op := opSyncPinClaim) exec_syncPinClaim (by decide) (fun _ _ hx => by simp only [carryOut, hx]) ?_
    rintro d c ⟨hvalid, hfree, hfn, happ, hshears⟩
    exact opSyncPinClaim_of_output hvalid hfree hfn happ hshears
  case claimInput =>
    refine commandEffect_of_op (op := opSyncPinClaim) exec_syncPinClaim (by decide) (fun _ _ hx => by simp only [carryOut, hx]) ?_
    rintro d c ⟨hvalid, hfree, hfn, hmeter, hshears⟩
    exact opSyncPinClaim_of_input hvalid hfree hfn hmeter hshears
  case release =>
    refine commandEffect_of_op (op := opSyncPinRelease) exec_syncPinRelease (by decide)
      (fun _ _ hx => by simp only [carryOut, hx]) ?_
    rintro d c ⟨howned, hown, hspare⟩
    exact opSyncPinRelease_of_owner howned hown hspare

/-! ### Engines (R450 to R452, R458) -/

/-- APPLET_LOAD of a first piece, not the last, into an applet engine that does not run. -/
theorem opAppletLoad_of_first {d : Device} {c : InFlight} (hengine : isApplet (engineOf (tgt c)) = true)
    (hst : feSt d (engineOf (tgt c)) ≠ 3) (hoff : pf c 0 17 0 = 0) (hwords : pf c 1 12 0 % 4 = 0) (hmax : pf c 1 12 0 ≤ 4076)
    (hfinal : pb c 0 31 = false) : opAppletLoad d c = ok (loadPiece d c (engineOf (tgt c))) c := by
  have hlocal : pf c 1 12 0 ≤ localSize := hmax.trans (by decide)
  simp [opAppletLoad, hengine, hst, hoff, hwords, Nat.not_lt.mpr hmax, Nat.not_lt.mpr hlocal, hfinal]

/-- APPLET_START of an engine that is LOADED or STOPPED: it runs, with its argument and its watchdog. -/
theorem opAppletStart_of_ready {d : Device} {c : InFlight} (hengine : isApplet (engineOf (tgt c)) = true)
    (hst : feSt d (engineOf (tgt c)) = 2 ∨ feSt d (engineOf (tgt c)) = 4) (hwdt : pf c 1 13 0 ≤ 10000) :
    opAppletStart d c =
      ok (event (modApplet (wr (setFeSt d (engineOf (tgt c)) 3) (Reg.ENG_FE_WDT (engineOf (tgt c))) (pf c 1 13 0)) (engineOf (tgt c))
        (fun a => { a with arg := pw c 0, wdtAt := d.dev, waiting := none, stopDue := none }))
        (Reg.ENG_FE_EVENT (engineOf (tgt c))) 0) c := by
  have hidle : ¬ feSt d (engineOf (tgt c)) ≤ 1 ∧ feSt d (engineOf (tgt c)) ≠ 3 := by omega
  simp only [opAppletStart, hengine, hidle.1, hidle.2, Nat.not_lt.mpr hwdt, Bool.not_true, Bool.false_or, decide_false,
    Bool.false_eq_true, if_false]
  rfl

/-- APPLET_STOP of a running engine whose stop is not due yet: the stop is due, and the command goes into work. -/
theorem opAppletStop_of_running {d : Device} {c : InFlight} (hengine : isApplet (engineOf (tgt c)) = true)
    (hst : feSt d (engineOf (tgt c)) = 3) (hdue : (applet d (engineOf (tgt c))).stopDue = none) :
    opAppletStop d c = modApplet (toWork d c []) (engineOf (tgt c)) (fun a => { a with stopDue := some (1, pb c 0 0) }) := by
  have hdue' : (applet (toWork d c []) (engineOf (tgt c))).stopDue = none := hdue
  rw [applet] at hdue'
  simp [opAppletStop, hengine, hst, modApplet, tmod, hdue']

/-- PMC_CONFIG of a counter of PMC that selects an event of a unit outside the Cold Frame: the counter starts over with it. -/
theorem opPmcConfig_of_counter {d : Device} {c : InFlight} (hkind : pf c 0 1 0 = 0) (hcf : unitInCf (pf c 1 15 0) = false)
    (hmeters : ¬ (unitBed (pf c 1 15 0) = 4 ∧ unitType (pf c 1 15 0) = 6)) (hunit : unitValid (pf c 1 15 0) = true)
    (hevent : eventOk (pf c 1 15 0) (pf c 1 23 16) = true) (happlets : pb c 1 26 = false) :
    opPmcConfig d c = ok (setCnt (wr d (Reg.PMC_G_SEL (pf c 0 7 2)) (pf c 1 26 0)) (Reg.PMC_G_LO (pf c 0 7 2)) 0) c := by
  have hdenied : (unitBed (pf c 1 15 0) == 4 && unitType (pf c 1 15 0) == 6) = false := by
    simpa using hmeters
  simp [opPmcConfig, hkind, hcf, hdenied, hunit, hevent, happlets]

/-- Settles O10, command by command: its header sends it to its own rule, and the conditions name the case of that rule. -/
theorem engineCommandsDoTheirWork : Obligations.EngineCommandsDoTheirWork := by
  refine ⟨?load, ?start, ?stop, ?pmc⟩
  case load =>
    refine commandEffect_of_op (op := opAppletLoad) exec_appletLoad (by decide) (fun _ _ hx => by simp only [carryOut, hx]) ?_
    rintro d c ⟨hengine, hst, hoff, hwords, hmax, hfinal⟩
    exact opAppletLoad_of_first hengine hst hoff hwords hmax hfinal
  case start =>
    refine commandEffect_of_op (op := opAppletStart) exec_appletStart (by decide) (fun _ _ hx => by simp only [carryOut, hx]) ?_
    rintro d c ⟨hengine, hst, hwdt⟩
    exact opAppletStart_of_ready hengine hst hwdt
  case stop =>
    refine commandEffect_of_op (op := opAppletStop) exec_appletStop (by decide) (fun _ _ hx => by simp only [carryOut, hx]) ?_
    rintro d c ⟨hengine, hst, hdue⟩
    exact opAppletStop_of_running hengine hst hdue
  case pmc =>
    refine commandEffect_of_op (op := opPmcConfig) exec_pmcConfig (by decide) (fun _ _ hx => by simp only [carryOut, hx]) ?_
    rintro d c ⟨hkind, hcf, hmeters, hunit, hevent, happlets⟩
    exact opPmcConfig_of_counter hkind hcf hmeters hunit hevent happlets

end Sys2Proof.Machine
end

section
/-! The services of an applet, and the rows of an engine: violations, watchdogs, stops, mailboxes and performance counters. -/

namespace Sys2Proof.Machine

open Sys2Proof

/-! ### Services (R448, R459) -/

/-- A service of an engine that runs, is not suspended and waits for no command is counted and answered. -/
theorem service_of_calling {d : Device} {e : Nat} (f : Device → Device) (hrun : running d = true) (hruns : feRuns d e = true)
    (hawake : (applet d e).waiting = none) (hfree : inCommand d e = false) : service d e f = f (pulse d (uFE e) 0x05 1) := by
  simp [service, hrun, hruns, hawake, hfree]

/-- A service row's own effect is its service, after the call has been counted. -/
theorem effect_of_service {c : Nat → Instr} {e : Nat} {f : Device → Device}
    (hrun : ∀ w s, exec (c w) s = run w s (fun d => service d e f)) :
    Effect c (fun d => running d = true ∧ feRuns d e = true ∧ (applet d e).waiting = none ∧ inCommand d e = false)
      (fun d => f (pulse d (uFE e) 0x05 1)) :=
  effect_of_run hrun (fun _ ⟨hrunning, hruns, hawake, hfree⟩ => service_of_calling f hrunning hruns hawake hfree)

/-- A suspended applet whose wait is over is answered. -/
theorem waitWake_of_over {d : Device} {e : Nat} {t : WaitTarget} (hwaits : (applet d e).waiting = some t) (htick : ticking d = true)
    (hruns : feRuns d e = true) (hover : waitOver d t = true) :
    waitWake d e = answer (modApplet d e (fun a => { a with waiting := none })) e stOk [] := by
  simp [waitWake, hwaits, htick, hruns, hover]

/-- Settles O28, service by service: the call is counted, and the service answers. -/
theorem appletServicesAnswer : Obligations.AppletServicesAnswer := by
  intro e
  refine ⟨?timeRead, fun t => ?waitUntil, fun t => ?wake, fun pre b => ?frameSend, fun ws => ?msgPut, ?msgGet, fun op p => ?command,
    fun k => ?pmcRead, ?wdtKick, ?exit⟩
  case timeRead => exact effect_of_service (f := svcTimeRead e) (fun w s => exec_timeRead w e s)
  case waitUntil => exact effect_of_service (fun w s => exec_waitUntil w e t s)
  case wake =>
    exact effect_of_run (fun w s => exec_waitUntilWake w e s)
      (fun _ ⟨hwaits, htick, hruns, hover⟩ => waitWake_of_over hwaits htick hruns hover)
  case frameSend => exact effect_of_service (fun w s => exec_frameSend w e pre b s)
  case msgPut => exact effect_of_service (fun w s => exec_msgPut w e ws s)
  case msgGet => exact effect_of_service (fun w s => exec_msgGet w e s)
  case command => exact effect_of_service (fun w s => exec_command w e op p s)
  case pmcRead => exact effect_of_service (fun w s => exec_pmcRead w e k s)
  case wdtKick => exact effect_of_service (f := svcWdtKick e) (fun w s => exec_wdtKick w e s)
  case exit => exact effect_of_service (f := svcExit e) (fun w s => exec_exit w e s)

/-! ### Rows (R447, R449, R451, R457, R460 to R463) -/

/-- A valid sampling control is written. -/
theorem smpCtl_of_valid {d : Device} {b x : Nat} (h : valueOk d (Reg.PMC_SMP_CTL b) x = true) : smpCtl d b x = smpWrite d b x := by
  rw [smpCtl, if_pos h]

/-- Settles O29, row by row: the row runs its meaning, by its view where it is an access, and the conditions name the case of it. -/
theorem engineRowsActOnTheirEngine : Obligations.EngineRowsActOnTheirEngine := by
  refine ⟨fun e a k => ?violation, fun e => ?watchdog, fun e => ?stop, fun v e => ?toFull, fun v e => ?fromFull, fun v x => ?globalEn,
    fun v b x => ?smpCtl, fun v b first => ?smpRead⟩
  case violation =>
    refine effect_of_run (fun w s => exec_violation w e a k s) ?_
    rintro d ⟨hrun, hruns, hawake⟩
    exact onlyIf_of _ _ (by rw [hrun, hruns, hawake]; rfl)
  case watchdog =>
    refine effect_of_run (fun w s => exec_wdtExpired w e s) ?_
    rintro d ⟨hrun, hruns, hout⟩
    exact onlyIf_of _ _ (by rw [hrun, hruns, hout]; rfl)
  case stop => exact effect_of_run (fun w s => exec_appletStopped w e s) (fun d ⟨hrun, _⟩ => onlyIf_of d _ hrun)
  case toFull =>
    refine effect_of_run (fun w s => exec_toFull w v e s) ?_
    rintro d ⟨hreach, hengine⟩
    rw [viewWrite_of_reaches _ _ hreach, onlyIf_of _ _ hengine]
  case fromFull => exact effect_of_viewWrite (fun w s => exec_fromFullClear w v e s)
  case globalEn => exact effect_of_viewWrite (fun w s => exec_globalEn w v x s)
  case smpCtl =>
    refine effect_of_run (fun w s => exec_pmcSmpCtlWrite w v b x s) ?_
    rintro d ⟨hreach, hvalid⟩
    rw [viewWrite_of_reaches _ _ hreach, smpCtl_of_valid hvalid]
  case smpRead =>
    refine effect_of_run (fun w s => exec_pmcSmpRead w v b first s) ?_
    rintro d ⟨hopen, hfirst⟩
    exact removeRead_of_open _ _ (fun f => viewRead_of_open f hopen) hfirst

end Sys2Proof.Machine
end

section
/-! DEV_INFO, FUNCTION_RESET, SET_LATENCY_TOLERANCE and FENCE, the transports of the commands, and what fences hold back. -/

namespace Sys2Proof.Machine

open Sys2Proof

/-! ### The device commands (R475, R491, R613, R614) -/

/-- SET_LATENCY_TOLERANCE of the device, at most 20 bits, is kept. -/
theorem opSetLatencyTolerance_of_device {d : Device} {c : InFlight} (hunit : tgt c = uDevice) (hmax : pw c 0 ≤ 0xFFFFF) :
    opSetLatencyTolerance d c = ok (wr d Reg.GLB_LT_DEV (pw c 0)) c := by
  rw [opSetLatencyTolerance, if_pos hunit, if_neg (Nat.not_lt.mpr hmax)]

/-- SET_LATENCY_TOLERANCE of a port, at most 20 bits, is kept, and the power of its lanes follows. -/
theorem opSetLatencyTolerance_of_port {d : Device} {c : InFlight} (hunit : tgt c ≠ uDevice)
    (habs : absorbed d (portOfUnit (tgt c)) = false) (hmax : pw c 0 ≤ 0xFFFFF) :
    opSetLatencyTolerance d c =
      ok (each (portLanes d (portOfUnit (tgt c))) (wr d (Reg.GLB_LT_PORT (portOfUnit (tgt c))) (pw c 0)) lanePower) c := by
  simp only [opSetLatencyTolerance, if_neg hunit, habs, Bool.false_eq_true, if_false, if_neg (Nat.not_lt.mpr hmax)]

/-- Settles O1, command by command: its header sends it to its own rule, and the conditions name the case of that rule. -/
theorem deviceCommandsDoTheirWork : Obligations.DeviceCommandsDoTheirWork := by
  refine ⟨?devInfo, ?functionReset, ?toleranceDevice, ?tolerancePort, ?fence⟩
  case devInfo =>
    exact commandEffect_of_op (op := opDevInfo) exec_devInfo (by decide) (fun _ _ hx => by simp only [carryOut, hx]) (fun _ _ _ => rfl)
  case functionReset =>
    exact commandEffect_of_op exec_functionReset (by decide) (fun _ _ hx => by simp only [carryOut, hx]) (fun _ _ _ => rfl)
  case toleranceDevice =>
    refine commandEffect_of_op (op := opSetLatencyTolerance) exec_setLatencyTolerance (by decide)
      (fun _ _ hx => by simp only [carryOut, hx]) ?_
    rintro d c ⟨hunit, hmax⟩
    exact opSetLatencyTolerance_of_device hunit hmax
  case tolerancePort =>
    refine commandEffect_of_op (op := opSetLatencyTolerance) exec_setLatencyTolerance (by decide)
      (fun _ _ hx => by simp only [carryOut, hx]) ?_
    rintro d c ⟨hunit, habs, hmax⟩
    exact opSetLatencyTolerance_of_port hunit habs hmax
  case fence =>
    exact commandEffect_of_op (op := opFence) exec_fence (by decide) (fun _ _ hx => by simp only [carryOut, hx]) (fun _ _ _ => rfl)

/-! ### Rings (R480 to R484) -/

/-- A doorbell whose tail lies at a slot moves the tail, and the ring is read. -/
theorem sqDoorbell_of_aligned (d : Device) (k : Fin 4) {x : Nat} (h : x % 65536 % 16 = 0) :
    sqDoorbell d k x = ringScan k (ringFuel (wr d (Reg.CMD_SQ_TAIL k) (x % 65536)) k) (wr d (Reg.CMD_SQ_TAIL k) (x % 65536)) := by
  simp [sqDoorbell, h]

/-- A write of CMD_RING_CTL with a threshold and RESET keeps the control fields and resets the ring. -/
theorem ringCtl_of_reset (d : Device) (k : Fin 4) {x : Nat} (hthreshold : bits x 23 16 ≠ 0) (hreset : bit x 1 = true) :
    ringCtl d k x = ringReset (wr d (Reg.CMD_RING_CTL k) (Nat.land x 0xFFFF3F01)) k := by
  simp only [ringCtl, if_neg hthreshold, hreset, if_true]

/-- A completion head that lies at a slot moves, and what waits for room is delivered. -/
theorem cqHead_of_aligned (d : Device) (k : Fin 4) {x : Nat} (h : x % 65536 % 16 = 0) :
    cqHead d k x = deliverRing k 513 (wr d (Reg.CMD_CQ_HEAD k) (x % 65536)) := by
  simp [cqHead, h]

/-- Completions unsignalled for COAL_US are signalled. -/
theorem coalExpiry_of_due {d : Device} {k : Fin 4} {n t : Nat} (hrun : running d = true)
    (hunsig : tget (fun _ => (0, 0)) d.cmd.unsig k = (n, t)) (hsome : n ≠ 0) (hcoal : fld d (Reg.CMD_RING_CTL k) 31 24 ≠ 0)
    (hdue : t + fld d (Reg.CMD_RING_CTL k) 31 24 * usTicks ≤ d.now) :
    coalExpiry d k =
      sendMsix (modCmd d (fun t => { t with unsig := tset (fun _ => (0, 0)) t.unsig k (0, 0) })) (fld d (Reg.CMD_RING_CTL k) 13 8) := by
  simp [coalExpiry, hrun, hunsig, hsome, hcoal, hdue]

/-! ### The mailbox (R485 to R487) -/

/-- A word is appended to a mailbox that has room. -/
theorem mbxPut_of_room {d : Device} (x : Word) (h : d.cmd.mbxIn.length < 1028) :
    mbxPut d x = modCmd d (fun t => { t with mbxIn := t.mbxIn ++ [x] }) := by
  rw [mbxPut, if_neg (Nat.not_le.mpr h)]

/-- A whole packet in the mailbox is taken where SPI may issue and a slot is free. -/
theorem mbxSubmit_of_whole {d : Device} (hmin : 4 ≤ d.cmd.mbxIn.length) (hlen : d.cmd.mbxIn.length = 4 + lengthOf d.cmd.mbxIn)
    (hopen : frontOpen d .spi = true) (hslot : slotFree d .spi (bits (d.cmd.mbxIn.getD 0 0).toNat 15 0) 16 isSpi = true) :
    mbxSubmit d = accept (mbxEmpty d) .spi d.cmd.mbxIn [] false := by
  have hwhole : (decide (d.cmd.mbxIn.length < 4) || decide (d.cmd.mbxIn.length ≠ 4 + lengthOf d.cmd.mbxIn)) = false := by
    simpa using ⟨hmin, hlen⟩
  simp only [mbxSubmit, hwhole, hopen, hslot, Bool.not_true, Bool.or_self, Bool.false_eq_true, if_false]

/-- A word of the reply, not its last, is read and passed. -/
theorem mbxReadWord_of_more {d : Device} {c : InFlight} (hreply : nextReply d isSpi = some c)
    (hmore : d.cmd.mbxRead + 1 < (replyWords c).length) :
    mbxReadWord d =
      modCmd (emit d (.read [(replyWords c).getD d.cmd.mbxRead 0])) (fun t => { t with mbxRead := d.cmd.mbxRead + 1 }) := by
  simp only [mbxReadWord, hreply, hmore, if_true]

/-! ### Brely, fence waits and time-outs (R472 to R474, R489) -/

/-- A command frame of Brely is taken, where the partner's commands are; that it completes with BUSY where no slot is free is the
model's choice (log 26). -/
theorem brelyCommandFrame_of_taken {d : Device} {b : List Byte} {ws : List Word} (htick : ticking d = true)
    (hready : coreReady d = true) (htype : beAt b 12 2 = 0x88B5) (hfcs : fcsGood b = true) (hawake : standby d = false)
    (hpacket : packetAt b 14 = some ws) (hen : flag d Reg.CMD_CFG 0 = true) (hopen : frontOpen d .brely = true) :
    brelyCommandFrame d b = accept d .brely ws [] (!slotFree d .brely (packetOf ws).1 32 isBrely) := by
  have hframe : brelyCommandFrame d b = brelyCommandIn d b := by
    simp only [brelyCommandFrame, htick, hready, htype, hfcs, hawake, bne_self_eq_false, Bool.not_true, Bool.or_self,
      Bool.false_eq_true, if_false]
  have hopened : (!flag d Reg.CMD_CFG 0 || !frontOpen d .brely) = false := by rw [hen, hopen]; rfl
  rw [hframe]
  unfold brelyCommandIn
  rw [hpacket]
  dsimp only
  rw [hopened]
  exact if_neg Bool.false_ne_true

/-- A fence wait ends when every earlier command of the origin has completed. -/
theorem fenceEnd_of_over {d : Device} {c : InFlight} (hwait : c.stage = .wait) (hfence : fencesBefore c = true) (haux : c.aux = [])
    (hover : fenceOver d c = true) (hrun : running d = true) :
    fenceEnd d c = frontGo (modInflight d c.seq (fun c => { c with aux := [2] })) := by
  simp [fenceEnd, hwait, hfence, haux, hover, hrun]

/-- Settles O35, row by row: the row runs its meaning, by its view where it is a write, and the conditions name the case of it. -/
theorem transportRowsMoveTheirPackets : Obligations.TransportRowsMoveTheirPackets := by
  refine ⟨fun v k x => ?doorbell, fun v k x => ?reset, fun v k x => ?head, fun k n t => ?coalesce, fun x => ?put, ?submit, ?discard,
    fun c => ?reply, fun b ws => ?brely, fun o tag c => ?fence, fun o tag c => ?timeout⟩
  case doorbell =>
    refine effect_of_run (fun w s => exec_cmdSqDoorbell w v k x s) ?_
    rintro d ⟨hreach, haligned⟩
    rw [viewWrite_of_reaches _ _ hreach, sqDoorbell_of_aligned d k haligned]
  case reset =>
    refine effect_of_run (fun w s => exec_cmdRingReset w v k x s) ?_
    rintro d ⟨hreach, hthreshold, hreset⟩
    rw [viewWrite_of_reaches _ _ hreach, ringCtl_of_reset d k hthreshold hreset]
  case head =>
    refine effect_of_run (fun w s => exec_cmdCqHeadWrite w v k x s) ?_
    rintro d ⟨hreach, haligned⟩
    rw [viewWrite_of_reaches _ _ hreach, cqHead_of_aligned d k haligned]
  case coalesce =>
    refine effect_of_run (fun w s => exec_coalUsExpiry w k s) ?_
    rintro d ⟨hrun, hunsig, hsome, hcoal, hdue⟩
    exact coalExpiry_of_due hrun hunsig hsome hcoal hdue
  case put =>
    refine effect_of_run (fun w s => exec_cmdMbxWdata w x s) ?_
    rintro d ⟨hrun, hroom⟩
    rw [onlyIf_of _ _ hrun, mbxPut_of_room x hroom]
  case submit =>
    refine effect_of_run exec_submit ?_
    rintro d ⟨hrun, hmin, hlen, hopen, hslot⟩
    rw [onlyIf_of _ _ hrun, mbxSubmit_of_whole hmin hlen hopen hslot]
  case discard => exact effect_of_running exec_discard
  case reply =>
    refine effect_of_run exec_cmdMbxRdata ?_
    rintro d ⟨hrun, hreply, hmore⟩
    rw [onlyIf_of _ _ hrun, mbxReadWord_of_more hreply hmore]
  case brely =>
    refine effect_of_run (fun w s => exec_brelyCommand w b s) ?_
    rintro d ⟨htick, hready, htype, hfcs, hawake, hpacket, hen, hopen⟩
    exact brelyCommandFrame_of_taken htick hready htype hfcs hawake hpacket hen hopen
  case fence =>
    refine effect_of_run (fun w s => exec_fenceWaitEnd w o tag s) ?_
    rintro d ⟨htagged, hwait, hfence, haux, hover, hrun⟩
    simp only [htagged, fenceEnd_of_over hwait hfence haux hover hrun]
  case timeout =>
    refine effect_of_run (fun w s => exec_timeout w o tag s) ?_
    intro d htagged
    simp only [htagged]

/-! ### Fences (R473) -/

/-- A command with FENCE_BEFORE waits while an earlier command of its origin has not completed. -/
theorem fenceOver_of_earlier {d : Device} {c x : InFlight} (hx : x ∈ d.cmd.inflight) (horigin : x.origin = c.origin)
    (hseq : x.seq < c.seq) (hopen : x.stage ≠ .done) : fenceOver d c = false :=
  List.all_eq_false.mpr ⟨x, hx, by simp [horigin, hseq, hopen]⟩

/-- A command is held back by an earlier one of its origin with FENCE_AFTER that has not completed. -/
theorem heldBack_of_earlier {d : Device} {c x : InFlight} (hx : x ∈ d.cmd.inflight) (horigin : x.origin = c.origin)
    (hseq : x.seq < c.seq) (hfence : fencesAfter x = true) (hopen : x.stage ≠ .done) : heldBack d c = true :=
  List.any_eq_true.mpr ⟨x, hx, by simp [horigin, hseq, hfence, hopen]⟩

/-- What a fence waits for is among the commands of its origin. -/
theorem fenceOver_eq_filter (d : Device) (c : InFlight) :
    fenceOver d c =
      (d.cmd.inflight.filter (fun x => x.origin == c.origin)).all (fun x => !decide (x.seq < c.seq) || x.stage == .done) := by
  rw [fenceOver, List.all_filter]
  congr 1
  funext x
  cases x.origin == c.origin <;> simp

/-- What holds a command back is among the commands of its origin. -/
theorem heldBack_eq_filter (d : Device) (c : InFlight) :
    heldBack d c =
      (d.cmd.inflight.filter (fun x => x.origin == c.origin)).any (fun x =>
        decide (x.seq < c.seq) && (x.stage == .wait || (fencesAfter x && x.stage != .done))) := by
  simp only [heldBack, List.any_filter, Bool.and_assoc]

/-- Settles O56: an earlier command of the origin keeps the wait from ending and from being passed, and both look at the origin's
commands alone. -/
theorem fencesHoldBackTheirOriginAlone : Obligations.FencesHoldBackTheirOriginAlone := by
  refine ⟨fun d c x hfence haux hx horigin hseq hopen => ⟨?_, ?_⟩, fun d c x hx horigin hseq hfence hopen => ?_,
    fun d e c hsame => ?_⟩
  · simp [fenceEnd, fenceOver_of_earlier hx horigin hseq hopen]
  · simp [mayCommit, hfence, haux]
  · simp [mayCommit, heldBack_of_earlier hx horigin hseq hfence hopen]
  · simp only [fenceOver_eq_filter, heldBack_eq_filter, hsame, and_self]

end Sys2Proof.Machine
end

section
/-! Events, the lock and pair protection of the registers: what each write does, and what it leaves as it was. -/

namespace Sys2Proof.Machine

open Sys2Proof

/-! ### Numbers by their bits -/

/-- A number is the bits it shares with another and the bits it does not. -/
theorem land_add_ldiff (m n : Nat) : Nat.land m n + Nat.ldiff m n = m := by
  change (m &&& n) + Nat.ldiff m n = m
  induction m using Nat.binaryRec generalizing n with
  | zero => simp [Nat.ldiff]
  | bit b m ih =>
    induction n using Nat.bitCasesOn with
    | bit c n =>
      have hrest := ih n
      rw [Nat.land_bit, Nat.ldiff_bit]
      cases b <;> cases c <;> simp [Nat.bit_val] <;> omega

/-- Ones subtracted where both numbers have them clear those bits and no others. -/
theorem bit_sub_land (r x k : Nat) : bit (r - Nat.land r x) k = (bit r k && !bit x k) := by
  have hclear : r - Nat.land r x = Nat.ldiff r x := by
    have := land_add_ldiff r x
    omega
  rw [hclear, bit_eq_testBit, bit_eq_testBit, bit_eq_testBit, Nat.testBit_ldiff]

/-! ### Event registers (R517) -/

/-- Two devices with the same memory of registers read the same. -/
theorem rd_of_regs {d e : Device} (h : e.regs = d.regs) (a : Nat) : rd e a = rd d a := by
  rw [rd, rd, h]

/-- A message of an interrupt source touches no register and no counter. -/
theorem sourceMessage_frame (d : Device) (s : Nat) : (sourceMessage d s).regs = d.regs ∧ (sourceMessage d s).cnts = d.cnts := by
  unfold sourceMessage sendMsix
  split
  · split <;> exact ⟨rfl, rfl⟩
  · exact ⟨rfl, rfl⟩

/-- Ones written to an event register change that register alone, whatever they do to its interrupt source. -/
theorem clearEvents_frame (d : Device) (a x : Nat) :
    (clearEvents d a x).regs = (wr d a (rd d a - Nat.land (rd d a) x)).regs ∧ (clearEvents d a x).cnts = d.cnts := by
  unfold clearEvents
  extract_lets e
  split
  · split
    · exact sourceMessage_frame _ _
    · exact ⟨rfl, rfl⟩
  · exact ⟨rfl, rfl⟩

/-- Settles O50: what the register reads then, and by which bits it differs from what it read before. -/
theorem eventsClearByWritingOnes : Obligations.EventsClearByWritingOnes := by
  intro d a x k
  obtain ⟨hregs, hcnts⟩ := clearEvents_frame d a x
  have hself : rd (clearEvents d a x) a = rd d a - Nat.land (rd d a) x := by
    have hlt : rd d a - Nat.land (rd d a) x < 2 ^ 32 := (Nat.sub_le _ _).trans_lt (rd_lt d a)
    rw [rd_of_regs hregs, rd_wr_self, Nat.mod_eq_of_lt hlt]
  have hbit : flag (clearEvents d a x) a k = (flag d a k && !bit x k) := by
    rw [flag, hself, bit_sub_land, flag]
  refine ⟨hself, fun h => ?_, fun h => ?_, fun b hb => ?_, hcnts⟩
  · rw [hbit, h, Bool.not_true, Bool.and_false]
  · rw [hbit, h, Bool.not_false, Bool.and_true]
  · rw [rd_of_regs hregs, rd_wr_other d _ hb]

/-! ### The lock (R514, R610) -/

/-- Registers kept across a reset are written to the device as the reset leaves it. -/
theorem keepRegs_bus (d new : Device) (l : List Nat) : (keepRegs d new l).bus = new.bus := by
  unfold keepRegs each
  induction l generalizing new with
  | nil => rfl
  | cons a l ih => exact ih (wr new a (rd d a))

/-- The first write of GLB_LOCK is taken, and locks. -/
theorem lockWrite_of_open {d : Device} (v : View) (x : Nat) (h : d.bus.wolLocked = false) :
    lockWrite d v x = modBus (wr d Reg.GLB_LOCK (bits x 1 0)) (fun b => { b with wolLocked := true }) := by
  rw [lockWrite, if_neg (Bool.eq_false_iff.mp h)]

/-- A later write is noted as a violation. -/
theorem lockWrite_of_locked {d : Device} (v : View) (x : Nat) (h : d.bus.wolLocked = true) :
    lockWrite d v x = event (wr d Reg.GLB_LOCKV_ADDR (Reg.GLB_LOCK + 2 ^ 24 * viewNum v + 2 ^ 31)) Reg.GLB_EVENT 1 := by
  rw [lockWrite, if_pos h]

/-- A view's number is 0, 1 or 2. -/
theorem viewNum_lt (v : View) : viewNum v < 3 := by cases v <;> decide

/-- Settles O51: the lock's two writes, and the bus as the resets leave it. -/
theorem theLockTakesItsFirstWriteOnly : Obligations.TheLockTakesItsFirstWriteOnly := by
  refine ⟨fun d v x h => ?first, fun d v x h => ?later, fun d => ?deviceReset, fun d cause src => ?powerOn⟩
  case first =>
    rw [lockWrite_of_open v x h]
    refine ⟨?_, rfl, fun b hb => ?_⟩
    · have hlt : bits x 1 0 < 2 ^ 32 := (Nat.mod_lt _ (by decide)).trans (by decide : (2 : Nat) ^ (1 + 1 - 0) < 2 ^ 32)
      exact (rd_wr_self d Reg.GLB_LOCK _).trans (Nat.mod_eq_of_lt hlt)
    · exact rd_wr_other d _ hb
  case later =>
    rw [lockWrite_of_locked v x h]
    refine ⟨same_trans (same_wr d _ (by simp)) (same_event _ 1 (by simp)), flag_event _ _ _ (by decide), ?_⟩
    have hlt : Reg.GLB_LOCK + 2 ^ 24 * viewNum v + 2 ^ 31 < 2 ^ 32 := by
      have hview := viewNum_lt v
      have hoff : Reg.GLB_LOCK < 2 ^ 24 := by decide
      omega
    rw [rd_event_other _ 1 (by decide), rd_wr_self, Nat.mod_eq_of_lt hlt]
  case deviceReset => simp only [deviceReset, wr_bus, setFlag_bus, keepRegs_bus]
  case powerOn => simp only [powerOnHeld, keepRegs_bus]

/-! ### Pair protection (R515) -/

/-- A value that waits for its companion stays for 64 cycles of the control bus. -/
theorem ppExpire_of_fresh {d : Device} {a t : Nat} (h : ∀ p, ppPending d a = some p → t ≤ p.2.2 + ppWindow) :
    ppExpire d a t = d := by
  unfold ppExpire
  split
  next p hp => rw [if_neg (Nat.not_lt.mpr (h p hp))]
  next => rfl

/-- A stale value is given up, which is a failure of the view that wrote it. -/
theorem ppExpire_of_stale {d : Device} {a t : Nat} {p : Nat × Word × Nat} (hp : ppPending d a = some p)
    (ht : p.2.2 + ppWindow < t) : ppExpire d a t = ppFailAt (setPending d a none) (viewOf p.1) a := by
  rw [ppExpire, hp]
  exact if_pos ht

/-- The value set to wait is the one that waits. -/
@[simp] theorem ppPending_setPending (d : Device) (a : Nat) (p : Option (Nat × Word × Nat)) :
    ppPending (setPending d a p) a = p := tget_tset_self _ _ _ _

/-- A failure notes an address and sets PP_FAIL. -/
theorem ppFailAt_eq (d : Device) (v : View) (off : Nat) :
    ∃ n, ppFailAt d v off = event (wr d Reg.GLB_PP_ADDR n) Reg.GLB_EVENT 2 := ⟨_, rfl⟩

/-- A failure changes nothing that waits. -/
@[simp] theorem ppPending_ppFailAt (d : Device) (v : View) (off a : Nat) : ppPending (ppFailAt d v off) a = ppPending d a := by
  obtain ⟨n, hn⟩ := ppFailAt_eq d v off
  rw [hn]
  rfl

/-- A failure sets PP_FAIL. -/
theorem flag_ppFailAt (d : Device) (v : View) (off : Nat) : flag (ppFailAt d v off) Reg.GLB_EVENT 2 = true :=
  flag_event _ _ _ (by decide)

/-- Two devices that differ at most by failed pairs: in the register of the failed address and the event register, in what waits, and
in the free values taken. -/
def SameButPpFail (d e : Device) : Prop :=
  (∀ b, b ≠ Reg.GLB_PP_ADDR → b ≠ Reg.GLB_EVENT → rd e b = rd d b) ∧
  { e with regs := d.regs, parityBad := d.parityBad, bus := d.bus, fresh := d.fresh } = d

/-- Every device differs from itself in nothing. -/
theorem samePp_refl (d : Device) : SameButPpFail d d := ⟨fun _ _ _ => rfl, rfl⟩

/-- One change after another. -/
theorem samePp_trans {d e f : Device} (h : SameButPpFail d e) (g : SameButPpFail e f) : SameButPpFail d f := by
  obtain ⟨h1, h2⟩ := h
  obtain ⟨g1, g2⟩ := g
  refine ⟨fun b ha he => (g1 b ha he).trans (h1 b ha he), ?_⟩
  rw [← h2, ← g2]

/-- What waits is no register. -/
theorem samePp_setPending (d : Device) (a : Nat) (p : Option (Nat × Word × Nat)) : SameButPpFail d (setPending d a p) :=
  ⟨fun _ _ _ => rfl, rfl⟩

/-- A failure writes those two registers. -/
theorem samePp_ppFailAt (d : Device) (v : View) (off : Nat) : SameButPpFail d (ppFailAt d v off) := by
  obtain ⟨n, hn⟩ := ppFailAt_eq d v off
  rw [hn]
  exact ⟨fun b haddr hevent => by rw [rd_event_other _ 2 hevent, rd_wr_other d n haddr], rfl⟩

/-- Nor is a free value. -/
theorem samePp_nextFree (d : Device) : SameButPpFail d (nextFree d) := ⟨fun _ _ _ => rfl, rfl⟩

/-- A failed companion takes a free value, too: the address noted may be the register's or the companion's. -/
theorem samePp_ppFailComp (d : Device) (v : View) (a : Nat) : SameButPpFail d (ppFailComp d v a) :=
  samePp_trans (samePp_ppFailAt d v _) (samePp_nextFree _)

/-- A failed companion sets PP_FAIL. -/
theorem flag_ppFailComp (d : Device) (v : View) (a : Nat) : flag (ppFailComp d v a) Reg.GLB_EVENT 2 = true := by
  rw [ppFailComp, flag_nextFree, flag_ppFailAt]

/-- What is stale is given up by a failure, and nothing else happens to the device. -/
theorem samePp_ppExpire (d : Device) (a t : Nat) : SameButPpFail d (ppExpire d a t) := by
  unfold ppExpire
  split
  · split
    · exact samePp_trans (samePp_setPending d a none) (samePp_ppFailAt _ _ a)
    · exact samePp_refl d
  · exact samePp_refl d

/-- What still waits once the stale is given up is what waited, and is fresh. -/
theorem ppPending_ppExpire {d : Device} {a t : Nat} {p : Nat × Word × Nat} (h : ppPending (ppExpire d a t) a = some p) :
    ppPending d a = some p ∧ t ≤ p.2.2 + ppWindow := by
  cases hp : ppPending d a with
  | none =>
    rw [ppExpire_of_fresh (by simp [hp]), hp] at h
    contradiction
  | some q =>
    by_cases hq : q.2.2 + ppWindow < t
    · rw [ppExpire_of_stale hp hq, ppPending_ppFailAt, ppPending_setPending] at h
      contradiction
    · rw [ppExpire_of_fresh (by simpa [hp] using hq), hp] at h
      cases h
      exact ⟨rfl, Nat.not_lt.mp hq⟩

/-- The companion of the key that the same view wrote in time applies it. -/
theorem ppComp_of_pair {d : Device} {v : View} {a t t0 : Nat} {x : Word} (hp : ppPending d a = some (viewNum v, x, t0))
    (ht : t ≤ t0 + ppWindow) (hkey : ppKey a = some x.toNat) :
    ppComp d v a (~~~x) t = ppApply (setPending d a none) v a x := by
  have hfresh : ppExpire d a t = d := ppExpire_of_fresh (by simpa [hp] using ht)
  simp [ppComp, hfresh, hp, hkey]

/-- Any other companion fails, on a device that differs from the one it found by failed pairs alone. -/
theorem ppComp_of_no_pair {d : Device} {v : View} {a t : Nat} {x : Word}
    (h : ¬ ∃ p, ppPending d a = some p ∧ p.1 = viewNum v ∧ t ≤ p.2.2 + ppWindow ∧ x = ~~~p.2.1 ∧ ppKey a = some p.2.1.toNat) :
    ∃ e, SameButPpFail d e ∧ ppComp d v a x t = ppFailComp e v a := by
  have hstale := samePp_ppExpire d a t
  unfold ppComp
  extract_lets e
  split
  next => exact ⟨e, hstale, rfl⟩
  next p hp =>
    obtain ⟨hpending, hfresh⟩ := ppPending_ppExpire hp
    split
    next => exact ⟨e, hstale, rfl⟩
    next hview =>
      refine ⟨setPending e a none, samePp_trans hstale (samePp_setPending e a none), if_neg fun hpair => h ⟨p, hpending, ?_⟩⟩
      simp only [Bool.and_eq_true, decide_eq_true_eq, beq_iff_eq] at hpair
      exact ⟨not_not.mp hview, hfresh, hpair⟩

/-- A value of another view that waits in time is not written over: the write fails. -/
theorem ppWrite_of_other_view {d : Device} {v : View} {a t n t0 : Nat} (x : Word) {y : Word}
    (hp : ppPending d a = some (n, y, t0)) (hn : n ≠ viewNum v) (ht : t ≤ t0 + ppWindow) : ppWrite d v a x t = ppFailAt d v a := by
  have hfresh : ppExpire d a t = d := ppExpire_of_fresh (by simpa [hp] using ht)
  simp [ppWrite, hfresh, hp, hn]

/-- Settles O52: the pair, every other companion, another view's write, and the window of 64 cycles in ticks. -/
theorem pairProtectionAppliesOnlyTheWholeSequence : Obligations.PairProtectionAppliesOnlyTheWholeSequence := by
  refine ⟨fun d v a x t t0 hp ht hkey => ppComp_of_pair hp ht hkey, fun d v a x t h => ?_, fun d v a x t n t0 y hp hn ht => ?_, rfl⟩
  · obtain ⟨e, hsame, hfail⟩ := ppComp_of_no_pair h
    rw [hfail]
    exact ⟨flag_ppFailComp e v a, samePp_trans hsame (samePp_ppFailComp e v a)⟩
  · rw [ppWrite_of_other_view x hp hn ht, ppPending_ppFailAt]
    exact ⟨hp, flag_ppFailAt d v a, (samePp_ppFailAt d v a).1⟩

end Sys2Proof.Machine
end

section
/-! Reads of register groups, the rings' memory in BAR2, and the rows of the register views with their pair-protected registers. -/

namespace Sys2Proof.Machine

open Sys2Proof

/-! ### Groups of words (R510, R511) -/

/-- What a table reads at the keys it was given values for, one after another, and at every other key. -/
theorem tget_foldl_tset {α : Type} [DecidableEq α] (dflt : Nat → α) (key : Nat → Nat) (val : Nat → α)
    (hkey : Function.Injective key) (t : Table α) (n : Nat) :
    (∀ i, i < n → tget dflt ((List.range n).foldl (fun t i => tset dflt t (key i) (val i)) t) (key i) = val i) ∧
    (∀ j, (∀ i, i < n → j ≠ key i) →
      tget dflt ((List.range n).foldl (fun t i => tset dflt t (key i) (val i)) t) j = tget dflt t j) := by
  induction n with
  | zero => exact ⟨fun _ h => absurd h (Nat.not_lt_zero _), fun _ _ => rfl⟩
  | succ n ih =>
    obtain ⟨hval, hother⟩ := ih
    simp only [List.range_succ, List.foldl_append, List.foldl_cons, List.foldl_nil]
    refine ⟨fun i hi => ?_, fun j hj => ?_⟩
    · rcases Nat.lt_succ_iff_lt_or_eq.mp hi with hlt | rfl
      · rw [tget_tset_other _ _ _ (hkey.ne hlt.ne), hval i hlt]
      · exact tget_tset_self _ _ _ _
    · rw [tget_tset_other _ _ _ (hj n (Nat.lt_succ_self n)), hother j fun i hi => hj i (Nat.lt_succ_of_lt hi)]

/-- Latching words for a view sets their shadows, one after another, and nothing else. -/
theorem latch_eq (d : Device) (v : View) (a : Nat) (ws : List Word) :
    latch d v a ws = modBus d (fun b => { b with
      shadow := (List.range ws.length).foldl
        (fun t i => tset (fun _ => none) t (viewKey v (a + 4 * i)) (some (ws.getD i 0))) b.shadow }) := by
  simp only [latch, each, upTo]
  generalize List.range ws.length = l
  induction l generalizing d with
  | nil => rfl
  | cons i l ih => exact ih _

/-- The offsets of a view have keys of their own. -/
theorem viewKey_injective (v : View) (a : Nat) : Function.Injective (fun i => viewKey v (a + 4 * i)) := by
  intro i j h
  simp only [viewKey] at h
  omega

/-- A read of a group's low word, whose parity holds and which removes nothing, answers it and latches the others. -/
theorem regRead_low {d : Device} {v : View} {a n : Nat} (hpar : ∀ m k, parityCheck d a m k = d) (hgroup : groupOf a = some (a, n))
    (htake : takeAt a = none) :
    regRead d v a =
      latch (emit d (.read [w32 (liveWord d v a)])) v (a + 4) ((upTo (n - 1)).map (fun k => w32 (liveWord d v (a + 4 + 4 * k)))) := by
  simp [regRead, hpar, hgroup, htake, answerRead]

/-- A read of an upper word that is latched answers the latched word, and releases it. -/
theorem regRead_latched {d : Device} {v : View} {a lo n : Nat} {x : Word} (hpar : ∀ m k, parityCheck d a m k = d)
    (hgroup : groupOf a = some (lo, n)) (hupper : a ≠ lo) (hx : tget (fun _ => none) d.bus.shadow (viewKey v a) = some x) :
    regRead d v a = modBus (emit d (.read [x])) (fun b => { b with shadow := tset (fun _ => none) b.shadow (viewKey v a) none }) := by
  simp [regRead, hpar, hgroup, hupper, hx, answerRead, w32]

/-- A read of an upper word that is not latched answers the live word. -/
theorem regRead_live {d : Device} {v : View} {a lo n : Nat} (hpar : ∀ m k, parityCheck d a m k = d)
    (hgroup : groupOf a = some (lo, n)) (hupper : a ≠ lo) (hx : tget (fun _ => none) d.bus.shadow (viewKey v a) = none) :
    regRead d v a = emit d (.read [w32 (liveWord d v a)]) := by
  simp [regRead, hpar, hgroup, hupper, hx, answerRead]

/-- Settles O53: the low word with the shadows it sets, and an upper word with and without its shadow. -/
theorem groupReadsLatchTheirUpperWords : Obligations.GroupReadsLatchTheirUpperWords := by
  intro d v a n hpar
  refine ⟨fun hgroup htake => ?_, fun lo x hgroup hupper hx => regRead_latched hpar hgroup hupper hx,
    fun lo hgroup hupper hx => regRead_live hpar hgroup hupper hx⟩
  obtain ⟨hval, hother⟩ := tget_foldl_tset (fun _ => (none : Option Word)) (fun i => viewKey v (a + 4 + 4 * i))
    (fun i => some (((upTo (n - 1)).map (fun k => w32 (liveWord d v (a + 4 + 4 * k)))).getD i 0)) (viewKey_injective v (a + 4))
    d.bus.shadow (n - 1)
  have hlen : ((upTo (n - 1)).map (fun k => w32 (liveWord d v (a + 4 + 4 * k)))).length = n - 1 := by simp [upTo]
  rw [regRead_low hpar hgroup htake, latch_eq, hlen]
  refine ⟨rfl, rfl, fun k hk hkn => ?_, fun j hj => hother j fun i hi => ?_⟩
  · obtain ⟨i, rfl⟩ : ∃ i, k = i + 1 := ⟨k - 1, by omega⟩
    have hoff : a + 4 * (i + 1) = a + 4 + 4 * i := by omega
    have hi : i < n - 1 := by omega
    rw [hoff]
    refine (hval i hi).trans ?_
    simp [upTo, hi]
  · have hne := hj (i + 1) (by omega) (by omega)
    rwa [show a + 4 * (i + 1) = a + 4 + 4 * i by omega] at hne

/-! ### The rings' memory (R480, R505) -/

/-- The memory after a write of a word: its four bytes at their places. -/
theorem barWrite_bar2 (d : Device) (a : Nat) (x : Word) :
    (barWrite d a x).cmd.bar2 = (List.range 4).foldl
      (fun t i => tset (fun _ => (0 : Byte)) t (a + i) (BitVec.ofNat 8 (x.toNat / 2 ^ (8 * i)))) d.cmd.bar2 := by
  simp [barWrite, modCmd, wordBytes, List.range_succ]

/-- A word at a place of the rings' memory is written through the open PCIe view. -/
theorem access_bar2 {d : Device} {a : Nat} (x : Word) (hopen : pcieOpen d = true) (h4 : a % 4 = 0) (ha : a < 0x80000) :
    access d .pcie (2 ^ 24 + a) (.whole x) = barWrite d a x := by
  have hview : viewOpen d .pcie = true := hopen
  simp [access, hview, h4, ha]

/-- Settles O55: the access, and what the memory reads then (that 2^24 and the offset number BAR2 is log 40). -/
theorem ringMemoryHoldsWhatIsWritten : Obligations.RingMemoryHoldsWhatIsWritten := by
  intro a k j x h4 ha hk hj
  refine ⟨effect_of_run (fun w s => exec_registerWrite w .pcie (2 ^ 24 + a) (.whole x) s)
    (fun d hopen => access_bar2 x hopen h4 ha), fun d => ?_⟩
  obtain ⟨hval, hother⟩ := tget_foldl_tset (fun _ => (0 : Byte)) (fun i => a + i) (fun i => BitVec.ofNat 8 (x.toNat / 2 ^ (8 * i)))
    (fun _ _ h => Nat.add_left_cancel h) d.cmd.bar2 4
  rw [barWrite_bar2]
  exact ⟨hval k hk, hother j (fun i hi => by omega), rfl⟩

/-! ### The rows of the views (R504 to R522) -/

/-- A value that waits too long for its companion is given up, which is a failure of the view that wrote it. -/
theorem ppElapsed_of_stale {d : Device} {v : View} {a t : Nat} {x : Word} (hp : ppPending d a = some (viewNum v, x, t))
    (ht : t + ppWindow < d.dev) : ppElapsed d v a = ppFailAt (setPending d a none) (viewOf (viewNum v)) a := by
  simp only [ppElapsed, hp, if_true, ppExpire_of_stale hp ht]

/-- A read of an open view at an aligned offset of BAR0 reads a register. -/
theorem readAccess_of_open {d : Device} {v : View} {a : Nat} (hopen : viewOpen d v = true) (h4 : a % 4 = 0) (ha : a < 2 ^ 24) :
    readAccess d v a = regRead d v a := by
  have hbar : ¬ 2 ^ 24 ≤ a := Nat.not_le.mpr ha
  simp only [readAccess, hopen, h4, Bool.not_true, Bool.false_eq_true, if_false, ne_eq, not_true_eq_false, if_neg hbar]

/-- The scan of a register with parity checks it, upset or not. -/
theorem parityVisit_of_parity {d : Device} {a : Nat} (u : Bool) {i : RegInfo} (hinfo : regInfo a = some i) (hrun : running d = true)
    (hpar : i.par = true) :
    parityVisit d a u =
      parityCheck (if u && !d.parityBad.contains a then { d with parityBad := a :: d.parityBad } else d) a 0x80 4 := by
  simp only [parityVisit, hinfo, hrun, hpar, Bool.not_true, Bool.or_self, Bool.false_eq_true, if_false]

/-- Settles O30, row by row: the row runs its meaning by its view, and the conditions name the case of it. -/
theorem registerRowsReachTheirRegister : Obligations.RegisterRowsReachTheirRegister := by
  intro v
  refine ⟨fun a x => ?write, fun a x => ?eventClear, fun x => ?srcEn, fun x => ?lock, fun a x t => ?ppFail, fun x => ?fwdSel, ?fwdDone,
    ?fwdClr, fun a u i => ?scan, fun a => ?read⟩
  case write =>
    refine effect_of_run (fun w s => exec_registerWrite w v a (.whole x) s) ?_
    rintro d ⟨hreach, h4, ha, hpp⟩
    exact access_whole_of_reaches x hreach h4 ha hpp
  case eventClear =>
    refine effect_of_run (fun w s => exec_eventClear w v a x s) ?_
    rintro d ⟨hreach, h4, ha, hevent, hpp⟩
    rw [onlyIf_of _ _ hevent, access_whole_of_reaches x hreach h4 ha hpp]
  case srcEn => exact effect_of_viewWrite (fun w s => exec_glbSrcEnWrite w v x s)
  case lock =>
    refine effect_of_run (fun w s => exec_glbLock w v x s) ?_
    rintro d ⟨hreach, hopen⟩
    rw [viewWrite_of_reaches _ _ hreach, lockWrite_of_open v x.toNat hopen]
  case ppFail =>
    refine effect_of_run (fun w s => exec_ppFail w v a s) ?_
    rintro d ⟨hrun, hp, ht⟩
    rw [onlyIf_of _ _ hrun, ppElapsed_of_stale hp ht]
  case fwdSel => exact effect_of_viewWrite (fun w s => exec_fwdSelWrite w v x s)
  case fwdDone => exact effect_of_running exec_fwdSnapshotDone
  case fwdClr => exact effect_of_viewWrite (fun w s => exec_fwdClr w v s)
  case scan =>
    refine effect_of_run (fun w s => exec_parityScan w a u s) ?_
    rintro d ⟨hinfo, hrun, hpar⟩
    exact parityVisit_of_parity u hinfo hrun hpar
  case read =>
    refine effect_of_run (fun w s => exec_groupLowWordRead w v a s) ?_
    rintro d ⟨hopen, h4, ha⟩
    exact readAccess_of_open hopen h4 ha

/-! ### Pairs (R515, R544, R546, R577, R611, R620) -/

/-- The key of a register with nothing waiting, and then its companion, apply it. -/
theorem ppPair_of_key {d : Device} {v : View} {a : Nat} {x : Word} (hnone : ppPending d a = none) (hkey : ppKey a = some x.toNat) :
    ppPair d v a x (~~~x) = ppApply (setPending (setPending d a (some (viewNum v, x, d.dev))) a none) v a x := by
  have hwrite : ppWrite d v a x d.dev = setPending d a (some (viewNum v, x, d.dev)) := by
    have hfresh : ppExpire d a d.dev = d := ppExpire_of_fresh (by simp [hnone])
    simp [ppWrite, hfresh, hnone]
  rw [ppPair, hwrite, ppComp_of_pair (ppPending_setPending d a _) (Nat.le_add_right _ _) hkey]

/-- With no request waiting for ME1 there is none to carry out first. -/
theorem fltDrain_of_empty {d : Device} (h : d.flt.requests = []) : fltDrain d = d := by
  rw [fltDrain, h]
  rfl

/-- Settles O31, register by register: the pair goes to the register by the view, in FLT after the requests that wait. -/
theorem pairedWritesApplyTheirRegister : Obligations.PairedWritesApplyTheirRegister := by
  intro v
  refine ⟨?devReset, ?dormant, ?shearsReq, ?shearsRel, ?graftForce⟩
  case devReset =>
    refine effect_of_run (fun w s => exec_glbDevReset w v _ _ s) ?_
    rintro d ⟨hreach, hnone⟩
    rw [viewWrite_of_reaches _ _ hreach, ppPair_of_key hnone rfl]
  case dormant =>
    refine effect_of_run (fun w s => exec_glbDormant w v _ _ s) ?_
    rintro d ⟨hreach, hnone⟩
    rw [viewWrite_of_reaches _ _ hreach, ppPair_of_key hnone rfl]
  case shearsReq =>
    refine effect_of_run (fun w s => exec_fltShearsReq w v _ _ s) ?_
    rintro d ⟨hreach, hnone, hempty⟩
    rw [viewWrite_of_reaches _ _ hreach, fltDrain_of_empty hempty, ppPair_of_key hnone rfl]
  case shearsRel =>
    refine effect_of_run (fun w s => exec_fltShearsRel w v _ _ s) ?_
    rintro d ⟨hreach, hnone, hempty⟩
    rw [viewWrite_of_reaches _ _ hreach, fltDrain_of_empty hempty, ppPair_of_key hnone rfl]
  case graftForce =>
    refine effect_of_run (fun w s => exec_redGraftForce w v _ _ s) ?_
    rintro d ⟨hreach, hnone⟩
    rw [viewWrite_of_reaches _ _ hreach, ppPair_of_key hnone rfl]

end Sys2Proof.Machine
end

section
/-! The rows of the safety partition, of redundancy and of power under the conditions of their own-effect statements: for each row's
meaning, what it does in the case named; writes of FLT_PIN; and actions that are refused. -/

namespace Sys2Proof.Machine

open Sys2Proof

/-! ### The safety partition (R525 to R527, R538, R543, R549) -/

/-- ME1 carries out the oldest write that waits. -/
theorem fltNext_of_request {d : Device} {r : Nat × Nat × Word × Nat} {l : List (Nat × Nat × Word × Nat)}
    (h : d.flt.requests = r :: l) :
    fltNext d = fltWrite (modFlt d (fun s => { s with requests := l })) (viewOf r.1) r.2.1 r.2.2.1 r.2.2.2 := by
  rw [fltNext, h]

/-- Factory mode ends when its time is over. -/
theorem factoryEnds_of_over {d : Device} {t : Nat} (hend : d.flt.factoryEnd = some t) (ht : t ≤ d.now) :
    factoryEnds d = factoryStop d := by
  rw [factoryEnds, hend]
  exact if_pos ht

/-- Settles O32, row by row: the row runs its meaning, by its view where it is a write, and the conditions name the case of it. -/
theorem safetyRowsActOnThePartition : Obligations.SafetyRowsActOnThePartition := by
  refine ⟨fun r l => ?request, ?watchdog, ?selfcheck, fun v => ?rearm, fun v x => ?pin, ?pulseEnd, fun t => ?factory⟩
  case request =>
    refine effect_of_run exec_fltWriteRequest ?_
    rintro d ⟨hrun, hreqs⟩
    rw [onlyIf_of _ _ hrun, fltNext_of_request hreqs]
  case watchdog =>
    refine effect_of_run exec_me1Wdt ?_
    rintro d ⟨hrun, hwdt⟩
    exact onlyIf_of _ _ (by rw [hrun, hwdt]; rfl)
  case selfcheck => exact effect_of_run exec_safetySelfcheck (fun d hrun => onlyIf_of d _ hrun)
  case rearm => exact effect_of_viewWrite (fun w s => exec_rearm w v s)
  case pin => exact effect_of_viewWrite (fun w s => exec_fltPinWrite w v x s)
  case pulseEnd =>
    refine effect_of_run exec_faultPulseEnd ?_
    rintro d ⟨hosc, hheld⟩
    exact onlyIf_of _ _ (by rw [hosc, hheld]; rfl)
  case factory =>
    refine effect_of_run exec_factoryModeEnd ?_
    rintro d ⟨hheld, hend, ht⟩
    rw [onlyIf_of _ _ (by rw [hheld]; rfl), factoryEnds_of_over hend ht]

/-! ### Writes of FLT_PIN (R526, R542) -/

/-- A write of the safety partition through PCIe or SPI waits for ME1. -/
theorem regWrite_fltPin {v : View} (d : Device) (x : Word) (hv : v ≠ .fw) :
    regWrite d v Reg.FLT_PIN x = modFlt d (fun s => { s with requests := s.requests ++ [(viewNum v, Reg.FLT_PIN, x, d.dev)] }) := by
  have hres : reserved Reg.FLT_PIN = false := by decide
  have hglb : ¬ Reg.FLT_PIN < 0x1000 := by decide
  have hcmd : ¬ Reg.FLT_PIN < 0x20000 := by decide
  have hflt : inFlt Reg.FLT_PIN = true := by decide
  rw [regWrite, hres, if_neg Bool.false_ne_true, if_neg hglb, if_neg hcmd, if_pos hflt, if_neg hv, fltRequest]

/-- What ME1 does with a write of FLT_PIN. -/
theorem fltWrite_fltPin (d : Device) (v : View) (x : Word) (t : Nat) : fltWrite d v Reg.FLT_PIN x t = pinWrite d x.toNat := by
  have hpair : (Reg.FLT_PIN = Reg.FLT_SHEARS_REQ || Reg.FLT_PIN = Reg.FLT_SHEARS_REL) = false := by decide
  have hcomp : (Reg.FLT_PIN = Reg.FLT_SHEARS_REQ_N || Reg.FLT_PIN = Reg.FLT_SHEARS_REL_N) = false := by decide
  rw [fltWrite, hpair, hcomp, if_neg Bool.false_ne_true, if_neg Bool.false_ne_true, if_pos rfl]

/-- Outside a pulse the write is made at once. -/
theorem pinWrite_of_still {d : Device} (x : Nat) (h : d.flt.pulseEnd = none) : pinWrite d x = setFld d Reg.FLT_PIN 0 0 x := by
  simp [pinWrite, h]

/-- During a pulse it waits for the pulse's end. -/
theorem pinWrite_of_pulsing {d : Device} {t : Nat} (x : Nat) (h : d.flt.pulseEnd = some t) :
    pinWrite d x = modFlt d (fun s => { s with pinWait := some (x % 2) }) := by
  simp [pinWrite, h]

/-- The end of a pulse makes the write that waits. -/
theorem pulseDone_of_waiting {d : Device} {t v : Nat} (hend : d.flt.pulseEnd = some t) (ht : t ≤ d.now)
    (hwait : d.flt.pinWait = some v) :
    pulseDone d =
      modFlt (setFld (setFlag (modFlt d (fun s => { s with pulseEnd := none })) Reg.FLT_STATUS 2 false) Reg.FLT_PIN 0 0 v)
        (fun s => { s with pinWait := none }) := by
  simp [pulseDone, hend, ht, hwait]

/-- The lowest bit as a field is the bit. -/
theorem setFld_zero_eq_setFlag (d : Device) (a x : Nat) : setFld d a 0 0 x = setFlag d a 0 (bit x 0) := by
  have hbit : b2n (bit x 0) % 2 = x % 2 := by
    rcases Nat.mod_two_eq_zero_or_one x with h | h <;> simp [bit, b2n, h]
  simp [setFlag, setFld, withBits, hbit]

/-- Settles O59: the request, its carrying out, and the write outside and during a pulse. -/
theorem faultPinWritesWaitForMe1AndThePulse : Obligations.FaultPinWritesWaitForMe1AndThePulse := by
  refine ⟨fun d v x hv => regWrite_fltPin d x hv, fun d v x t hreqs => ?carriedOut, fun d x hstill => ?atOnce,
    fun d x t hpulse => ?atTheEnd⟩
  case carriedOut => rw [fltNext_of_request hreqs, fltWrite_fltPin]
  case atOnce =>
    rw [pinWrite_of_still x hstill, setFld_zero_eq_setFlag]
    exact ⟨flag_setFlag_self d _ _ _ (by decide), same_setFlag d _ _ (List.mem_singleton_self _)⟩
  case atTheEnd =>
    rw [pinWrite_of_pulsing x hpulse]
    refine ⟨rfl, fun now ht => ?_⟩
    have hdone := pulseDone_of_waiting (d := { modFlt d (fun s => { s with pinWait := some (x % 2) }) with now := now }) hpulse ht rfl
    rw [hdone, setFld_zero_eq_setFlag]
    refine ⟨?_, rfl⟩
    rw [flag_modFlt, flag_setFlag_self _ _ _ _ (by decide)]
    simp [bit]

/-! ### Redundancy (R558 to R582) -/

/-- A mirror record goes out where none has been sent (that a member in a state from STANDBY on sends them is log 48). -/
theorem mirrorSend_of_first {d : Device} (hready : coreReady d = true) (hst : 2 ≤ graftSt d) (hfirst : d.red.mirrorSent = none) :
    mirrorSend d = modRed (emit d (.mirror (ownRecord d))) (fun r => { r with mirrorSent := some d.dev }) := by
  simp [mirrorSend, hready, hst, hfirst]

/-- A handover that takes too long ends, and the commands that asked for it fail. -/
theorem handoverTmo_of_over {d : Device} {t : Nat} (hend : d.red.handover = some t) (ht : t ≤ d.dev) :
    handoverTmo d = each (working d 0x0B03) (handoverEnd d) (fun d c => fail d c stNoResource) := by
  rw [handoverTmo, hend]
  exact if_pos ht

/-- A data frame of Brely is taken. -/
theorem brelyFrame_of_data {d : Device} {b : List Byte} (htick : ticking d = true) (hready : coreReady d = true)
    (htype : beAt b 12 2 ≠ 0x88B5) (hlen : inRange b.length 64 10240 = true) (hfcs : fcsGood b = true) (hawake : standby d = false) :
    brelyFrame d b = brelyData d b := by
  have hdata : (beAt b 12 2 == 0x88B5) = false := beq_false_of_ne htype
  simp only [brelyFrame, htick, hready, hdata, hlen, hfcs, hawake, Bool.not_true, Bool.or_self, Bool.false_eq_true, if_false]

/-- Settles O33, row by row: the row runs its meaning, by its view where it is a write, and the conditions name the case of it. -/
theorem redundancyRowsActOnTheClaims : Obligations.RedundancyRowsActOnTheClaims := by
  refine ⟨?brelySend, fun k m => ?brelyRx, ?pinSend, fun m => ?pinRx, fun k => ?brelyTmo, ?pinTmo, fun fs => ?aligned,
    fun fs => ?alignLost, ?diverged, ?restore, ?mirrorSend, fun r => ?mirrorRx, ?mirrorDone, ?lastGasp, fun t => ?handover,
    fun v => ?pairHold, fun b => ?data⟩
  case brelySend => exact effect_of_running (f := brelySend) exec_brelyClaimSend
  case brelyRx => exact effect_of_running (fun w s => exec_brelyClaimRx w k m s)
  case pinSend => exact effect_of_run exec_claimPinSend (fun d hheld => onlyIf_of d _ (by rw [hheld]; rfl))
  case pinRx => exact effect_of_running (fun w s => exec_claimPinRx w m s)
  case brelyTmo => exact effect_of_running (fun w s => exec_brelyPathTmo w k s)
  case pinTmo => exact effect_of_running exec_pinPathTmo
  case aligned => exact effect_of_run (fun w s => exec_alignedTimer w fs s) (fun _ _ => rfl)
  case alignLost => exact effect_of_run (fun w s => exec_alignLost w fs s) (fun _ _ => rfl)
  case diverged => exact effect_of_running exec_diverged
  case restore => exact effect_of_running exec_restoreHoldEnd
  case mirrorSend =>
    refine effect_of_run exec_mirrorRecordSend ?_
    rintro d ⟨hrun, hready, hst, hfirst⟩
    rw [onlyIf_of _ _ hrun, mirrorSend_of_first hready hst hfirst]
  case mirrorRx =>
    refine effect_of_run (fun w s => exec_mirrorRecordRx w r s) ?_
    rintro d ⟨hrun, hready⟩
    exact onlyIf_of _ _ (by rw [hrun, hready]; rfl)
  case mirrorDone => exact effect_of_running exec_mirrorDone
  case lastGasp => exact effect_of_run exec_lastGasp (fun d hheld => onlyIf_of d _ (by rw [hheld]; rfl))
  case handover =>
    refine effect_of_run exec_handoverTmo ?_
    rintro d ⟨hrun, hend, ht⟩
    rw [onlyIf_of _ _ hrun, handoverTmo_of_over hend ht]
  case pairHold => exact effect_of_viewWrite (fun w s => exec_pairHoldClr w v s)
  case data =>
    refine effect_of_run (fun w s => exec_brelyFrameRx w b s) ?_
    rintro d ⟨htick, hready, htype, hlen, hfcs, hawake⟩
    exact brelyFrame_of_data htick hready htype hlen hfcs hawake

/-! ### Power and resets (R597 to R623) -/

/-- A brown-out of 1 µs of a device out of reset takes it into power-on reset; that of VDD33 is noted, too. -/
theorem brownOut_of_long {d : Device} {rail k : Nat} (hk : usTicks ≤ k) (hheld : d.pwr.resetHeld = false) :
    brownOut d rail k = if rail = 0 then vddGone (powerOnHeld d 3 0) else powerOnHeld d 3 0 := by
  rw [brownOut, if_neg (Nat.not_lt.mpr hk), if_neg (Bool.eq_false_iff.mp hheld)]

/-- RESET_N low for 10 µs takes a device out of reset into power-on reset. -/
theorem resetLow_of_long {d : Device} {k : Nat} (hk : 10 * usTicks ≤ k) (hheld : d.pwr.resetHeld = false) :
    resetLow d k = powerOnHeld d 2 0 := by
  simp [resetLow, Nat.not_lt.mpr hk, hheld]

/-- The wake timer of Dormant wakes when its time is over, within its clock's tolerance. -/
theorem timerWake_of_over {d : Device} {t : Nat} (hdormant : d.pwr.dormant = some t) (hset : rd d Reg.GLB_WAKE_TIMER ≠ 0)
    (hover : rd d Reg.GLB_WAKE_TIMER * secTicks * 95 ≤ (d.now - t) * 100) : timerWake d = wakeEvent d 2 := by
  simp only [timerWake, hdormant]
  exact onlyIf_of _ _ (by simp [hset, hover])

/-- Rails that outlast 100 ms of Dormant are taken to be kept. -/
theorem railsStay_of_long {d : Device} {t : Nat} (hdormant : d.pwr.dormant = some t) (hvdd : d.pwr.vdd33 = true)
    (ht : t + 100 * msTicks ≤ d.now) : railsStay d = modPwr d (fun p => { p with railsKept := true }) := by
  simp [railsStay, hdormant, hvdd, ht]

/-- A bed that wakes has woken. -/
theorem wakeDone_bed {d : Device} {b : Fin 4} (h : (d.pwr.bedWake.getD b none).isSome = true) :
    wakeDone d (.bed b) =
      setFlag (modPwr d (fun p => { p with bedWake := p.bedWake.set b none })) Reg.GLB_PWR_STATUS (8 + b) false :=
  if_pos h

/-- A core that wakes has woken, and the frames it held go in. -/
theorem wakeDone_core {d : Device} (h : d.pwr.coreWake.isSome = true) :
    wakeDone d .core =
      each d.pwr.held (setFlag (modPwr d (fun p => { p with coreWake := none, held := [] })) Reg.GLB_PWR_STATUS 12 false) heldFrame :=
  if_pos h

/-- Settles O34, row by row: the row runs its meaning, and the conditions name the case of it. -/
theorem powerRowsActOnThePower : Obligations.PowerRowsActOnThePower := by
  refine ⟨fun straps => ?release, fun rail k => ?brownOut, fun k => ?brownOutVdd, fun k => ?resetN, fun k => ?pcieReset, ?selfcheck,
    fun a b => ?boot, ?coreReady, fun k t => ?wakeN, fun t => ?wakeTimer, fun t => ?rails, ?flash, fun b => ?bedWake, ?coreWake,
    ?linkUp⟩
  case release => exact effect_of_run (fun w s => exec_powerOnResetRelease w straps s) (fun _ _ => rfl)
  case brownOut =>
    refine effect_of_run (fun w s => exec_brownOut w rail k s) ?_
    rintro d ⟨hk, hheld, hrail⟩
    rw [brownOut_of_long hk hheld, if_neg hrail]
  case brownOutVdd =>
    refine effect_of_run (fun w s => exec_brownOut w 0 k s) ?_
    rintro d ⟨hk, hheld⟩
    exact (brownOut_of_long hk hheld).trans (if_pos rfl)
  case resetN =>
    refine effect_of_run (fun w s => exec_resetN w k s) ?_
    rintro d ⟨hk, hheld⟩
    exact resetLow_of_long hk hheld
  case pcieReset => exact effect_of_run (fun w s => exec_pcieFundamentalReset w k s) (fun _ _ => rfl)
  case selfcheck =>
    refine effect_of_run (fun w s => exec_safetySelfcheckPass w true s) ?_
    rintro d ⟨htick, hnew⟩
    exact onlyIf_of _ _ (by rw [htick, hnew]; rfl)
  case boot =>
    refine effect_of_run (fun w s => exec_mainImageVerified w a b s) ?_
    rintro d ⟨hrun, hcheck, hnew⟩
    exact onlyIf_of _ _ (by rw [hrun, hcheck, hnew]; rfl)
  case coreReady =>
    refine effect_of_run exec_coreReady ?_
    rintro d ⟨hrun, himage, hrec, hnew⟩
    exact onlyIf_of _ _ (by rw [hrun, himage, hrec, hnew]; rfl)
  case wakeN =>
    refine effect_of_run (fun w s => exec_wakeN w k s) ?_
    rintro d ⟨hk, -⟩
    exact onlyIf_of _ _ (decide_eq_true hk)
  case wakeTimer =>
    refine effect_of_run exec_wakeTimer ?_
    rintro d ⟨hdormant, hset, hover⟩
    exact timerWake_of_over hdormant hset hover
  case rails =>
    refine effect_of_run exec_dormantRailsKept ?_
    rintro d ⟨hdormant, hvdd, ht⟩
    exact railsStay_of_long hdormant hvdd ht
  case flash => exact effect_of_running exec_flashProgrammingDone
  case bedWake =>
    refine effect_of_run (fun w s => exec_lowPowerWakeDone w (.bed b) s) ?_
    rintro d ⟨hrun, hwake⟩
    rw [onlyIf_of _ _ hrun, wakeDone_bed hwake]
  case coreWake =>
    refine effect_of_run (fun w s => exec_lowPowerWakeDone w .core s) ?_
    rintro d ⟨hrun, hwake⟩
    rw [onlyIf_of _ _ hrun, wakeDone_core hwake]
  case linkUp => exact effect_of_running exec_pcieLinkUp

/-! ### Refused actions (R577) -/

/-- The device at reset as a STANDBY member (state 4) with its outputs enabled (bit 3): what a forced takeover finds. -/
def standbyMember : Device := wr State.reset.dev Reg.RED_GRAFT_STATUS 12

/-- Refutes O58: a forced takeover of the STANDBY member notes that it stands until a message comes after it (`forced`, R577 by log
48), which the plain change of state to ACTIVE takes away. -/
theorem not_refusedActionsChangeOnlyTheirEvent : ¬ Obligations.RefusedActionsChangeOnlyTheirEvent := by
  rintro ⟨-, -, -, htakeover, -⟩
  have hsame := htakeover standbyMember (by decide)
  have hforced : (graftForce standbyMember).red.forced = true := by decide
  have hplain : (outEnable (setGraft standbyMember 3)).red.forced = false := by decide
  rw [hsame, hplain] at hforced
  exact Bool.false_ne_true hforced

end Sys2Proof.Machine
end
